-- ==== Sys2Proof/Word.lean ====
section
/-! DEFINITION. The words the K-26 stores and sends. Bit vectors are used only for what the manual
treats as bits: bytes, addresses and tags on the wire, masked match fields, check values, and the
counters that software reads as words of a stated width. Lengths, cell counts, indices and token
counts are `Nat`. -/

namespace Sys2Proof

/-- One byte of a frame, of a bank record or of a report (0.5, Byte order). -/
abbrev Byte := BitVec 8

/-- A 2-byte field: node address, tag, flag set, generation, event sequence. -/
abbrev Word16 := BitVec 16

/-- A 4-byte field: check value, peek, uptime, port counter. -/
abbrev Word32 := BitVec 32

end Sys2Proof
end

