-- ==== Sys2Proof/Syntax.lean ====
section
/-! DEFINITION. The commands of the block: one constructor of `Instr` per row of
spec/opcode_table.json, in the table's order. A row is a happening of the part (0.3: "a single event
at the block that owns the state concerned, taken whole"). Rows that act on a management command
carry no operand: their operand is the command frame at the head of the management command queue,
which reached it through the reception rows (R127, R154). -/

namespace Sys2Proof

/-- A line port (0.6). -/
inductive Port where
  | a
  | b
  deriving DecidableEq, Repr

/-- What a line reports on its link pin (R121). -/
inductive LinkState where
  | down
  | up
  deriving DecidableEq, Repr

/-- The five strap pins (R136). `fallbackActive` is the FALLBACK strap: inactive gives PASS (R33). -/
structure Straps where
  nodeAddr : BitVec 4
  fallbackActive : Bool
  deriving DecidableEq, Repr

/-- The pins read at the end of a pin reset: straps and link pins (R121, R136). -/
structure Pins where
  straps : Straps
  aLink : LinkState
  bLink : LinkState
  deriving DecidableEq, Repr

/-- The five tables of a bank (R89). -/
inductive Table where
  | policy
  | prefilter
  | meters
  | actions
  | rules
  deriving DecidableEq, Repr

/-- The two banks (R89). -/
inductive BankId where
  | bank0
  | bank1
  deriving DecidableEq, Repr

/-- The happening in which the response of a RESTART command is reported or lost, and with it the
restart taken (R143, R165): the end of its transmission, its port leaving UP because the link pin
fell, or the command's own happening, which loses it when the port is not UP already (R153). -/
inductive SettledBy where
  | sent (p : Port)
  | linkFell (p : Port)
  | lostAtOnce
  deriving DecidableEq, Repr

/-- The rows of spec/opcode_table.json. -/
inductive Instr where
  /-- PIN_RESET: power-up or RESET asserted; `pins` as they stand at the end of the reset (R149). -/
  | pinReset (pins : Pins)
  /-- LINK_PIN_CHANGE: A_LINK or B_LINK now reports `level` (R121). -/
  | linkPinChange (p : Port) (level : LinkState)
  /-- FRAME_START on the carrier of `p` (R124). -/
  | frameStart (p : Port)
  /-- RECEPTION_CELL_CLAIM: `bytes` arrive at `p`, the last of them past a multiple of 64 (R124). -/
  | receptionCellClaim (p : Port) (bytes : List Byte)
  /-- OVERSIZE_CUTOFF: `bytes` arrive at `p`, the last of them the 1042nd (R125). -/
  | oversizeCutoff (p : Port) (bytes : List Byte)
  /-- LINE_ABORT on the carrier of `p` (R125). -/
  | lineAbort (p : Port)
  /-- FRAME_END: the remaining `bytes` arrive at `p`, then the carrier ends the frame (R126). -/
  | frameEnd (p : Port) (bytes : List Byte)
  /-- CLASSIFY: the classifier takes, classifies and disposes one record (R34). -/
  | classify
  /-- REFILL: the 1 ms refill timer fires (R80). -/
  | refill
  /-- MALFORMED_COMMAND at the head of the command queue (R152). -/
  | malformedCommand
  /-- UNKNOWN_COMMAND at the head of the command queue (R152). -/
  | unknownCommand
  /-- DISCOVER (R159). -/
  | discover
  /-- OPEN_SESSION (R156). -/
  | openSession
  /-- CLOSE_SESSION (R156). -/
  | closeSession
  /-- GET_SETTING (R160). -/
  | getSetting
  /-- SET_NODE_ADDRESS: SET_SETTING of node_address (R151). -/
  | setNodeAddress
  /-- SET_SESSION_TIMEOUT: SET_SETTING of session_timeout (R157). -/
  | setSessionTimeout
  /-- SET_VERIFY_PERIOD: SET_SETTING of verify_period (R112). -/
  | setVerifyPeriod
  /-- SET_FALLBACK: SET_SETTING of fallback (R33). -/
  | setFallback
  /-- SET_PORT_ENABLE: SET_SETTING of port_enable (R121). -/
  | setPortEnable
  /-- SET_QUEUE_LIMIT: SET_SETTING of queue_limit (R139). -/
  | setQueueLimit
  /-- SET_POOL_LOW_MARK: SET_SETTING of pool_low_mark (R134). -/
  | setPoolLowMark
  /-- SET_POOL_HIGH_MARK: SET_SETTING of pool_high_mark (R134). -/
  | setPoolHighMark
  /-- READ_TABLE (R161). -/
  | readTable
  /-- READ_NEXT (R161). -/
  | readNext
  /-- WRITE_TABLE (R95). -/
  | writeTable
  /-- COMMIT (R96). -/
  | commit
  /-- ABORT_EDIT (R105). -/
  | abortEdit
  /-- READ_COUNTERS_HITS (R26). -/
  | readCountersHits
  /-- READ_COUNTERS_PORT (R129). -/
  | readCountersPort
  /-- READ_COUNTERS_METER (R87). -/
  | readCountersMeter
  /-- READ_COUNTERS_PREFILTER (R76). -/
  | readCountersPrefilter
  /-- READ_COUNTERS_MGMT (R167). -/
  | readCountersMgmt
  /-- READ_COUNTERS_INTEGRITY (R120). -/
  | readCountersIntegrity
  /-- READ_STATUS (R159). -/
  | readStatus
  /-- SET_LISTENER naming a node and port (R176). -/
  | setListener
  /-- SET_LISTENER_NONE (R178). -/
  | setListenerNone
  /-- ACK_EVENT (R173). -/
  | ackEvent
  /-- RESTART_LIGHT: the RESTART command with LIGHT (R165). -/
  | restartLight
  /-- RESTART_FULL: the RESTART command with FULL (R165). -/
  | restartFull
  /-- LIGHT_RESTART: the happening that settles the response of a RESTART LIGHT (R149, R165). -/
  | lightRestart (by_ : SettledBy)
  /-- FULL_RESTART: the happening that settles the response of a RESTART FULL, with the straps as
  they stand at its end (R136, R149, R165). -/
  | fullRestart (by_ : SettledBy) (straps : Straps)
  /-- SESSION_IDLE_EXPIRY (R157). -/
  | sessionIdleExpiry
  /-- SIGNING_STEP (R97). -/
  | signingStep
  /-- SWAP (R101). -/
  | swap
  /-- COPYING_STEP (R103). -/
  | copyingStep
  /-- END_OF_COPYING (R103). -/
  | endOfCopying
  /-- VERIFY_PERIOD_EXPIRY (R112). -/
  | verifyPeriodExpiry
  /-- SWEEP_STEP (R113). -/
  | sweepStep
  /-- VERDICT_PASS (R114). -/
  | verdictPass
  /-- VERDICT_FAIL (R115). -/
  | verdictFail
  /-- STORAGE_UPSET: the record `index` of `table` in `bank` takes `content` (R118). -/
  | storageUpset (bank : BankId) (table : Table) (index : Nat) (content : List Byte)
  /-- RESERVE_GRANT: the reserve arbiter examines the waiting claims (R131). -/
  | reserveGrant
  /-- MGMT_OUT_ADMIT: the management-out queue of `p` judges the waiting offers (R140). -/
  | mgmtOutAdmit (p : Port)
  /-- TRANSMISSION_START at `p` (R141). -/
  | transmissionStart (p : Port)
  /-- TRANSMISSION_END at `p` (R144). -/
  | transmissionEnd (p : Port)
  /-- EVENT_SEND (R172). -/
  | eventSend
  /-- RETRY_TIMER_EXPIRY (R174). -/
  | retryTimerExpiry
  /-- PUNT_TAKE (R179). -/
  | puntTake
  /-- UPTIME_COUNT (R166). -/
  | uptimeCount
  deriving DecidableEq, Repr

end Sys2Proof
end

