-- ==== Sys2Proof/Config.lean ====
section
/-! DEFINITION. What the part fixes: the capacities of chapter 0.6 and the constants the chapters
name. The manual leaves no value of a working part open, so there is no free value here
(NOTES.md, Scope). -/

namespace Sys2Proof.Config

/-- General cells of the pool (R130). -/
def generalCells : Nat := 512
/-- Reserve cells of the pool (R130). -/
def reserveCells : Nat := 24
/-- Bytes of one cell (R7). -/
def cellBytes : Nat := 64
/-- The most bytes a reception stores; the next one cuts it off (R125). -/
def maxFrameBytes : Nat := 1041
/-- Frame records of one ingress queue (R28). -/
def ingressDepth : Nat := 8
/-- Frames of the management command queue (R127). -/
def commandDepth : Nat := 4
/-- Frames of one management-out queue (R137). -/
def mgmtOutDepth : Nat := 4
/-- Records of the event queue (R169). -/
def eventDepth : Nat := 16
/-- Entries of the punt queue (R178). -/
def puntDepth : Nat := 8
/-- Most bytes a punt report copies (R179). -/
def puntCopyBytes : Nat := 128
/-- Most bytes of a response body (10.3). -/
def responseBodyBytes : Nat := 240
/-- Most resends of one head record (R174). -/
def maxRetries : Nat := 3
/-- The largest burst a meter uses (R78, R86). -/
def maxBurst : Nat := 1048575
/-- Bytes of a serialized bank (R91). -/
def bankBytes : Nat := 31404

/-- Kind of a management frame (R1). -/
def kindMgmt : Byte := 2#8
/-- The destination taken by the first K-26 it reaches (R2). -/
def nearest : Word16 := 0xFFFE#16
/-- Base of the strapped node address (R136). -/
def strapBase : Word16 := 0xFE00#16
/-- Hop budget of a frame the part builds (R153, R172). -/
def builtHop : Byte := 255#8

end Sys2Proof.Config
end

