-- ==== Sys2Proof/Machine/Bytes.lean ====
section
/-! DEFINITION. Byte order and counters: reading and writing fields most significant byte first
(0.5), and the saturating counters of 0.5. -/

namespace Sys2Proof.Machine

/-- Byte `i` of a sequence; a byte beyond its end reads as 0 (R9 for peek). -/
def byteAt (l : List Byte) (i : Nat) : Byte := l.getD i 0#8

/-- A 2-byte field at offset `i`, most significant byte first (0.5). -/
def u16At (l : List Byte) (i : Nat) : Word16 := byteAt l i ++ byteAt l (i + 1)

/-- A 4-byte field at offset `i`, most significant byte first (0.5). -/
def u32At (l : List Byte) (i : Nat) : Word32 := u16At l i ++ u16At l (i + 2)

/-- A 4-byte field sent least significant byte first: the check word alone (R5). -/
def u32LeAt (l : List Byte) (i : Nat) : Word32 :=
  (byteAt l (i + 3) ++ byteAt l (i + 2)) ++ (byteAt l (i + 1) ++ byteAt l i)

/-- The `n` bytes of a number, most significant first (0.5). -/
def beBytes (n v : Nat) : List Byte :=
  (List.range n).map fun i => BitVec.ofNat 8 (v / 256 ^ (n - 1 - i))

/-- A 2-byte field as it is sent (0.5). -/
def word16Bytes (w : Word16) : List Byte := beBytes 2 w.toNat

/-- A 4-byte field as it is sent (0.5). -/
def word32Bytes (w : Word32) : List Byte := beBytes 4 w.toNat

/-- The check word as it is sent, least significant byte first (R5). -/
def checkWordBytes (w : Word32) : List Byte := (word32Bytes w).reverse

/-- `l` cut or padded with 0 to `n` bytes (12.5: detail, padded with 0). -/
def padTo (n : Nat) (l : List Byte) : List Byte := (l ++ List.replicate n 0#8).take n

/-- A saturating counter stops at its largest value (0.5). -/
def satInc {n : Nat} (c : BitVec n) : BitVec n :=
  if c = BitVec.allOnes n then c else c + 1#n

/-- Subtraction of the captured lost value, which never exceeds the count (R170). -/
def subFloor (c d : Word16) : Word16 := if d ≤ c then c - d else 0#16

/-- `n / d` rounded up, for `d > 0` (R7). -/
def ceilDiv (n d : Nat) : Nat := (n + (d - 1)) / d

end Sys2Proof.Machine
end

