-- ==== Sys2Proof/Machine/Layout.lean ====
section
/-! DEFINITION. The tables of a bank, their records and the serialization order (R89, R91), the codes
of 12.2, and the stored image and cell count of a frame (R7). -/

namespace Sys2Proof.Machine

/-- Records of a table (R89). -/
def recordCount : Table → Nat
  | .policy => 1
  | .prefilter => 1
  | .meters => 64
  | .actions => 256
  | .rules => 512

/-- Bytes of one record of a table (R89). -/
def recordSize : Table → Nat
  | .policy => 6
  | .prefilter => 38
  | .meters => 6
  | .actions => 81
  | .rules => 20

/-- Serialized offset of a table's first record (R91). -/
def tableBase : Table → Nat
  | .policy => 0
  | .prefilter => 6
  | .meters => 44
  | .actions => 428
  | .rules => 21164

/-- Serialized offset of a record (R91). -/
def recordOffset (t : Table) (i : Nat) : Nat := tableBase t + recordSize t * i

/-- The table that follows in serialization order (R91). -/
def nextTable : Table → Option Table
  | .policy => some .prefilter
  | .prefilter => some .meters
  | .meters => some .actions
  | .actions => some .rules
  | .rules => none

/-- Table codes (12.2). -/
def tableCode : Table → Byte
  | .policy => 1#8
  | .prefilter => 2#8
  | .meters => 3#8
  | .actions => 4#8
  | .rules => 5#8

/-- The table a code names (12.2, R181). -/
def tableOfCode (c : Byte) : Option Table :=
  if c = 1#8 then some .policy
  else if c = 2#8 then some .prefilter
  else if c = 3#8 then some .meters
  else if c = 4#8 then some .actions
  else if c = 5#8 then some .rules
  else none

/-- Port codes (12.2). -/
def portCode : Port → Byte
  | .a => 1#8
  | .b => 2#8

/-- The port a code names (12.2, R181). -/
def portOfCode (c : Byte) : Option Port :=
  if c = 1#8 then some .a else if c = 2#8 then some .b else none

/-- The port opposite (R32). -/
def otherPort : Port → Port
  | .a => .b
  | .b => .a

/-- The bank that is not `b` (R89). -/
def otherBank : BankId → BankId
  | .bank0 => .bank1
  | .bank1 => .bank0

/-- Offset of the payload in the received bytes of a frame with `t` tags (12.1). -/
def payloadOffset (t : Nat) : Nat := 9 + 2 * t

/-- Bytes of the stored image of a reception that holds `bytes` (R7): 4 more than the bytes received
until tagctl has arrived, then the received bytes with the tag area widened to 4 bytes. -/
def imageLength (bytes : List Byte) : Nat :=
  if bytes.length < 7 then bytes.length + 4
  else 11 + (bytes.length - (7 + 2 * min 2 (byteAt bytes 6).toNat))

/-- General cells a reception needs for its image (R7, R124); the first is claimed at frame start. -/
def cellsForImage (bytes : List Byte) : Nat := ceilDiv (imageLength bytes) Config.cellBytes

/-- Cells of a frame whose payload is `len` bytes (R7, R8). -/
def cellsForPayload (len : Nat) : Nat := ceilDiv (17 + len) Config.cellBytes

end Sys2Proof.Machine
end

