-- ==== Sys2Proof/Machine/State.lean ====
section
/-! DEFINITION. The state of the part as plain data: every register, setting, queue, counter, mode and
pin the manual gives it, block by block, and the queue of waiting commands. `State.reset` is the part
right after a pin reset. -/

namespace Sys2Proof.Machine

/-! ### Frames -/

/-- The tag stack, outer tag on top; it holds at most two tags (R12). -/
inductive TagStack where
  | empty
  | one (outer : Word16)
  | two (outer inner : Word16)
  deriving DecidableEq, Repr

/-- Outcome of the prefilter (R70). -/
inductive PfOutcome where
  | hit
  | miss
  | bypass
  deriving DecidableEq, Repr

/-- A destination set (R48). -/
structure PortSet where
  a : Bool
  b : Bool
  deriving DecidableEq, Repr

/-- Why classification dropped a frame (R67's table, the rows that are frame drops). -/
inductive DropReason where
  | fallbackBlock
  | prefilterMiss
  | ruleDrop (code : Fin 16)
  | hopExpired
  | noDestination
  deriving DecidableEq, Repr

/-- A general cell, by number (R130). The manual numbers no cell: DESIGN CHOICE (log 12). -/
abbrev GeneralCell := Fin 512

/-- Disposition state of a frame record (R9, R45). -/
structure Disposition where
  dest : PortSet
  cls : Fin 4
  mirror : Option Port
  punt : Bool
  drop : Option DropReason
  deriving DecidableEq, Repr

/-- The frame record (R9). `rxLen` is the received byte length; `flags` holds the sixteen frame flags
at the bit numbers of 12.2; `cellList` names the cells of the stored image in image order, the first
holding dest (R13). -/
structure FrameRecord where
  ingress : Port
  dest : Word16
  src : Word16
  kind : Byte
  hop : Byte
  tags : TagStack
  len : Nat
  peek : Word32
  rxLen : Nat
  flags : Word16
  pf : Option PfOutcome
  generation : Option Word16
  slot : Option Nat
  disp : Disposition
  cellList : List GeneralCell
  deriving DecidableEq, Repr

/-- A stored received frame: the received bytes that the cells of its record's cell list hold as its
stored image (R7, R13), its holder count (R132) and its one record (R9). `id` is the model's own name
for the frame: DESIGN CHOICE (log 12). -/
structure RxFrame where
  id : Nat
  holders : Nat
  bytes : List Byte
  record : FrameRecord
  deriving DecidableEq, Repr

/-- A reception in progress (8.2): RECEIVING with the bytes stored and the general cells held, in
the order of their claims, which is image order (R7, R13), or DISCARDING, which holds no cells. -/
inductive Reception where
  | receiving (bytes : List Byte) (cells : List GeneralCell)
  | discarding
  deriving DecidableEq, Repr

/-- The two restarts a RESTART command names (R165). -/
inductive RestartKind where
  | light
  | full
  deriving DecidableEq, Repr

/-- Who built a frame (R131). A response to a RESTART that was taken carries the restart that its
output brings about (R165). -/
inductive Builder where
  | response (restart : Option RestartKind)
  | event
  | punt
  deriving DecidableEq, Repr

/-- A frame the part built, with the port it is to leave through. Kind, hop and check word are the
same for all of them (R153, R172). Its one holder is the place that holds it (R132). -/
structure Built where
  port : Port
  builder : Builder
  dest : Word16
  src : Word16
  tags : TagStack
  payload : List Byte
  deriving DecidableEq, Repr

/-! ### Ports and egress -/

/-- Operational state of a port (R121). -/
inductive OperState where
  | disabled
  | down
  | up
  deriving DecidableEq, Repr

/-- A copy in a class queue: the frame it refers to and that frame's cell count (R137). -/
structure Copy where
  frame : Nat
  cells : Nat
  deriving DecidableEq, Repr

/-- A class queue, oldest copy first, and its queue_limit setting (R137). -/
structure ClassQueue where
  entries : List Copy
  limit : Nat
  deriving DecidableEq, Repr

/-- What a transmission is sending, and the queue it came from (R137). -/
inductive TxSource where
  | copy (c : Copy) (cls : Fin 4)
  | built (b : Built)
  deriving DecidableEq, Repr

/-- A transmission in progress: its source and the bytes it puts on the line (R142), as a whole:
DESIGN CHOICE (log 11). -/
structure Transmission where
  source : TxSource
  wire : List Byte
  deriving DecidableEq, Repr

/-- A line port: port_enable, link pin, reception, the 38 port counters in the order of R129's table,
the four class queues and the transmitter, IDLE when `tx` is `none` (R121, R129, R137). The
management-out queue is in `Commons`. -/
structure PortUnit where
  enabled : Bool
  link : LinkState
  reception : Option Reception
  counters : Vector Word32 38
  queues : Vector ClassQueue 4
  tx : Option Transmission
  deriving DecidableEq, Repr

/-! ### Cell pool, builders and event unit -/

/-- The cell pool (R130): the free general cells, the free reserve count, and the marks. `low` is pool
state POOL_LOW. -/
structure Pool where
  free : List GeneralCell
  freeReserve : Nat
  low : Bool
  lowMark : Nat
  highMark : Nat
  deriving DecidableEq, Repr

/-- The management counters (R167). -/
structure MgmtCounters where
  overrun : Word32
  malformed : Word32
  respLost : Word32
  eventsLost : Word32
  puntsSent : Word32
  deriving DecidableEq, Repr

/-- Cause of a RESTARTED event (R149). -/
inductive RestartCause where
  | power
  | light
  | full
  deriving DecidableEq, Repr

/-- Reason of a SESSION_ENDED event (R157). -/
inductive EndReason where
  | closed
  | expired
  | link
  | restart
  deriving DecidableEq, Repr

/-- Reason of a COMMIT_FAILED event (R98, R99). -/
inductive CommitReason where
  | widthMarker
  | wideAlign
  | widePair
  | portMatch
  | lengthBounds
  | enum
  | burst
  | listLength
  | verb
  | operand
  deriving DecidableEq, Repr

/-- A record of a bank, named by table and index (R91). -/
structure RecordRef where
  table : Table
  index : Nat
  deriving DecidableEq, Repr

/-- Kind and detail of an event (R169, 12.5). -/
inductive EventKind where
  | restarted (cause : RestartCause)
  | linkUp (p : Port)
  | linkDown (p : Port) (oper : OperState)
  | sessionOpened (node : Word16) (p : Port) (number : Byte)
  | sessionEnded (reason : EndReason) (node : Word16) (number : Byte)
  | commitDone (generation : Word16) (signature : Word32) (origin : Option Word16)
  | commitFailed (record : RecordRef) (step : Option Nat) (reason : CommitReason)
      (origin : Option Word16)
  | tableFault (stored computed : Word32)
  | poolLow (free : Nat)
  | poolOk (free : Nat)
  deriving DecidableEq, Repr

/-- An event record (R169). -/
structure EventRecord where
  seq : Word16
  uptime : Word32
  generation : Word16
  kind : EventKind
  deriving DecidableEq, Repr

/-- Where the report of the head is (R171): none in flight, waiting for a reserve cell, built and
waiting for room in the management-out queue, or in that queue or on the line. -/
inductive Flight where
  | none
  | claiming
  | offering (b : Built)
  | queued
  deriving DecidableEq, Repr

/-- What the sender holds in AWAITING_ACK (R171). -/
structure Awaiting where
  retry : Nat
  captured : Word16
  timer : Bool
  flight : Flight
  deriving DecidableEq, Repr

/-- The event sender (R171). -/
inductive Sender where
  | idle
  | awaiting (w : Awaiting)
  deriving DecidableEq, Repr

/-- The punt side's claim or report outstanding, if any (R179). -/
inductive PuntStage where
  | idle
  | claiming
  | offering (b : Built)
  deriving DecidableEq, Repr

/-- A listener: node and port (R168). -/
structure Listener where
  node : Word16
  port : Port
  deriving DecidableEq, Repr

/-- The event unit (chapter 11). `queue` is oldest first; `puntQueue` names frames, oldest first. -/
structure EventUnit where
  listener : Option Listener
  queue : List EventRecord
  nextSeq : Word16
  lost : Word16
  sender : Sender
  puntQueue : List Nat
  punt : PuntStage
  deriving DecidableEq, Repr

/-- The endpoint's state with the response it is putting out (R154): IDLE; WAITING_OUTPUT with its
claim or its offer waiting; RESTART_PENDING. EXECUTING is held only within a happening and no state
holds it. `restartDue` likewise stands only within the happening in which the response of a RESTART
was reported or lost, until that happening applies the restart (R165). -/
inductive Output where
  | idle
  | claiming (b : Built)
  | offering (b : Built)
  | restartPending (k : RestartKind)
  | restartDue (k : RestartKind)
  deriving DecidableEq, Repr

/-- What the pool, the reserve arbiter, the management-out queues, the builders and the event unit
share: a claim, an offer or an event of one of them acts on the others in the same happening. -/
structure Commons where
  pool : Pool
  frames : List RxFrame
  nextFrame : Nat
  mgmtOutA : List Built
  mgmtOutB : List Built
  output : Output
  mgmt : MgmtCounters
  events : EventUnit
  deriving DecidableEq, Repr

/-! ### Endpoint -/

/-- Role of a bank (R89). -/
inductive Role where
  | active
  | shadow
  deriving DecidableEq, Repr

/-- The read cursor (R155). -/
structure Cursor where
  table : Table
  role : Role
  next : Nat
  deriving DecidableEq, Repr

/-- A response header and body (10.3), as the replay copy keeps it (R155). -/
structure Response where
  version : Byte
  command : Byte
  session : Byte
  seq : Byte
  status : Byte
  detail : Byte
  body : List Byte
  deriving DecidableEq, Repr

/-- The session record of an OPEN session (R155). `timer` is the period in ms that the running idle
timer was started with (R157). -/
structure Session where
  node : Word16
  port : Port
  number : Byte
  lastSeq : Option Byte
  replay : Option Response
  cursor : Option Cursor
  timer : Nat
  deriving DecidableEq, Repr

/-- The management endpoint's own state (R150): session NONE is `session = none`. -/
structure Endpoint where
  nodeAddress : Word16
  uptime : Word32
  commands : List Nat
  session : Option Session
  lastNumber : Byte
  sessionTimeout : Nat
  deriving DecidableEq, Repr

/-! ### Classifier, prefilter and meters -/

/-- Classifier mode (R31). -/
inductive Mode where
  | unloaded
  | normal
  | faulted
  deriving DecidableEq, Repr

/-- The fallback setting of a port (R33). -/
inductive Fallback where
  | pass
  | block
  deriving DecidableEq, Repr

/-- The pair of hit counters of one slot (R24). -/
structure HitCounter where
  frames : BitVec 40
  bytes : BitVec 48
  deriving DecidableEq, Repr

/-- The classifier: mode, fallback settings, ingress queues oldest first, round-robin pointer and the
two hit arrays (2.5 to 2.7). The no-match counters are port counters (R129). -/
structure Classifier where
  mode : Mode
  fallbackA : Fallback
  fallbackB : Fallback
  ingressA : List Nat
  ingressB : List Nat
  lastServed : Port
  current : Vector HitCounter 512
  previous : Vector HitCounter 512
  deriving DecidableEq, Repr

/-- The prefilter counters (R75). -/
structure PfCounters where
  hits : Word32
  misses : Word32
  bypasses : Word32
  deriving DecidableEq, Repr

/-- Live state of one meter (R79). -/
structure Meter where
  tokens : Nat
  green : Word32
  red : Word32
  deriving DecidableEq, Repr

/-! ### Banks, table controller and verify unit -/

/-- The stored bytes of a bank, by serialized offset (R91): strictly rising offsets, no entry 0. A byte
not listed reads as 0, which is what a pin reset leaves in every byte (R89, 12.3). -/
abbrev Bank := List Host.Cell

/-- Controller state (R92). In SIGNING and COPYING `pos` is the sweep position, `none` once the last
RULES slot has been taken; SIGNING holds its check computation (R96). -/
inductive CtlState where
  | editing
  | signing (pos : Option RecordRef) (check : Word32)
  | copying (pos : Option RecordRef)
  deriving DecidableEq, Repr

/-- The banks and the table controller (chapter 6). -/
structure Controller where
  bank0 : Bank
  bank1 : Bank
  active : BankId
  generation : Word16
  signature : Word32
  state : CtlState
  dirty : Bool
  origin : Option Word16
  deriving DecidableEq, Repr

/-- Verify unit state (R111). `period` is what the running period timer was started with; `pos` is the
sweep position, `none` once the last RULES slot has been read. -/
inductive VerifyState where
  | waiting (period : Nat)
  | sweeping (pos : Option RecordRef) (check : Word32)
  | stopped
  deriving DecidableEq, Repr

/-- Verdict of the most recent sweep that gave one (R111). -/
inductive LastResult where
  | none
  | pass
  | fail
  deriving DecidableEq, Repr

/-- Values of the most recent FAIL verdict (R111). -/
structure LastFault where
  generation : Word16
  stored : Word32
  computed : Word32
  deriving DecidableEq, Repr

/-- The verify unit with the verify_period setting and the integrity record (R111, R112). -/
structure Verify where
  state : VerifyState
  period : Nat
  passes : Word32
  faults : Word32
  lastResult : LastResult
  lastFault : Option LastFault
  deriving DecidableEq, Repr

/-! ### The part -/

/-- The whole part. `pending` is the queue of commands that wait, first in, first out. -/
structure State where
  pending : List Instr
  straps : Straps
  portA : PortUnit
  portB : PortUnit
  commons : Commons
  endpoint : Endpoint
  classifier : Classifier
  prefilter : PfCounters
  meters : Vector Meter 64
  tables : Controller
  verify : Verify
  deriving DecidableEq, Repr

/-- Nothing in the manual stops the part: it names no fault of that kind, and no step raises one. -/
inductive Fault where
  deriving DecidableEq, Repr

/-- Why a command has no meaning in the model. -/
inductive Refusal where
  /-- Raised only by an arm of `exec` for a row without a meaning; safe. No row is without one. -/
  | notModelled (mnemonic : String)
  deriving DecidableEq, Repr

/-! ### Reset -/

/-- A port after a pin reset or FULL restart, its link pin reporting `link` (R121, R129, R137). -/
def PortUnit.afterReset (link : LinkState) : PortUnit where
  enabled := true
  link := link
  reception := none
  counters := Vector.replicate 38 0#32
  queues := Vector.replicate 4 { entries := [], limit := 128 }
  tx := none

/-- The event unit after a pin reset or FULL restart (R177). -/
def EventUnit.afterReset (cause : RestartCause) : EventUnit where
  listener := none
  queue := [{ seq := 1#16, uptime := 0#32, generation := 0#16, kind := .restarted cause }]
  nextSeq := 2#16
  lost := 0#16
  sender := .idle
  puntQueue := []
  punt := .idle

/-- Pool, builders and event unit after a pin reset or FULL restart (R135, R150, R177). That the free cells
stand from 0 to 511: DESIGN CHOICE (log 12). -/
def Commons.afterReset (cause : RestartCause) : Commons where
  pool := { free := List.finRange Config.generalCells, freeReserve := Config.reserveCells, low := false,
            lowMark := 64, highMark := 128 }
  frames := []
  nextFrame := 0
  mgmtOutA := []
  mgmtOutB := []
  output := .idle
  mgmt := { overrun := 0#32, malformed := 0#32, respLost := 0#32, eventsLost := 0#32,
            puntsSent := 0#32 }
  events := EventUnit.afterReset cause

/-- The endpoint after a pin reset or FULL restart (R136, R150, R160). -/
def Endpoint.afterReset (straps : Straps) : Endpoint where
  nodeAddress := Config.strapBase + straps.nodeAddr.setWidth 16
  uptime := 0#32
  commands := []
  session := none
  lastNumber := 0#8
  sessionTimeout := 50

/-- The fallback setting the FALLBACK strap gives (R33). -/
def Fallback.ofStrap (active : Bool) : Fallback := if active then .block else .pass

/-- A hit counter at zero. -/
def HitCounter.zero : HitCounter := { frames := 0#40, bytes := 0#48 }

/-- The classifier after a pin reset or FULL restart (R27, R29, R30, R31, R33). -/
def Classifier.afterReset (straps : Straps) : Classifier where
  mode := .unloaded
  fallbackA := Fallback.ofStrap straps.fallbackActive
  fallbackB := Fallback.ofStrap straps.fallbackActive
  ingressA := []
  ingressB := []
  lastServed := .b
  current := Vector.replicate 512 HitCounter.zero
  previous := Vector.replicate 512 HitCounter.zero

/-- The controller after a pin reset or FULL restart: both banks hold the cleared table set, whose
every byte is 0 (R89, R90, R92, 12.3). -/
def Controller.afterReset : Controller where
  bank0 := []
  bank1 := []
  active := .bank0
  generation := 0#16
  signature := 0#32
  state := .editing
  dirty := false
  origin := none

/-- The verify unit after a pin reset or FULL restart (R111, R112). -/
def Verify.afterReset : Verify where
  state := .stopped
  period := 1000
  passes := 0#32
  faults := 0#32
  lastResult := .none
  lastFault := none

/-- The part after a pin reset (cause POWER) or FULL restart (cause FULL), its link pins reporting
`aLink` and `bLink` and its straps read as `straps` (R136, R149). -/
def State.afterReset (straps : Straps) (aLink bLink : LinkState) (cause : RestartCause) : State where
  pending := []
  straps := straps
  portA := PortUnit.afterReset aLink
  portB := PortUnit.afterReset bLink
  commons := Commons.afterReset cause
  endpoint := Endpoint.afterReset straps
  classifier := Classifier.afterReset straps
  prefilter := { hits := 0#32, misses := 0#32, bypasses := 0#32 }
  meters := Vector.replicate 64 { tokens := 0, green := 0#32, red := 0#32 }
  tables := Controller.afterReset
  verify := Verify.afterReset

/-- The part right after a pin reset. DESIGN CHOICE (log 1): the levels of the pins are inputs; here the
straps are all inactive and both link pins report DOWN. `Instr.pinReset` gives every other level. -/
def State.reset : State :=
  State.afterReset { nodeAddr := 0#4, fallbackActive := false } .down .down .power

end Sys2Proof.Machine
end

