-- ==== Sys2Proof/Machine/Memory.lean ====
section
/-! DEFINITION. The storage of a bank: reading and writing one byte, a record and a run of records at
their serialized offsets (R91, R95), in the one canonical form of `Bank`. -/

namespace Sys2Proof.Machine

/-- The stored byte at a serialized offset; a byte not listed is 0 (R89, 12.3). -/
def Bank.read : Bank → Nat → Byte
  | [], _ => 0#8
  | (k, v) :: rest, a => if k = a then v else Bank.read rest a

/-- Store one byte, keeping the canonical form. -/
def Bank.write : Bank → Nat → Byte → Bank
  | [], a, v => if v = 0#8 then [] else [(a, v)]
  | (k, w) :: rest, a, v =>
    if a < k then (if v = 0#8 then (k, w) :: rest else (a, v) :: (k, w) :: rest)
    else if a = k then (if v = 0#8 then rest else (a, v) :: rest)
    else (k, w) :: Bank.write rest a v

/-- Store a run of bytes from an offset on. -/
def Bank.writeBytes (b : Bank) (a : Nat) : List Byte → Bank
  | [] => b
  | v :: vs => Bank.writeBytes (b.write a v) (a + 1) vs

/-- `n` stored bytes from an offset on. -/
def Bank.readBytes (b : Bank) (a n : Nat) : List Byte := (List.range n).map fun k => b.read (a + k)

/-- The stored bytes of one record (R91). -/
def Bank.record (b : Bank) (t : Table) (i : Nat) : List Byte :=
  b.readBytes (recordOffset t i) (recordSize t)

/-- Store the bytes of consecutive records from index `i` on (R95). -/
def Bank.setRecords (b : Bank) (t : Table) (i : Nat) (body : List Byte) : Bank :=
  b.writeBytes (recordOffset t i) body

/-- A 2-byte field of a bank, most significant byte first (12.3). -/
def Bank.u16 (b : Bank) (a : Nat) : Word16 := b.read a ++ b.read (a + 1)

/-- A 4-byte field of a bank, most significant byte first (12.3). -/
def Bank.u32 (b : Bank) (a : Nat) : Word32 := b.u16 a ++ b.u16 (a + 2)

/-- The serialized bank (R91). -/
def Bank.serialized (b : Bank) : List Byte := b.readBytes 0 Config.bankBytes

/-- Canonical from offset `lo` on: offsets strictly rising, no byte 0 listed. -/
def Bank.wfFrom (lo : Nat) : Bank → Bool
  | [] => true
  | (k, v) :: rest => decide (lo ≤ k) && (v != 0#8) && Bank.wfFrom (k + 1) rest

/-- The canonical form of a bank. -/
def Bank.wf (b : Bank) : Bool := Bank.wfFrom 0 b

/-- The bank with an identifier. -/
def Controller.bank (c : Controller) : BankId → Bank
  | .bank0 => c.bank0
  | .bank1 => c.bank1

/-- Replace the bank with an identifier. -/
def Controller.setBank (c : Controller) (i : BankId) (b : Bank) : Controller :=
  match i with
  | .bank0 => { c with bank0 := b }
  | .bank1 => { c with bank1 := b }

/-- The bank that classifies traffic (R89). -/
def Controller.activeBank (c : Controller) : Bank := c.bank c.active

/-- The bank that takes edits (R89). -/
def Controller.shadowBank (c : Controller) : Bank := c.bank (otherBank c.active)

/-- Replace the shadow bank. -/
def Controller.setShadow (c : Controller) (b : Bank) : Controller :=
  c.setBank (otherBank c.active) b

/-- The bank that holds a role (R109). -/
def Controller.roleBank (c : Controller) : Role → Bank
  | .active => c.activeBank
  | .shadow => c.shadowBank

/-- The first record in serialization order (R91). -/
def firstRecord : RecordRef := { table := .policy, index := 0 }

/-- The record after `r` in serialization order, `none` after the last RULES slot (R91). -/
def nextRecord (r : RecordRef) : Option RecordRef :=
  if r.index + 1 < recordCount r.table then some { r with index := r.index + 1 }
  else (nextTable r.table).map fun t => { table := t, index := 0 }

end Sys2Proof.Machine
end

