-- ==== Sys2Proof/Machine/Counters.lean ====
section
/-! DEFINITION. The 38 port counters in the order of R129's table, and access to the parts of a port
and of the two ports. -/

namespace Sys2Proof.Machine

/-- The counters of a port (R129). -/
inductive PortCounter where
  | receivedGood
  | transmitted
  | transmittedMgmt
  | runt
  | malformed
  | oversize
  | checkFail
  | noBuffer
  | lineAbort
  | linkDown
  | ingressFull
  | fallbackBlock
  | prefilterMiss
  | ruleDrop
  | hopExpired
  | noDestination
  | code (c : Fin 16)
  | puntNoListener
  | puntFull
  | queueFull
  | mirrorDrop
  | txAbort
  | noMatch
  deriving DecidableEq, Repr

/-- Place of a counter in R129's table, the sixteen code counters in code order (12.4). -/
def counterIndex : PortCounter → Fin 38
  | .receivedGood => 0
  | .transmitted => 1
  | .transmittedMgmt => 2
  | .runt => 3
  | .malformed => 4
  | .oversize => 5
  | .checkFail => 6
  | .noBuffer => 7
  | .lineAbort => 8
  | .linkDown => 9
  | .ingressFull => 10
  | .fallbackBlock => 11
  | .prefilterMiss => 12
  | .ruleDrop => 13
  | .hopExpired => 14
  | .noDestination => 15
  | .code c => ⟨16 + c.val, by omega⟩
  | .puntNoListener => 32
  | .puntFull => 33
  | .queueFull => 34
  | .mirrorDrop => 35
  | .txAbort => 36
  | .noMatch => 37

/-- The value of a port counter. -/
def PortUnit.counter (u : PortUnit) (c : PortCounter) : Word32 := u.counters[counterIndex c]

/-- Add one to a port counter, which saturates (R129). -/
def PortUnit.count (u : PortUnit) (c : PortCounter) : PortUnit :=
  { u with counters := u.counters.set (counterIndex c) (satInc (u.counter c)) }

/-- The operational state follows from port_enable and the link state (R121). -/
def PortUnit.oper (u : PortUnit) : OperState :=
  if u.enabled then (match u.link with | .up => .up | .down => .down) else .disabled

/-- Occupancy of a class queue: the cells of its copies, each counted (R137). -/
def ClassQueue.occupancy (q : ClassQueue) : Nat := (q.entries.map (·.cells)).sum

/-- The class queue of a class. -/
def PortUnit.queue (u : PortUnit) (c : Fin 4) : ClassQueue := u.queues[c]

/-- Replace the class queue of a class. -/
def PortUnit.setQueue (u : PortUnit) (c : Fin 4) (q : ClassQueue) : PortUnit :=
  { u with queues := u.queues.set c q }

/-- The unit of a port. -/
def State.port (s : State) : Port → PortUnit
  | .a => s.portA
  | .b => s.portB

/-- Replace the unit of a port. -/
def State.setPort (s : State) (p : Port) (u : PortUnit) : State :=
  match p with
  | .a => { s with portA := u }
  | .b => { s with portB := u }

/-- Add one to a counter of a port. -/
def State.count (s : State) (p : Port) (c : PortCounter) : State := s.setPort p ((s.port p).count c)

/-- The free general count (R130, R133). -/
def Pool.freeGeneral (x : Pool) : Nat := x.free.length

/-- Whether a port's operational state is UP (R121). -/
def State.isUp (s : State) (p : Port) : Bool := decide ((s.port p).oper = .up)

end Sys2Proof.Machine
end

