-- ==== Sys2Proof/Machine/Check.lean ====
section
/-! DEFINITION. The check function of R5: the 32-bit check value of a byte sequence, which is the check
word of a segment frame and the signature of a serialized bank. -/

namespace Sys2Proof.Machine

/-- The register before the first byte (R5). -/
def checkInit : Word32 := 0xFFFFFFFF#32

/-- One step of the register (R5). -/
def checkStep (c : Word32) : Word32 :=
  if c.getLsbD 0 then (c >>> 1) ^^^ 0xEDB88320#32 else c >>> 1

/-- One byte taken into the register (R5). -/
def checkByte (c : Word32) (b : Byte) : Word32 :=
  Nat.repeat checkStep 8 (c ^^^ b.setWidth 32)

/-- A run of bytes taken in order. -/
def checkBytes (c : Word32) (bytes : List Byte) : Word32 := bytes.foldl checkByte c

/-- The check value once the last byte has been taken (R5). -/
def checkFinish (c : Word32) : Word32 := ~~~c

/-- The check value of a sequence (R5). -/
def checkValue (bytes : List Byte) : Word32 := checkFinish (checkBytes checkInit bytes)

end Sys2Proof.Machine
end

