-- ==== Sys2Proof/Machine/Flags.lean ====
section
/-! DEFINITION. The sixteen frame flags at the bit numbers of 12.2, the guard of a step (R46) and the
flag changes of intake, classification and the verbs (R12, R14, R15). -/

namespace Sys2Proof.Machine

/-- The frame flags (1.6). -/
inductive FrameFlag where
  | user (n : Fin 8)
  | tagged
  | double
  | pfHit
  | pfMiss
  | eq
  | lt
  | red
  | fault
  deriving DecidableEq, Repr

/-- Bit number of a flag (12.2). -/
def flagBit : FrameFlag → Nat
  | .user n => n.val
  | .tagged => 8
  | .double => 9
  | .pfHit => 10
  | .pfMiss => 11
  | .eq => 12
  | .lt => 13
  | .red => 14
  | .fault => 15

/-- The flag set holding one flag. -/
def flagMask (f : FrameFlag) : Word16 := 1#16 <<< flagBit f

/-- Whether a flag is set. -/
def hasFlag (flags : Word16) (f : FrameFlag) : Bool := flags.getLsbD (flagBit f)

/-- Set or clear one flag. -/
def putFlag (flags : Word16) (f : FrameFlag) (v : Bool) : Word16 :=
  if v then flags ||| flagMask f else flags &&& ~~~flagMask f

/-- A guard holds when every required flag is set and every forbidden flag is clear (R46). -/
def guardHolds (flags required forbidden : Word16) : Bool :=
  flags &&& required == required && flags &&& forbidden == 0#16

/-- Number of tags on the stack (R12). -/
def TagStack.count : TagStack → Nat
  | .empty => 0
  | .one _ => 1
  | .two _ _ => 2

/-- TAGGED and DOUBLE follow the number of tags (R12). -/
def putTagFlags (flags : Word16) (tags : TagStack) : Word16 :=
  putFlag (putFlag flags .tagged (decide (1 ≤ tags.count))) .double (decide (tags.count = 2))

/-- The flags of a new record (R14). -/
def intakeFlags (tags : TagStack) : Word16 := putTagFlags 0#16 tags

/-- The take clears EQ, LT, RED and FAULT (R15, R34). -/
def clearTakeFlags (flags : Word16) : Word16 :=
  putFlag (putFlag (putFlag (putFlag flags .eq false) .lt false) .red false) .fault false

/-- U0 to U7 become the initial user-flag set of POLICY; the other flags stay (R15). -/
def putUserFlags (flags : Word16) (set : Byte) : Word16 :=
  (flags &&& 0xFF00#16) ||| set.setWidth 16

/-- PF_HIT for HIT, PF_MISS for MISS, neither for BYPASS (R73). -/
def putPfFlags (flags : Word16) (o : PfOutcome) : Word16 :=
  putFlag (putFlag flags .pfHit (decide (o = .hit))) .pfMiss (decide (o = .miss))

end Sys2Proof.Machine
end

