-- ==== Sys2Proof/Machine/Frames.lean ====
section
/-! DEFINITION. Segment frames: reading the fields of received bytes, the intake checks, the frame
record of a good frame (chapter 1), and the bytes of a transmitted frame (R142). -/

namespace Sys2Proof.Machine

/-- The tagctl byte (12.1). -/
def rxTagctl (bytes : List Byte) : Nat := (byteAt bytes 6).toNat

/-- The src field (12.1). -/
def rxSrc (bytes : List Byte) : Word16 := u16At bytes 2

/-- The len field, which stands after the tags (12.1). -/
def rxLenField (bytes : List Byte) : Nat := (u16At bytes (7 + 2 * rxTagctl bytes)).toNat

/-- Why an intake check fails (R126). -/
inductive IntakeFail where
  | runt
  | malformed
  | oversize
  | checkFail
  deriving DecidableEq, Repr

/-- The intake checks in order; the first that fails gives the reason (R1, R126). -/
def intakeCheck (bytes : List Byte) : Option IntakeFail :=
  if bytes.length < 13 then some .runt
  else if 3 ≤ rxTagctl bytes ∨ rxSrc bytes = 0xFFFF#16 then some .malformed
  else if 1024 < rxLenField bytes then some .oversize
  else if bytes.length ≠ 13 + 2 * rxTagctl bytes + rxLenField bytes then some .malformed
  else if checkValue (bytes.take (bytes.length - 4)) ≠ u32LeAt bytes (bytes.length - 4) then
    some .checkFail
  else none

/-- The tag stack of a received frame: the first tag on the wire is the outer tag (R3). -/
def rxTags (bytes : List Byte) : TagStack :=
  if rxTagctl bytes = 0 then .empty
  else if rxTagctl bytes = 1 then .one (u16At bytes 7)
  else .two (u16At bytes 7) (u16At bytes 9)

/-- The payload of a received frame (12.1). -/
def rxPayload (bytes : List Byte) : List Byte :=
  (bytes.drop (payloadOffset (rxTagctl bytes))).take (rxLenField bytes)

/-- The disposition state a record starts with (R9, R45). -/
def Disposition.initial : Disposition :=
  { dest := { a := false, b := false }, cls := 0, mirror := none, punt := false, drop := none }

/-- The frame record of a good reception, with the cells that the reception claimed (R9, R13, R14). -/
def makeRecord (p : Port) (bytes : List Byte) (cells : List GeneralCell) : FrameRecord where
  ingress := p
  dest := u16At bytes 0
  src := rxSrc bytes
  kind := byteAt bytes 4
  hop := byteAt bytes 5
  tags := rxTags bytes
  len := rxLenField bytes
  peek := u32At (rxPayload bytes) 0
  rxLen := bytes.length
  flags := intakeFlags (rxTags bytes)
  pf := none
  generation := none
  slot := none
  disp := Disposition.initial
  cellList := cells

/-- The cell count of a stored frame: the length of its cell list (R7). -/
def RxFrame.cells (f : RxFrame) : Nat := f.record.cellList.length

/-- The tags as they stand on the wire, outer first (R3). -/
def TagStack.wire : TagStack → List Byte
  | .empty => []
  | .one o => word16Bytes o
  | .two o i => word16Bytes o ++ word16Bytes i

/-- A segment frame with its check word computed over what precedes it (R6, R142). -/
def segmentFrame (dest src : Word16) (kind hop : Byte) (tags : TagStack) (payload : List Byte) :
    List Byte :=
  let covered := word16Bytes dest ++ word16Bytes src ++ [kind, hop, BitVec.ofNat 8 tags.count] ++
    tags.wire ++ beBytes 2 payload.length ++ payload
  covered ++ checkWordBytes (checkValue covered)

/-- The transmitted form of a received frame: the header of its record, the payload of its cells
(R13, R142). -/
def RxFrame.wire (f : RxFrame) : List Byte :=
  segmentFrame f.record.dest f.record.src f.record.kind f.record.hop f.record.tags
    (rxPayload f.bytes)

/-- The transmitted form of a built frame (R142, R153, R172). -/
def Built.wire (b : Built) : List Byte :=
  segmentFrame b.dest b.src Config.kindMgmt Config.builtHop b.tags b.payload

/-- Reserve cells of a built frame (R8). -/
def Built.cells (b : Built) : Nat := cellsForPayload b.payload.length

/-- The outer tag, absent on an empty stack (R12). -/
def TagStack.outer? : TagStack → Option Word16
  | .empty => none
  | .one o => some o
  | .two o _ => some o

/-- The inner tag, absent on a stack of fewer than two tags (R12). -/
def TagStack.inner? : TagStack → Option Word16
  | .two _ i => some i
  | _ => none

end Sys2Proof.Machine
end

