-- ==== Sys2Proof/Machine/Reports.lean ====
section
/-! DEFINITION. The frames the event unit builds: codes and details of events, the event report and the
punt report (R172, R179, 12.5). -/

namespace Sys2Proof.Machine

/-- Operational state codes (12.2). -/
def operCode : OperState → Byte
  | .disabled => 0#8
  | .down => 1#8
  | .up => 2#8

/-- RESTARTED causes (12.5). -/
def causeCode : RestartCause → Byte
  | .power => 0#8
  | .light => 1#8
  | .full => 2#8

/-- SESSION_ENDED reasons (12.5). -/
def endReasonCode : EndReason → Byte
  | .closed => 1#8
  | .expired => 2#8
  | .link => 3#8
  | .restart => 4#8

/-- Commit failure reasons (12.5). -/
def commitReasonCode : CommitReason → Byte
  | .widthMarker => 1#8
  | .wideAlign => 2#8
  | .widePair => 3#8
  | .portMatch => 4#8
  | .lengthBounds => 5#8
  | .enum => 6#8
  | .burst => 7#8
  | .listLength => 8#8
  | .verb => 9#8
  | .operand => 10#8

/-- A node or slot field; an absent value has the code 0xFFFF (12.2). -/
def optWord16 (w : Option Word16) : List Byte := word16Bytes (w.getD 0xFFFF#16)

/-- Event kind codes (12.5). -/
def eventCode : EventKind → Byte
  | .restarted _ => 1#8
  | .linkUp _ => 2#8
  | .linkDown _ _ => 3#8
  | .sessionOpened _ _ _ => 4#8
  | .sessionEnded _ _ _ => 5#8
  | .commitDone _ _ _ => 6#8
  | .commitFailed _ _ _ _ => 7#8
  | .tableFault _ _ => 8#8
  | .poolLow _ => 9#8
  | .poolOk _ => 10#8

/-- Detail bytes of an event (R169, 12.5). -/
def eventDetail : EventKind → List Byte
  | .restarted c => [causeCode c]
  | .linkUp p => [portCode p]
  | .linkDown p o => [portCode p, operCode o]
  | .sessionOpened node p number => word16Bytes node ++ [portCode p, number]
  | .sessionEnded reason node number => [endReasonCode reason] ++ word16Bytes node ++ [number]
  | .commitDone gen sig origin => word16Bytes gen ++ word32Bytes sig ++ optWord16 origin
  | .commitFailed r step reason origin =>
    [tableCode r.table] ++ beBytes 2 r.index ++
      [(step.map (BitVec.ofNat 8)).getD 0xFF#8, commitReasonCode reason] ++ optWord16 origin
  | .tableFault stored computed => word32Bytes stored ++ word32Bytes computed
  | .poolLow free => beBytes 2 free
  | .poolOk free => beBytes 2 free

/-- Payload of an event report, 22 bytes (R172, 12.5). -/
def eventPayload (r : EventRecord) (captured : Word16) : List Byte :=
  [1#8, 0x80#8] ++ word16Bytes r.seq ++ word16Bytes captured ++ word32Bytes r.uptime ++
    word16Bytes r.generation ++
    [eventCode r.kind, BitVec.ofNat 8 (eventDetail r.kind).length] ++ padTo 8 (eventDetail r.kind)

/-- The event report of a record, addressed to the listener (R172). -/
def eventReport (l : Listener) (nodeAddress : Word16) (r : EventRecord) (captured : Word16) :
    Built where
  port := l.port
  builder := .event
  dest := l.node
  src := nodeAddress
  tags := .empty
  payload := eventPayload r captured

/-- Drop reason codes a frame record can hold (12.5). -/
def dropCode : Option DropReason → Byte
  | none => 0#8
  | some .fallbackBlock => 9#8
  | some .prefilterMiss => 10#8
  | some (.ruleDrop _) => 11#8
  | some .hopExpired => 12#8
  | some .noDestination => 13#8

/-- The drop code of a RULE_DROP, 0 otherwise (12.5). -/
def ruleDropCode : Option DropReason → Byte
  | some (.ruleDrop c) => BitVec.ofNat 8 c.val
  | _ => 0#8

/-- Payload of a punt report: what the record holds after disposition and the first received bytes
(R13, R179, 12.5). -/
def puntPayload (f : RxFrame) : List Byte :=
  [1#8, 0x81#8, portCode f.record.ingress] ++ word16Bytes (f.record.generation.getD 0#16) ++
    optWord16 (f.record.slot.map (BitVec.ofNat 16)) ++ word16Bytes f.record.flags ++
    [dropCode f.record.disp.drop, ruleDropCode f.record.disp.drop] ++ beBytes 2 f.record.rxLen ++
    f.bytes.take (min Config.puntCopyBytes f.record.rxLen)

/-- The punt report of a frame, addressed to the listener (R179). -/
def puntReport (l : Listener) (nodeAddress : Word16) (f : RxFrame) : Built where
  port := l.port
  builder := .punt
  dest := l.node
  src := nodeAddress
  tags := .empty
  payload := puntPayload f

end Sys2Proof.Machine
end

