-- ==== Sys2Proof/Machine/Ops.lean ====
section
/-! DEFINITION. The shared operations over the cell pool, the stored frames, the reserve arbiter, the
management-out queues and the event unit. An operation acts on `Commons` alone, given what it reads
of the rest of the part (`Env`), so that nothing else can change; `State.onCommons` lifts it.

The order of the layers is that of the happenings: a post may begin a send (R172), a release of
general cells may post (R133), a grant of a punt claim releases a frame (R179), and a return of
reserve cells makes grants (R131). -/

namespace Sys2Proof.Machine

/-- What `Commons` reads of the rest of the part: the stamps of an event (R169), the source address of
built frames (R153), and which ports are UP (R140). -/
structure Env where
  generation : Word16
  uptime : Word32
  nodeAddress : Word16
  upA : Bool
  upB : Bool
  deriving DecidableEq, Repr

/-- Whether a port is UP. -/
def Env.up (e : Env) : Port → Bool
  | .a => e.upA
  | .b => e.upB

/-- What the rest of the part shows to `Commons`. -/
def State.env (s : State) : Env where
  generation := s.tables.generation
  uptime := s.endpoint.uptime
  nodeAddress := s.endpoint.nodeAddress
  upA := s.isUp .a
  upB := s.isUp .b

/-- Run an operation of `Commons` within the part. -/
def State.onCommons (f : Env → Commons → Commons) (s : State) : State :=
  { s with commons := f s.env s.commons }

namespace Commons

/-! ### Plain access -/

/-- The management-out queue of a port (R137). -/
def mgmtOut (x : Commons) : Port → List Built
  | .a => x.mgmtOutA
  | .b => x.mgmtOutB

/-- Replace the management-out queue of a port. -/
def setMgmtOut (x : Commons) (p : Port) (q : List Built) : Commons :=
  match p with
  | .a => { x with mgmtOutA := q }
  | .b => { x with mgmtOutB := q }

/-- A built frame joins the tail of its port's management-out queue (R140). -/
def pushMgmtOut (x : Commons) (b : Built) : Commons :=
  x.setMgmtOut b.port (x.mgmtOut b.port ++ [b])

/-- The stored frame with an identifier. -/
def frame? (x : Commons) (id : Nat) : Option RxFrame := x.frames.find? fun f => f.id == id

/-- Change the sender. -/
def setSender (x : Commons) (snd : Sender) : Commons :=
  { x with events := { x.events with sender := snd } }

/-- Change the punt side's stage. -/
def setPunt (x : Commons) (st : PuntStage) : Commons :=
  { x with events := { x.events with punt := st } }

/-- Reserve cells leave the free count (R131). -/
def takeReserve (x : Commons) (n : Nat) : Commons :=
  { x with pool := { x.pool with freeReserve := x.pool.freeReserve - n } }

/-- Reserve cells return to the free count; the arbiter has yet to look (R131). -/
def giveReserve (x : Commons) (n : Nat) : Commons :=
  { x with pool := { x.pool with freeReserve := x.pool.freeReserve + n } }

/-- RESP_LOST rises by one (R153). -/
def countRespLost (x : Commons) : Commons :=
  { x with mgmt := { x.mgmt with respLost := satInc x.mgmt.respLost } }

/-! ### Claims and offers that wait -/

/-- A response claim waits at the reserve arbiter (R131). -/
def responseClaimWaits (x : Commons) : Bool :=
  match x.output with
  | .claiming _ => true
  | _ => false

/-- An event report claim waits at the reserve arbiter (R131). -/
def eventClaimWaits (x : Commons) : Bool :=
  match x.events.sender with
  | .awaiting w => decide (w.flight = .claiming)
  | .idle => false

/-- A response waits for room in the management-out queue of `p` (R140). -/
def responseOfferWaits (x : Commons) (p : Port) : Bool :=
  match x.output with
  | .offering b => decide (b.port = p)
  | _ => false

/-- An event report waits for room in the management-out queue of `p` (R140). -/
def eventOfferWaits (x : Commons) (p : Port) : Bool :=
  match x.events.sender with
  | .awaiting w =>
    match w.flight with
    | .offering b => decide (b.port = p)
    | _ => false
  | .idle => false

/-- The management-out queue of `p` has room (R140). -/
def hasRoom (x : Commons) (p : Port) : Bool := decide ((x.mgmtOut p).length < Config.mgmtOutDepth)

/-! ### Offers to the management-out queue (R140) -/

/-- Endpoint state once its response has joined the queue (R153, R165). -/
def outputAfterAdmission : Builder → Output
  | .response (some k) => .restartPending k
  | _ => .idle

/-- Endpoint state once its response is lost (R153, R165). -/
def outputAfterLoss : Builder → Output
  | .response (some k) => .restartDue k
  | _ => .idle

/-- The endpoint discards its response: RESP_LOST (R153). Its cells are returned by the caller. -/
def loseResponse (x : Commons) (b : Built) : Commons :=
  { x.countRespLost with output := outputAfterLoss b.builder }

/-- A response offered, or waiting, joins the queue (R140, R153). -/
def admitResponse (x : Commons) (b : Built) : Commons :=
  { x.pushMgmtOut b with output := outputAfterAdmission b.builder }

/-- The endpoint offers its built response (R140, R153). -/
def offerResponse (e : Env) (b : Built) (x : Commons) : Commons :=
  if e.up b.port then
    if x.hasRoom b.port then x.admitResponse b else { x with output := .offering b }
  else (x.giveReserve b.cells).loseResponse b

/-- An event report joins the queue and the retry timer starts (R172). -/
def admitEvent (x : Commons) (w : Awaiting) (b : Built) : Commons :=
  (x.pushMgmtOut b).setSender (.awaiting { w with timer := true, flight := .queued })

/-- The sender offers its built report (R140, R172, R175). -/
def offerEvent (e : Env) (w : Awaiting) (b : Built) (x : Commons) : Commons :=
  if e.up b.port then
    if x.hasRoom b.port && !x.responseOfferWaits b.port then x.admitEvent w b
    else x.setSender (.awaiting { w with flight := .offering b })
  else (x.giveReserve b.cells).setSender (.awaiting { w with flight := .none })

/-- A punt report joins the queue (R179). -/
def admitPunt (x : Commons) (b : Built) : Commons := (x.pushMgmtOut b).setPunt .idle

/-- The punt side offers its built report (R140, R179). -/
def offerPunt (e : Env) (b : Built) (x : Commons) : Commons :=
  if e.up b.port then
    if x.hasRoom b.port && !x.responseOfferWaits b.port && !x.eventOfferWaits b.port then
      x.admitPunt b
    else x.setPunt (.offering b)
  else (x.giveReserve b.cells).setPunt .idle

/-! ### Grants of the reserve arbiter, and the sends they serve (R131) -/

/-- Grant the response claim if the free reserve cells cover it (R131, R153). -/
def grantResponse (e : Env) (x : Commons) : Commons :=
  match x.output with
  | .claiming b =>
    if b.cells ≤ x.pool.freeReserve then offerResponse e b (x.takeReserve b.cells) else x
  | _ => x

/-- Grant the event report claim if the free reserve cells cover it: the sender builds the report of
the head (R131, R172). -/
def grantEvent (e : Env) (x : Commons) : Commons :=
  match x.events.sender, x.events.listener, x.events.queue with
  | .awaiting w, some l, r :: _ =>
    if w.flight = .claiming then
      let b := eventReport l e.nodeAddress r w.captured
      if b.cells ≤ x.pool.freeReserve then offerEvent e w b (x.takeReserve b.cells) else x
    else x
  | _, _, _ => x

/-- The claim of an event report arrives: granted unless a response claim waits (R131). -/
def claimEvent (e : Env) (x : Commons) : Commons :=
  if x.responseClaimWaits then x else grantEvent e x

/-- The sender begins a send when it is IDLE, a listener is set, its port is UP and the event queue is
not empty (R172). -/
def trySend (e : Env) (x : Commons) : Commons :=
  match x.events.sender, x.events.listener with
  | .idle, some l =>
    if e.up l.port && !x.events.queue.isEmpty then
      claimEvent e (x.setSender (.awaiting
        { retry := 0, captured := x.events.lost, timer := false, flight := .claiming }))
    else x
  | _, _ => x

/-- The sequence number after `n`: 1 after 65535 (R169). -/
def seqAfter (n : Word16) : Word16 := if n = 0xFFFF#16 then 1#16 else n + 1#16

/-- An event is lost: the lost count and the events-lost counter rise by one (R169, R174). -/
def loseEvent (x : Commons) : Commons :=
  { x with
    events := { x.events with lost := satInc x.events.lost }
    mgmt := { x.mgmt with eventsLost := satInc x.mgmt.eventsLost } }

/-- The event unit accepts a post, or discards it when the queue holds 16 records (R169). -/
def accept (e : Env) (k : EventKind) (x : Commons) : Commons :=
  if x.events.queue.length < Config.eventDepth then
    { x with events := { x.events with
        queue := x.events.queue ++
          [{ seq := x.events.nextSeq, uptime := e.uptime, generation := e.generation, kind := k }]
        nextSeq := seqAfter x.events.nextSeq } }
  else x.loseEvent

/-- A block posts an event; its acceptance may begin a send (R169, R172). -/
def post (e : Env) (k : EventKind) (x : Commons) : Commons := trySend e (accept e k x)

/-! ### General cells and holders (R130, R132, R133) -/

/-- The pool evaluates its state against its marks (R133). -/
def evalPool (e : Env) (x : Commons) : Commons :=
  if x.pool.low then
    if x.pool.highMark < x.pool.freeGeneral then
      post e (.poolOk x.pool.freeGeneral) { x with pool := { x.pool with low := false } }
    else x
  else
    if x.pool.freeGeneral < x.pool.lowMark then
      post e (.poolLow x.pool.freeGeneral) { x with pool := { x.pool with low := true } }
    else x

/-- General cells return to the pool (R132, R133). Where they join the free cells: DESIGN CHOICE
(log 12). -/
def giveGeneral (e : Env) (cells : List GeneralCell) (x : Commons) : Commons :=
  evalPool e { x with pool := { x.pool with free := x.pool.free ++ cells } }

/-- A reception takes the first of the free general cells, which the caller has seen (R124, R133). Which
free cell a claim takes: DESIGN CHOICE (log 12). -/
def takeGeneral (e : Env) (x : Commons) : Commons :=
  evalPool e { x with pool := { x.pool with free := x.pool.free.tail } }

/-- Release one holder of a frame among the stored frames: with the last one the frame is removed and
its cells are answered (R132). -/
def dropHolder (id : Nat) : List RxFrame → List RxFrame × List GeneralCell
  | [] => ([], [])
  | f :: rest =>
    if f.id = id then
      if f.holders ≤ 1 then (rest, f.record.cellList)
      else ({ f with holders := f.holders - 1 } :: rest, [])
    else (f :: (dropHolder id rest).1, (dropHolder id rest).2)

/-- Release one holder of a stored frame; its cells return to the pool with the last one (R132). -/
def release (e : Env) (id : Nat) (x : Commons) : Commons :=
  if (dropHolder id x.frames).2 = [] then { x with frames := (dropHolder id x.frames).1 }
  else giveGeneral e (dropHolder id x.frames).2 { x with frames := (dropHolder id x.frames).1 }

/-- Change the stored frame with an identifier. -/
def updateFrame (id : Nat) (f : RxFrame → RxFrame) (x : Commons) : Commons :=
  { x with frames := x.frames.map fun y => if y.id = id then f y else y }

/-- A frame gains a holder (R132). -/
def hold (id : Nat) (x : Commons) : Commons :=
  updateFrame id (fun f => { f with holders := f.holders + 1 }) x

/-- A good reception becomes a stored frame with one holder (R132); answers its identifier. -/
def store (bytes : List Byte) (r : FrameRecord) (x : Commons) : Commons × Nat :=
  ({ x with
      frames := x.frames ++
        [{ id := x.nextFrame, holders := 1, bytes := bytes, record := r }]
      nextFrame := x.nextFrame + 1 },
    x.nextFrame)

/-! ### The punt side's grant and the whole arbiter (R131, R179) -/

/-- Grant the punt report claim if the free reserve cells cover it: the punt side builds the report of
the head entry, removes the entry, releases its holder and offers the report (R131, R179). A send that the
release begins comes before the offer: DEDUCED (log 17). -/
def grantPunt (e : Env) (x : Commons) : Commons :=
  match x.events.punt, x.events.listener, x.events.puntQueue with
  | .claiming, some l, id :: rest =>
    match x.frame? id with
    | some f =>
      let b := puntReport l e.nodeAddress f
      if b.cells ≤ x.pool.freeReserve then
        let y := x.takeReserve b.cells
        offerPunt e b (release e id
          { y with events := { y.events with puntQueue := rest, punt := .idle } })
      else x
    | none => x
  | _, _, _ => x

/-- The reserve arbiter examines the waiting claims in rank order and stops at the first one the free
reserve cells do not cover (R131). -/
def arbiter (e : Env) (x : Commons) : Commons :=
  let x1 := grantResponse e x
  if x1.responseClaimWaits then x1
  else
    let x2 := grantEvent e x1
    if x2.eventClaimWaits then x2 else grantPunt e x2

/-- Reserve cells return to the pool and the arbiter examines the waiting claims (R131). -/
def releaseReserve (e : Env) (n : Nat) (x : Commons) : Commons := arbiter e (x.giveReserve n)

/-- The claim of a punt report arrives: granted unless a claim of higher rank waits (R131). -/
def claimPunt (e : Env) (x : Commons) : Commons :=
  if x.responseClaimWaits || x.eventClaimWaits then x else grantPunt e x

/-! ### Waiting offers (R140) -/

/-- The waiting response, if it waits at `p` and there is room, joins the queue (R140). -/
def admitWaitingResponse (e : Env) (p : Port) (x : Commons) : Commons :=
  match x.output with
  | .offering b => if b.port = p ∧ e.up p ∧ x.hasRoom p then x.admitResponse b else x
  | _ => x

/-- The waiting event report, if it waits at `p` and there is room, joins the queue (R140, R172). -/
def admitWaitingEvent (e : Env) (p : Port) (x : Commons) : Commons :=
  match x.events.sender with
  | .awaiting w =>
    match w.flight with
    | .offering b =>
      if b.port = p ∧ e.up p ∧ x.hasRoom p ∧ ¬x.responseOfferWaits p then x.admitEvent w b else x
    | _ => x
  | .idle => x

/-- The waiting punt report, if it waits at `p` and there is room, joins the queue (R140, R179). -/
def admitWaitingPunt (e : Env) (p : Port) (x : Commons) : Commons :=
  match x.events.punt with
  | .offering b =>
    if b.port = p ∧ e.up p ∧ x.hasRoom p ∧ ¬x.responseOfferWaits p ∧ ¬x.eventOfferWaits p then
      x.admitPunt b
    else x
  | _ => x

/-- The management-out queue of `p` admits waiting offers in rank order as long as it has room
(R140). -/
def admitOffers (e : Env) (p : Port) (x : Commons) : Commons :=
  admitWaitingPunt e p (admitWaitingEvent e p (admitWaitingResponse e p x))

/-! ### Withdrawals -/

/-- The sender's waiting claim is withdrawn, or its waiting report discarded and its cells returned;
the arbiter has yet to look (R173, R175, R176). -/
def withdrawEvent (x : Commons) : Commons :=
  match x.events.sender with
  | .awaiting w =>
    match w.flight with
    | .claiming => x.setSender (.awaiting { w with flight := .none })
    | .offering b => (x.giveReserve b.cells).setSender (.awaiting { w with flight := .none })
    | _ => x
  | .idle => x

/-- The punt side's waiting claim is withdrawn, which keeps the entry, or its waiting report is
discarded and its cells returned; the arbiter has yet to look (R179). -/
def withdrawPunt (x : Commons) : Commons :=
  match x.events.punt with
  | .claiming => x.setPunt .idle
  | .offering b => (x.giveReserve b.cells).setPunt .idle
  | .idle => x

/-- The listener is reached through `p`. -/
def listensOn (x : Commons) (p : Port) : Bool :=
  match x.events.listener with
  | some l => decide (l.port = p)
  | none => false

/-- When `p` leaves UP, the claims that wait for a frame to leave through it are withdrawn: a response
is counted RESP_LOST (R153), the report of the head is held back (R175), a punt entry stays in its
queue (R179). -/
def withdrawClaimsFor (p : Port) (x : Commons) : Commons :=
  let x1 := match x.output with
    | .claiming b => if b.port = p then x.loseResponse b else x
    | _ => x
  let x2 := if x1.listensOn p && x1.eventClaimWaits then x1.withdrawEvent else x1
  if x2.listensOn p && decide (x2.events.punt = .claiming) then x2.withdrawPunt else x2

/-- When `p` leaves UP, every offer waiting at its management-out queue goes back to its builder, which
discards it; the arbiter has yet to look (R140, R145, R153, R175, R179). -/
def refuseOffersAt (p : Port) (x : Commons) : Commons :=
  let x1 := match x.output with
    | .offering b => if b.port = p then (x.giveReserve b.cells).loseResponse b else x
    | _ => x
  let x2 := if x1.eventOfferWaits p then x1.withdrawEvent else x1
  match x2.events.punt with
  | .offering b => if b.port = p then x2.withdrawPunt else x2
  | _ => x2

/-- Fate of a built frame the queue had admitted (R143). -/
inductive Fate where
  | sent
  | aborted
  | flushed
  deriving DecidableEq, Repr

/-- The egress reports a built frame's fate to its builder (R143): the restart that waits for its
response falls due (R165), and a punt report SENT is counted (R179). -/
def reportFate (fate : Fate) (b : Built) (x : Commons) : Commons :=
  match b.builder with
  | .response (some k) =>
    if x.output = .restartPending k then { x with output := .restartDue k } else x
  | .response none => x
  | .event => x
  | .punt =>
    if fate = .sent then { x with mgmt := { x.mgmt with puntsSent := satInc x.mgmt.puntsSent } }
    else x

/-- The head is sent again with a retry count, if the listener's port is UP; otherwise the sender
waits with no report in flight (R174, R175, R176). -/
def resend (e : Env) (retry : Nat) (x : Commons) : Commons :=
  let y := x.withdrawEvent
  match y.events.sender, y.events.listener with
  | .awaiting w, some l =>
    if e.up l.port then
      claimEvent e (y.setSender (.awaiting
        { w with retry := retry, timer := false, flight := .claiming }))
    else y.setSender (.awaiting { w with retry := retry, timer := false, flight := .none })
  | _, _ => y

end Commons

end Sys2Proof.Machine
end

