-- ==== Sys2Proof/Machine/Ports.lean ====
section
/-! DEFINITION. Port state: leaving UP and entering UP with their effects in every block (R121 to R123,
R145, R146), the end of a session (R157), and the general-cell side of a reception. -/

namespace Sys2Proof.Machine

/-- Post an event within the part (R169). -/
def State.post (s : State) (k : EventKind) : State := s.onCommons fun e => Commons.post e k

/-- Release one holder of a stored frame within the part (R132). -/
def State.release (s : State) (id : Nat) : State := s.onCommons fun e => Commons.release e id

/-- The session ends: its record goes and SESSION_ENDED is posted (R157). -/
def State.endSession (s : State) (reason : EndReason) : State :=
  match s.endpoint.session with
  | some o =>
    { s with endpoint := { s.endpoint with session := none } }.post
      (.sessionEnded reason o.node o.number)
  | none => s

/-! ### Leaving UP (R123) -/

/-- Effect 1: a reception in progress ends, counted LINK_DOWN if it was RECEIVING (R123, R125). -/
def State.endReceptionForLink (s : State) (p : Port) : State :=
  match (s.port p).reception with
  | some (.receiving _ cells) =>
    ((s.setPort p { s.port p with reception := none }).count p .linkDown).onCommons
      fun e => Commons.giveGeneral e cells
  | some .discarding => s.setPort p { s.port p with reception := none }
  | none => s

/-- Effect 2: a transmission in progress is aborted and counted TX_ABORT (R123, R145). -/
def State.abortForLink (s : State) (p : Port) : State :=
  match (s.port p).tx with
  | some t =>
    let s1 := (s.setPort p { s.port p with tx := none }).count p .txAbort
    match t.source with
    | .copy c _ => s1.release c.frame
    | .built b => s1.onCommons fun _ x => (x.reportFate .aborted b).giveReserve b.cells
  | none => s

/-- One flushed copy: counted LINK_DOWN and its holder released (R145). -/
def State.flushCopy (p : Port) (s : State) (c : Copy) : State := (s.count p .linkDown).release c.frame

/-- One flushed built frame: counted LINK_DOWN, reported FLUSHED, its cells returned (R143, R145). -/
def State.flushBuilt (p : Port) (s : State) (b : Built) : State :=
  (s.count p .linkDown).onCommons fun _ x => (x.reportFate .flushed b).giveReserve b.cells

/-- Empty one class queue, each copy counted LINK_DOWN (R145). -/
def State.flushQueue (p : Port) (s : State) (c : Fin 4) : State :=
  let q := (s.port p).queue c
  q.entries.foldl (State.flushCopy p)
    (s.setPort p ((s.port p).setQueue c { q with entries := [] }))

/-- Effect 3: the four class queues, in the order of their numbers, and the management-out queue are
flushed (R123, R145). DESIGN CHOICE (log 6): the order of the queues among themselves. -/
def State.flushForLink (s : State) (p : Port) : State :=
  let s1 := [0, 1, 2, 3].foldl (State.flushQueue p) s
  (s1.commons.mgmtOut p).foldl (State.flushBuilt p) (s1.onCommons fun _ x => x.setMgmtOut p [])

/-- Effect 5: a session owned through the port ends with reason LINK (R123, R157). -/
def State.endSessionForLink (s : State) (p : Port) : State :=
  match s.endpoint.session with
  | some o => if o.port = p then s.endSession .link else s
  | none => s

/-- Effect 6: the retry timer of a listener reached through the port stops, with no report in flight
(R123, R175). -/
def Commons.holdHead (p : Port) (x : Commons) : Commons :=
  match x.events.sender with
  | .awaiting w =>
    if x.listensOn p then x.setSender (.awaiting { w with timer := false, flight := .none }) else x
  | .idle => x

/-- The port has left UP for `o`: R123's effects in order. DESIGN CHOICE (log 6): the claims that wait
for a frame to leave through the port are withdrawn before any cell returns, so that the arbiter
grants none of them. -/
def State.leaveUp (s : State) (p : Port) (o : OperState) : State :=
  let s0 := s.onCommons fun _ => Commons.withdrawClaimsFor p
  let s1 := ((s0.endReceptionForLink p).abortForLink p).flushForLink p
  let s2 := s1.onCommons fun e x => Commons.arbiter e (Commons.refuseOffersAt p x)
  let s3 := (s2.post (.linkDown p o)).endSessionForLink p
  s3.onCommons fun _ => Commons.holdHead p

/-- A sender that waited for the port sends the head again with the retry count 0; an idle one begins a
send if records wait (R175). -/
def Commons.resumeSender (e : Env) (p : Port) (x : Commons) : Commons :=
  match x.events.sender with
  | .awaiting _ => if x.listensOn p then Commons.resend e 0 x else x
  | .idle => Commons.trySend e x

/-- The port has entered UP: LINK_UP is posted and the event unit told (R122, R146, R175). A sender
that the post itself set sending has nothing left to resume. -/
def State.enterUp (s : State) (p : Port) : State :=
  let wasIdle := decide (s.commons.events.sender = .idle)
  (s.post (.linkUp p)).onCommons fun e x =>
    if wasIdle then Commons.trySend e x else Commons.resumeSender e p x

/-- Change a port's port_enable or link state and re-derive its operational state in the same happening
(R121 to R123). -/
def State.changePort (s : State) (p : Port) (u : PortUnit) : State :=
  let before := (s.port p).oper
  let s1 := s.setPort p u
  let now := u.oper
  if before = .up ∧ now ≠ .up then s1.leaveUp p now
  else if before ≠ .up ∧ now = .up then s1.enterUp p
  else s1

/-! ### Receptions (8.2) -/

/-- A reception gives up: it releases its cells, is counted under its reason and discards the rest of
the frame (R125). -/
def State.discardReception (s : State) (p : Port) (cells : List GeneralCell) (c : PortCounter) : State :=
  ((s.setPort p { s.port p with reception := some .discarding }).count p c).onCommons
    fun e => Commons.giveGeneral e cells

/-- One byte arrives at a port: it is stored, with a further general cell claimed when the image grows
past a multiple of 64 bytes (R7, R124); the 1042nd byte cuts the reception off (R125). DESIGN CHOICE
(log 10): bytes arrive as operands of the reception rows. -/
def State.receiveByte (p : Port) (s : State) (v : Byte) : State :=
  match (s.port p).reception with
  | some (.receiving bytes cells) =>
    if Config.maxFrameBytes ≤ bytes.length then s.discardReception p cells .oversize
    else if cellsForImage (bytes ++ [v]) ≤ cells.length then
      s.setPort p { s.port p with reception := some (.receiving (bytes ++ [v]) cells) }
    else
      match s.commons.pool.free with
      | [] => s.discardReception p cells .noBuffer
      | c :: _ =>
        (s.setPort p
          { s.port p with reception := some (.receiving (bytes ++ [v]) (cells ++ [c])) }).onCommons
          Commons.takeGeneral
  | _ => s

/-- A run of bytes arrives at a port. -/
def State.receiveBytes (s : State) (p : Port) (bytes : List Byte) : State :=
  bytes.foldl (State.receiveByte p) s

end Sys2Proof.Machine
end

