-- ==== Sys2Proof/Machine/Meters.lean ====
section
/-! DEFINITION. The meter block (chapter 5): configuration as the active bank stores it, the refill, the
answer to a METER step, re-seeding at a swap, and the effect of an upset. -/

namespace Sys2Proof.Machine

/-- The stored rate of meter `m` (R78, 12.3). -/
def storedRate (b : Bank) (m : Nat) : Nat := (b.u16 (recordOffset .meters m)).toNat

/-- The stored burst of meter `m` (R78, 12.3). -/
def storedBurst (b : Bank) (m : Nat) : Nat := (b.u32 (recordOffset .meters m + 2)).toNat

/-- The burst as it is read: a value above 1,048,575 is read as 1,048,575 (R86). -/
def meterBurst (b : Bank) (m : Nat) : Nat := min (storedBurst b m) Config.maxBurst

/-- A meter at zero. -/
def Meter.zero : Meter := { tokens := 0, green := 0#32, red := 0#32 }

/-- One refill of meter `m` under the active bank (R80). -/
def refillMeter (b : Bank) (m : Nat) (t : Meter) : Meter :=
  { t with tokens := min (meterBurst b m) (t.tokens + storedRate b m) }

/-- All 64 meters refilled (R80). -/
def refillMeters (b : Bank) (ms : Vector Meter 64) : Vector Meter 64 :=
  Vector.ofFn fun m => refillMeter b m.val ms[m]

/-- REFILL: one firing of the refill timer (R80). -/
def execRefill (s : State) : Host.Outcome State Fault Refusal :=
  .next { s with meters := refillMeters s.tables.activeBank s.meters }

/-- A METER step's answer on `len` bytes: whether it is RED, and the meter after it (R81). -/
def Meter.answer (t : Meter) (len : Nat) : Bool × Meter :=
  if len ≤ t.tokens then (false, { t with tokens := t.tokens - len, green := satInc t.green })
  else (true, { t with red := satInc t.red })

/-- A LIGHT restart fills every meter to its burst and keeps its counts (R88). -/
def fillMeters (b : Bank) (ms : Vector Meter 64) : Vector Meter 64 :=
  Vector.ofFn fun m => { ms[m] with tokens := meterBurst b m.val }

/-- The configuration of meter `m` is the same in both banks, by its stored values (R84). -/
def sameConfig (old new : Bank) (m : Nat) : Bool :=
  storedRate old m == storedRate new m && storedBurst old m == storedBurst new m

/-- A swap re-seeds the meters whose configuration changed and keeps the others (R84). -/
def reseedMeters (old new : Bank) (ms : Vector Meter 64) : Vector Meter 64 :=
  Vector.ofFn fun m =>
    if sameConfig old new m.val then ms[m] else { Meter.zero with tokens := meterBurst new m.val }

/-- An upset of the record of meter `i` in the active bank lowers its tokens to a burst that fell below
them (R86). -/
def clampMeter (b : Bank) (i : Nat) (ms : Vector Meter 64) : Vector Meter 64 :=
  Vector.ofFn fun m =>
    if m.val = i then { ms[m] with tokens := min ms[m].tokens (meterBurst b i) } else ms[m]

end Sys2Proof.Machine
end

