-- ==== Sys2Proof/Machine/Restart.lean ====
section
/-! DEFINITION. Pin reset and the two restarts (R149, R150, R165): PIN_RESET, and the restarts as the
happenings that settle a RESTART response apply them. -/

namespace Sys2Proof.Machine

/-! ### PIN_RESET -/

/-- The part after a pin reset that finds its pins at `pins` (R149). The commands that wait are the
outside world's and stay. -/
def State.pinReset (s : State) (pins : Pins) : State :=
  { State.afterReset pins.straps pins.aLink pins.bLink .power with pending := s.pending }

/-- PIN_RESET (R149). -/
def execPinReset (pins : Pins) (s : State) : Host.Outcome State Fault Refusal :=
  .next (s.pinReset pins)

/-! ### FULL restart -/

/-- A FULL restart: every block takes its pin-reset values and the straps are read as they stand at its
end (R136, R149). -/
def State.fullRestart (s : State) (straps : Straps) : State :=
  { State.afterReset straps s.portA.link s.portB.link .full with pending := s.pending }

/-! ### LIGHT restart, block by block -/

/-- Ports and egress: receptions and transmissions end and the class queues empty, uncounted
(R128, R147). -/
def PortUnit.lightRestart (u : PortUnit) : PortUnit :=
  { u with
    reception := none
    queues := u.queues.map fun q => { q with entries := [] }
    tx := none }

/-- The classifier: ingress queues flushed and the pointer at Port B (R29, R30). -/
def Classifier.lightRestart (c : Classifier) : Classifier :=
  { c with ingressA := [], ingressB := [], lastServed := .b }

/-- The controller: SIGNING or COPYING abandoned (R107). -/
def Controller.lightRestart (c : Controller) : Controller :=
  match c.state with
  | .editing => { c with origin := none }
  | _ => { c with state := .editing, dirty := true, origin := none }

/-- The verify unit: WAITING with a fresh period in NORMAL with a non-zero period, else STOPPED
(R117). -/
def Verify.lightRestart (v : Verify) (mode : Mode) : Verify :=
  { v with state := if mode = .normal ∧ v.period ≠ 0 then .waiting v.period else .stopped }

/-- The event unit: listener, queue, sequence and lost count kept; sender reset; punts flushed
(R177). -/
def EventUnit.lightRestart (u : EventUnit) : EventUnit :=
  { u with sender := .idle, puntQueue := [], punt := .idle }

/-- The pool with every cell free and its state evaluated afresh (R135). That the free cells stand from 0 to
511 again: DESIGN CHOICE (log 12). -/
def Pool.lightRestart (p : Pool) : Pool :=
  { p with
    free := List.finRange Config.generalCells
    freeReserve := Config.reserveCells
    low := decide (Config.generalCells < p.lowMark) }

/-- Pool, builders and event unit: every holder is gone and no claim or offer waits (R135, R147,
R177). -/
def Commons.lightRestart (x : Commons) : Commons :=
  { x with
    pool := x.pool.lightRestart
    frames := []
    mgmtOutA := []
    mgmtOutB := []
    output := .idle
    events := x.events.lightRestart }

/-- Every block's own restart rule, before the events (R149). -/
def State.lightBlocks (s : State) : State :=
  { s with
    portA := s.portA.lightRestart
    portB := s.portB.lightRestart
    commons := s.commons.lightRestart
    endpoint := { s.endpoint with commands := [], session := none }
    classifier := s.classifier.lightRestart
    meters := fillMeters s.tables.activeBank s.meters
    tables := s.tables.lightRestart
    verify := s.verify.lightRestart s.classifier.mode }

/-- The events of a LIGHT restart in their order: RESTARTED, SESSION_ENDED if a session was open, POOL_OK
if the pool was POOL_LOW (R135, R149). -/
def State.lightEvents (s : State) : List EventKind :=
  [.restarted .light] ++
    (match s.endpoint.session with
      | some o => [.sessionEnded .restart o.node o.number]
      | none => []) ++
    (if s.commons.pool.low && !s.commons.pool.lightRestart.low then [.poolOk Config.generalCells]
      else [])

/-- A LIGHT restart: every block's own rule, then the restart's events join the event queue, then a send
begins if it finds its conditions (R149, R172, R177). That the send, and with it the captured lost value,
comes after the last of these events: DEDUCED (log 4). -/
def State.lightRestart (s : State) : State :=
  s.lightBlocks.onCommons fun e x => Commons.trySend e
    (s.lightEvents.foldl (fun y k => Commons.accept e k y) x)

/-- A restart that has fallen due in this happening takes effect, a FULL one on the straps as they stand
at its end (R136, R165). -/
def State.settleRestart (s : State) (straps : Straps) : State :=
  match s.commons.output with
  | .restartDue .light => s.lightRestart
  | .restartDue .full => s.fullRestart straps
  | _ => s

end Sys2Proof.Machine
end

