-- ==== Sys2Proof/Machine/Reception.lean ====
section
/-! DEFINITION. The rows of the line pins and of reception: LINK_PIN_CHANGE, FRAME_START,
RECEPTION_CELL_CLAIM, OVERSIZE_CUTOFF, LINE_ABORT and FRAME_END (chapter 8). -/

namespace Sys2Proof.Machine

/-! ### LINK_PIN_CHANGE -/

/-- The link pin of `p` reports `level` (R121), before a restart it may bring about (R165). -/
def State.linkPin (s : State) (p : Port) (level : LinkState) : State :=
  s.changePort p { s.port p with link := level }

/-- LINK_PIN_CHANGE (R121, R122, R123); a restart whose response is lost or flushed by it takes effect
after its effects and events (R165), a FULL one on the straps that State holds: DESIGN CHOICE (log 8). -/
def execLinkPinChange (p : Port) (level : LinkState) (s : State) :
    Host.Outcome State Fault Refusal :=
  .next ((s.linkPin p level).settleRestart s.straps)

/-! ### FRAME_START, RECEPTION_CELL_CLAIM, OVERSIZE_CUTOFF -/

/-- A frame start on an UP port with no reception in progress begins one, which claims its first
general cell or enters DISCARDING for NO_BUFFER (R124, R125); any other is not taken. -/
def State.startReception (s : State) (p : Port) : State :=
  match (s.port p).reception with
  | some _ => s
  | none =>
    if s.isUp p then
      match s.commons.pool.free with
      | [] => s.discardReception p [] .noBuffer
      | c :: _ =>
        (s.setPort p { s.port p with reception := some (.receiving [] [c]) }).onCommons
          Commons.takeGeneral
    else s

/-- FRAME_START (R124). -/
def execFrameStart (p : Port) (s : State) : Host.Outcome State Fault Refusal :=
  .next (s.startReception p)

/-- RECEPTION_CELL_CLAIM: bytes arrive, the last of them past a multiple of 64 of the image (R124). -/
def execReceptionCellClaim (p : Port) (bytes : List Byte) (s : State) :
    Host.Outcome State Fault Refusal :=
  .next (s.receiveBytes p bytes)

/-- OVERSIZE_CUTOFF: bytes arrive, the last of them the 1042nd (R125). -/
def execOversizeCutoff (p : Port) (bytes : List Byte) (s : State) :
    Host.Outcome State Fault Refusal :=
  .next (s.receiveBytes p bytes)

/-! ### LINE_ABORT -/

/-- A line abort ends the reception in progress; one that was RECEIVING releases its cells and is
counted LINE_ABORT (R125). -/
def State.abortReception (s : State) (p : Port) : State :=
  match (s.port p).reception with
  | some (.receiving _ cells) =>
    ((s.setPort p { s.port p with reception := none }).count p .lineAbort).onCommons
      fun e => Commons.giveGeneral e cells
  | some .discarding => s.setPort p { s.port p with reception := none }
  | none => s

/-- LINE_ABORT (R125). -/
def execLineAbort (p : Port) (s : State) : Host.Outcome State Fault Refusal :=
  .next (s.abortReception p)

/-! ### FRAME_END -/

/-- The counter of a failed intake check (R126, R129). -/
def IntakeFail.counter : IntakeFail → PortCounter
  | .runt => .runt
  | .malformed => .malformed
  | .oversize => .oversize
  | .checkFail => .checkFail

/-- The ingress queue of a port (R28). -/
def Classifier.ingress (c : Classifier) : Port → List Nat
  | .a => c.ingressA
  | .b => c.ingressB

/-- Replace the ingress queue of a port. -/
def Classifier.setIngress (c : Classifier) (p : Port) (q : List Nat) : Classifier :=
  match p with
  | .a => { c with ingressA := q }
  | .b => { c with ingressB := q }

/-- A good frame that goes to the management endpoint (R2, R127). -/
def State.takesCommand (s : State) (r : FrameRecord) : Bool :=
  r.kind == Config.kindMgmt && (r.dest == s.endpoint.nodeAddress || r.dest == Config.nearest)

/-- A stored frame, named by its identifier, is offered to the command queue (R127). -/
def State.offerCommand (s : State) (id : Nat) : State :=
  if s.endpoint.commands.length < Config.commandDepth then
    { s with endpoint := { s.endpoint with commands := s.endpoint.commands ++ [id] } }
  else
    { s with commons := { s.commons with
        mgmt := { s.commons.mgmt with overrun := satInc s.commons.mgmt.overrun } } }.release id

/-- A stored frame, named by its identifier, is offered to the ingress queue of its port (R28). -/
def State.offerIngress (s : State) (p : Port) (id : Nat) : State :=
  if (s.classifier.ingress p).length < Config.ingressDepth then
    { s with classifier := s.classifier.setIngress p (s.classifier.ingress p ++ [id]) }
  else (s.count p .ingressFull).release id

/-- A good frame: counted, given its record and routed (R9, R126, R127). -/
def State.routeGood (s : State) (p : Port) (bytes : List Byte) (cells : List GeneralCell) : State :=
  let r := makeRecord p bytes cells
  let stored := Commons.store bytes r s.commons
  let s1 := { s with commons := stored.1 }.count p .receivedGood
  if s1.takesCommand r then s1.offerCommand stored.2 else s1.offerIngress p stored.2

/-- The end of a reception: a frame that fails intake is counted and its cells returned, a good one is
routed; a reception in DISCARDING just ends (R125, R126). -/
def State.endReception (s : State) (p : Port) : State :=
  match (s.port p).reception with
  | some (.receiving bytes cells) =>
    let s1 := s.setPort p { s.port p with reception := none }
    match intakeCheck bytes with
    | some why => (s1.count p why.counter).onCommons fun e => Commons.giveGeneral e cells
    | none => s1.routeGood p bytes cells
  | some .discarding => s.setPort p { s.port p with reception := none }
  | none => s

/-- FRAME_END: the remaining bytes arrive and the carrier ends the frame (R126). -/
def execFrameEnd (p : Port) (bytes : List Byte) (s : State) : Host.Outcome State Fault Refusal :=
  .next ((s.receiveBytes p bytes).endReception p)

end Sys2Proof.Machine
end

