-- ==== Sys2Proof/Machine/Egress.lean ====
section
/-! DEFINITION. The egress (chapter 9): TRANSMISSION_START, TRANSMISSION_END, MGMT_OUT_ADMIT
and RESERVE_GRANT. -/

namespace Sys2Proof.Machine

/-! ### TRANSMISSION_START (R141, R142) -/

/-- The class queue that the arbiter serves: the highest class that holds an entry (R141). -/
def PortUnit.chooseClass (u : PortUnit) : Option (Fin 4) :=
  [3, 2, 1, 0].find? fun c => !(u.queue c).entries.isEmpty

/-- The head of the management-out queue leaves it for the transmitter, and the queue admits waiting
offers (R140, R141, R142). -/
def State.startBuilt (s : State) (p : Port) (b : Built) (rest : List Built) : State :=
  (s.setPort p { s.port p with tx := some { source := .built b, wire := b.wire } }).onCommons
    fun e x => Commons.admitOffers e p (x.setMgmtOut p rest)

/-- The head of class queue `c` leaves it for the transmitter (R141, R142). -/
def State.startCopy (s : State) (p : Port) (c : Fin 4) : State :=
  let q := (s.port p).queue c
  match q.entries with
  | [] => s
  | h :: rest =>
    match s.commons.frame? h.frame with
    | some f =>
      s.setPort p { (s.port p).setQueue c { q with entries := rest } with
        tx := some { source := .copy h c, wire := f.wire } }
    | none => s

/-- A transmission start, when the transmitter is IDLE, the port is UP and a queue holds an entry
(R141). -/
def State.startTransmission (s : State) (p : Port) : State :=
  if s.isUp p ∧ (s.port p).tx = none then
    match s.commons.mgmtOut p with
    | b :: rest => s.startBuilt p b rest
    | [] =>
      match (s.port p).chooseClass with
      | some c => s.startCopy p c
      | none => s
  else s

/-- TRANSMISSION_START (R141). -/
def execTransmissionStart (p : Port) (s : State) : Host.Outcome State Fault Refusal :=
  .next (s.startTransmission p)

/-! ### TRANSMISSION_END (R143, R144) -/

/-- A transmission ends: it is counted, a builder is told SENT, its holder is released and the
transmitter enters IDLE (R143, R144). The arbiter's grants on the returned cells come before a restart
that the same happening brings about: DESIGN CHOICE (log 25). -/
def State.endTransmission (s : State) (p : Port) : State :=
  match (s.port p).tx with
  | none => s
  | some t =>
    let s1 := s.setPort p { s.port p with tx := none }
    match t.source with
    | .copy c _ => (s1.count p .transmitted).release c.frame
    | .built b =>
      (s1.count p .transmittedMgmt).onCommons fun e x =>
        Commons.releaseReserve e b.cells (x.reportFate .sent b)

/-- TRANSMISSION_END; the restart that waited for this response takes effect (R144, R165), a FULL one on
the straps that State holds: DESIGN CHOICE (log 8). -/
def execTransmissionEnd (p : Port) (s : State) : Host.Outcome State Fault Refusal :=
  .next ((s.endTransmission p).settleRestart s.straps)

/-! ### MGMT_OUT_ADMIT, RESERVE_GRANT -/

/-- MGMT_OUT_ADMIT: the management-out queue judges the offers that wait at it (R140). -/
def execMgmtOutAdmit (p : Port) (s : State) : Host.Outcome State Fault Refusal :=
  .next (s.onCommons fun e => Commons.admitOffers e p)

/-- RESERVE_GRANT: the reserve arbiter examines the waiting claims; a granted RESTART response that its
port refuses lets the restart take effect (R131, R153, R165), a FULL one on the straps that State holds:
DESIGN CHOICE (log 8). -/
def execReserveGrant (s : State) : Host.Outcome State Fault Refusal :=
  .next ((s.onCommons Commons.arbiter).settleRestart s.straps)

end Sys2Proof.Machine
end

