-- ==== Sys2Proof/Machine/Endpoint.lean ====
section
/-! DEFINITION. The management endpoint (10.3 to 10.5): reading a command, the order of tests, replay,
permission, the record of an owner command, and the response. Every command row is one use of
`State.takeCommand`. -/

namespace Sys2Proof.Machine

/-! ### Commands -/

/-- A command as the endpoint reads it from a frame whose payload has at least 4 bytes (R153,
12.4). -/
structure Command where
  src : Word16
  port : Port
  tags : TagStack
  version : Byte
  code : Byte
  session : Byte
  seq : Byte
  params : List Byte
  deriving DecidableEq, Repr

/-- The command in a stored frame (12.4). -/
def readCommand (f : RxFrame) : Command :=
  let payload := rxPayload f.bytes
  { src := f.record.src, port := f.record.ingress, tags := f.record.tags
    version := byteAt payload 0, code := byteAt payload 1, session := byteAt payload 2
    seq := byteAt payload 3, params := payload.drop 4 }

/-- The command frame the endpoint takes next: it is IDLE and the queue holds one (R154). -/
def State.headFrame (s : State) : Option RxFrame :=
  match s.commons.output, s.endpoint.commands with
  | .idle, id :: _ => s.commons.frame? id
  | _, _ => none

/-- The head leaves the command queue and its holder is released (R132, R154). A send that the release
begins comes before the response: DESIGN CHOICE (log 20). -/
def State.takeHead (s : State) : State :=
  match s.endpoint.commands with
  | id :: rest => { s with endpoint := { s.endpoint with commands := rest } }.release id
  | [] => s

/-- Status codes (12.4). -/
inductive Status where
  | ok
  | accepted
  | busy
  | notOwner
  | noSession
  | badTable
  | badIndex
  | badLength
  | badValue
  | faulted
  | unknownCommand
  | badVersion
  deriving DecidableEq, Repr

/-- The byte of a status (12.4). -/
def statusCode : Status → Byte
  | .ok => 0#8
  | .accepted => 1#8
  | .busy => 2#8
  | .notOwner => 3#8
  | .noSession => 4#8
  | .badTable => 5#8
  | .badIndex => 6#8
  | .badLength => 7#8
  | .badValue => 8#8
  | .faulted => 9#8
  | .unknownCommand => 10#8
  | .badVersion => 11#8

/-- The content of a response: status, detail and body, the session field where the rule gives it
another value than the command's, and the restart a RESTART asks for (R153, R165). -/
structure Reply where
  status : Byte
  detail : Byte
  session : Option Byte
  body : List Byte
  restart : Option RestartKind
  deriving DecidableEq, Repr

/-- A reply without detail. -/
def reply (st : Status) (body : List Byte) : Reply :=
  { status := statusCode st, detail := 0#8, session := none, body := body, restart := none }

/-- A refusal: detail 0 and an empty body (R152). -/
def refuse (st : Status) : Reply := reply st []

/-! ### Ownership and the session record (R155) -/

/-- The command is the session owner's (R155). -/
def Session.owns (o : Session) (c : Command) : Bool :=
  c.src == o.node && decide (c.port = o.port) && c.session == o.number

/-- The command is an owner command (R155). -/
def State.isOwner (s : State) (c : Command) : Bool :=
  match s.endpoint.session with
  | some o => o.owns c
  | none => false

/-- Change the record of an open session. -/
def State.withSession (s : State) (f : Session → Session) : State :=
  { s with endpoint := { s.endpoint with session := s.endpoint.session.map f } }

/-- The idle timer restarts with the session_timeout setting (R157). -/
def State.restartIdle (s : State) : State :=
  s.withSession fun o => { o with timer := 100 * s.endpoint.sessionTimeout }

/-- The replay copy that answers a retransmission (R158). -/
def State.replayOf (s : State) (c : Command) : Option Response :=
  match s.endpoint.session with
  | some o => if o.owns c && decide (o.lastSeq = some c.seq) then o.replay else none
  | none => none

/-- Whether a command may be executed (R155). -/
inductive Permission where
  | anyone
  | owner
  | listener
  deriving DecidableEq, Repr

/-- The command comes from the listener (R164). -/
def State.isListener (s : State) (c : Command) : Bool :=
  match s.commons.events.listener with
  | some l => c.src == l.node && decide (c.port = l.port)
  | none => false

/-- The permission test: the refusal, if any (R155, R164). -/
def State.permissionFails (s : State) (p : Permission) (c : Command) : Option Status :=
  match p with
  | .anyone => none
  | .owner =>
    if s.isOwner c then none
    else if s.endpoint.session.isSome then some .notOwner else some .noSession
  | .listener => if s.isListener c then none else some .notOwner

/-! ### The response (R153) -/

/-- The response to a command: the header echoes the command's (R153), a replay's that of the
retransmission: DEDUCED (log 13); a foreign version is echoed too, where 12.4 writes version 1: DESIGN
CHOICE (log 23). -/
def makeResponse (c : Command) (r : Reply) : Response where
  version := c.version
  command := c.code
  session := r.session.getD c.session
  seq := c.seq
  status := r.status
  detail := r.detail
  body := r.body

/-- The payload of a response frame (12.4). -/
def Response.payload (r : Response) : List Byte :=
  [r.version, r.command, r.session, r.seq, r.status, r.detail] ++ r.body

/-- The response frame of a command (R153). -/
def responseFrame (c : Command) (nodeAddress : Word16) (r : Reply) : Built where
  port := c.port
  builder := .response r.restart
  dest := c.src
  src := nodeAddress
  tags := c.tags
  payload := (makeResponse c r).payload

/-- The endpoint claims the cells of its response, which the arbiter grants or lets wait (R131, R153). A
RESTART response lost at once leaves its restart due, which its row settles (R165). What the command made
the event unit claim or queue comes before the response: DESIGN CHOICE (log 20). -/
def State.respond (s : State) (c : Command) (r : Reply) : State :=
  ({ s with commons :=
      { s.commons with output := .claiming (responseFrame c s.endpoint.nodeAddress r) } }).onCommons
    Commons.arbiter

/-- After an owner command the idle timer restarts and the session record keeps its sequence and its
response; a session the command ended keeps nothing (R155, R156). An OPEN_SESSION that carries the
session's own number is the owner's: DEDUCED (log 16). -/
def State.recordOwner (s : State) (c : Command) (r : Reply) : State :=
  s.restartIdle.withSession fun o =>
    { o with lastSeq := some c.seq, replay := some (makeResponse c r) }

/-! ### The order of tests (R152) -/

/-- What a command row does once the tests before it are passed: the part after it and its reply. -/
abbrev Run := Command → State → State × Reply

/-- Tests 5 to 7: permission, then parameters and execution, which the row's own rule gives (R152). -/
def State.runPermitted (s : State) (perm : Permission) (run : Run) (c : Command) : State × Reply :=
  match s.permissionFails perm c with
  | some st => (s, refuse st)
  | none => run c s

/-- Tests 2 to 7 on a command already taken from its frame, and its response (R152, R155, R158). -/
def State.judge (s : State) (perm : Command → Permission) (run : Run) (c : Command) : State :=
  if c.version ≠ 1#8 then s.respond c (refuse .badVersion)
  else
    match s.replayOf c with
    | some r =>
      s.restartIdle.respond c
        { status := r.status, detail := r.detail, session := none, body := r.body, restart := none }
    | none =>
      let x := s.runPermitted (perm c) run c
      let t := if s.isOwner c then x.1.recordOwner c x.2 else x.1
      t.respond c x.2

/-- A command row: the endpoint takes the head of its queue if it is IDLE and the head is a command of
this row (test 1 passed), and judges it in the same happening (R152, R154). Any other head, or none,
leaves the part as it is: DESIGN CHOICE (log 5). -/
def State.takeCommand (s : State) (takes : Command → Bool) (perm : Command → Permission) (run : Run) :
    State :=
  match s.headFrame with
  | some f =>
    if 4 ≤ (rxPayload f.bytes).length ∧ takes (readCommand f) then
      s.takeHead.judge perm run (readCommand f)
    else s
  | none => s

/-! ### MALFORMED_COMMAND, UNKNOWN_COMMAND -/

/-- A payload shorter than 4 bytes: the frame is discarded and counted, without a response (R152). -/
def State.discardMalformed (s : State) : State :=
  match s.headFrame with
  | some f =>
    if (rxPayload f.bytes).length < 4 then
      let t := s.takeHead
      { t with commons := { t.commons with
          mgmt := { t.commons.mgmt with malformed := satInc t.commons.mgmt.malformed } } }
    else s
  | none => s

/-- MALFORMED_COMMAND (R152, test 1). -/
def execMalformedCommand (s : State) : Host.Outcome State Fault Refusal := .next s.discardMalformed

/-- A command code that 12.4 does not assign. -/
def isUnassigned (c : Command) : Bool := c.code == 0#8 || decide (0x10 ≤ c.code.toNat)

/-- UNKNOWN_COMMAND (R152, test 4). -/
def execUnknownCommand (s : State) : Host.Outcome State Fault Refusal :=
  .next (s.takeCommand isUnassigned (fun _ => .anyone) fun _ t => (t, refuse .unknownCommand))

/-! ### Parameters -/

/-- A permission that does not depend on the parameters. -/
def always (p : Permission) : Command → Permission := fun _ => p

/-- The command has a code. -/
def hasCode (k : Byte) (c : Command) : Bool := c.code == k

/-- A 2-byte parameter at offset `i` (R181). -/
def Command.param16 (c : Command) (i : Nat) : Nat := (u16At c.params i).toNat

/-- A 1-byte parameter at offset `i` (R181). -/
def Command.param8 (c : Command) (i : Nat) : Byte := byteAt c.params i

/-- A command that needs `n` parameter bytes: a shorter payload is answered BAD_LENGTH (R152, R181), also where
a byte that is present holds an unassigned code or a value out of range: DEDUCED (log 27). -/
def needs (n : Nat) (run : Run) : Run := fun c s =>
  if c.params.length < n then (s, refuse .badLength) else run c s

end Sys2Proof.Machine
end

