-- ==== Sys2Proof/Machine/Events.lean ====
section
/-! DEFINITION. The event unit and the timers (chapters 10 and 11): what ACK_EVENT and SET_LISTENER do
to it, and the rows EVENT_SEND, RETRY_TIMER_EXPIRY, PUNT_TAKE, SESSION_IDLE_EXPIRY and
UPTIME_COUNT. -/

namespace Sys2Proof.Machine

namespace Commons

/-- After a withdrawal the arbiter and the management-out queues look at what remains
(R131, R140), before the next send begins: DEDUCED (log 17). -/
def judgeRest (e : Env) (x : Commons) : Commons :=
  admitOffers e .b (admitOffers e .a (arbiter e x))

/-- The head record leaves the event queue and the sender is IDLE. -/
def dropHead (x : Commons) : Commons :=
  { x with events := { x.events with queue := x.events.queue.tail, sender := .idle } }

/-! ### ACK_EVENT (R173) -/

/-- The head acknowledged with captured value `captured`: it is removed, the lost count falls, and the
next send begins if records remain (R170, R173). -/
def acknowledged (e : Env) (captured : Word16) (x : Commons) : Commons :=
  let y := x.withdrawEvent.dropHead
  trySend e (judgeRest e
    { y with events := { y.events with lost := subFloor y.events.lost captured } })

/-- An executed ACK_EVENT: `none` is the answer BAD_VALUE (R173). -/
def ackEvent (e : Env) (seq : Word16) (x : Commons) : Option Commons :=
  match x.events.sender, x.events.queue with
  | .awaiting w, r :: _ => if r.seq = seq then some (x.acknowledged e w.captured) else none
  | _, _ => none

/-! ### SET_LISTENER (R176, R178, R179) -/

/-- The sender after the listener was replaced: a head that waits for its acknowledgement is sent to
the new listener from retry count 0, an idle sender begins a send (R176). -/
def sendToNew (e : Env) (x : Commons) : Commons :=
  match x.events.sender with
  | .awaiting _ => resend e 0 x
  | .idle => trySend e x

/-- The listener is replaced; waiting claims and reports of the sender and of the punt side are
withdrawn (R176, R179). -/
def replaceListener (e : Env) (l : Listener) (x : Commons) : Commons :=
  let y := x.withdrawEvent.withdrawPunt
  sendToNew e (judgeRest e { y with events := { y.events with listener := some l } })

/-- The listener becomes none: the sender is IDLE with its head kept and the captured value discarded
(R176). The punt queue is flushed by the caller (R178). -/
def clearListener (e : Env) (x : Commons) : Commons :=
  let y := x.withdrawEvent.withdrawPunt
  judgeRest e { y with events := { y.events with listener := none, sender := .idle } }

/-! ### RETRY_TIMER_EXPIRY (R174) -/

/-- The head is given up: discarded and counted lost, and the next send begins if records remain
(R170, R174). -/
def exhaust (e : Env) (x : Commons) : Commons := trySend e x.dropHead.loseEvent

/-- The retry timer expires (R174). -/
def retryExpiry (e : Env) (x : Commons) : Commons :=
  match x.events.sender with
  | .awaiting w =>
    if w.timer then
      if w.retry < Config.maxRetries then resend e (w.retry + 1) x else exhaust e x
    else x
  | .idle => x

/-! ### PUNT_TAKE (R179) -/

/-- The punt side takes the head entry and claims the cells of its report (R179). -/
def puntTake (e : Env) (x : Commons) : Commons :=
  match x.events.listener, x.events.punt, x.events.puntQueue with
  | some l, .idle, _ :: _ => if e.up l.port then claimPunt e (x.setPunt .claiming) else x
  | _, _, _ => x

end Commons

/-! ### The rows -/

/-- EVENT_SEND: the sender begins a send if its conditions stand (R172), which the causing happening
has already done: DEDUCED (log 7). -/
def execEventSend (s : State) : Host.Outcome State Fault Refusal := .next (s.onCommons Commons.trySend)

/-- RETRY_TIMER_EXPIRY (R174). -/
def execRetryTimerExpiry (s : State) : Host.Outcome State Fault Refusal :=
  .next (s.onCommons Commons.retryExpiry)

/-- PUNT_TAKE (R179). -/
def execPuntTake (s : State) : Host.Outcome State Fault Refusal :=
  .next (s.onCommons Commons.puntTake)

/-- SESSION_IDLE_EXPIRY: the idle timer runs while a session is open (R157). -/
def execSessionIdleExpiry (s : State) : Host.Outcome State Fault Refusal :=
  .next (s.endSession .expired)

/-- UPTIME_COUNT: one millisecond, wrapping (R166). -/
def execUptimeCount (s : State) : Host.Outcome State Fault Refusal :=
  .next { s with endpoint := { s.endpoint with uptime := s.endpoint.uptime + 1#32 } }

/-- One entry of the punt queue flushed: counted PUNT_NO_LISTENER at its frame's ingress port, its
holder released (R178). -/
def State.flushPunt (s : State) (id : Nat) : State :=
  match s.commons.frame? id with
  | some f => (s.count f.record.ingress .puntNoListener).release id
  | none => s

/-- SET_LISTENER none within the part (R176, R178). -/
def State.clearListener (s : State) : State :=
  let s1 := s.onCommons Commons.clearListener
  s1.commons.events.puntQueue.foldl State.flushPunt
    { s1 with commons := { s1.commons with events := { s1.commons.events with puntQueue := [] } } }

end Sys2Proof.Machine
end

