-- ==== Sys2Proof/Machine/Sessions.lean ====
section
/-! DEFINITION. The commands of the session, of the part's state and of the listener: DISCOVER,
OPEN_SESSION, CLOSE_SESSION, READ_STATUS, SET_LISTENER, ACK_EVENT and RESTART (R156, R159, R164, R165,
12.4); and the rows LIGHT_RESTART and FULL_RESTART, whose happening is the one that settles the fate of a
RESTART response (R143, R165). -/

namespace Sys2Proof.Machine

/-! ### Codes and fields of reports (12.2) -/

/-- A flag as a byte. -/
def boolByte (b : Bool) : Byte := if b then 1#8 else 0#8

/-- Classifier mode codes (12.2). -/
def modeCode : Mode → Byte
  | .unloaded => 0#8
  | .normal => 1#8
  | .faulted => 2#8

/-- Controller state codes (12.2). -/
def ctlCode : CtlState → Byte
  | .editing => 0#8
  | .signing _ _ => 1#8
  | .copying _ => 2#8

/-- Verify state codes (12.2). -/
def verifyCode : VerifyState → Byte
  | .waiting _ => 0#8
  | .sweeping _ _ => 1#8
  | .stopped => 2#8

/-- The controller's sweep position. -/
def CtlState.position : CtlState → Option RecordRef
  | .editing => none
  | .signing pos _ => pos
  | .copying pos => pos

/-- The verify unit's sweep position. -/
def VerifyState.position : VerifyState → Option RecordRef
  | .sweeping pos _ => pos
  | _ => none

/-- A sweep position of 3 bytes, absent with table code 0 (12.2); so is the position past the last
record: DEDUCED (log 18). -/
def positionBytes : Option RecordRef → List Byte
  | some r => [tableCode r.table] ++ beBytes 2 r.index
  | none => [0#8, 0#8, 0#8]

/-- An owner's or listener's node and port, absent with 0xFFFF and 0xFF (12.2, R181): DEDUCED for the
listener (log 18). -/
def nodePort : Option (Word16 × Port) → List Byte
  | some (n, p) => word16Bytes n ++ [portCode p]
  | none => [0xFF#8, 0xFF#8, 0xFF#8]

/-- Owner node and port (12.4). -/
def ownerBytes (s : State) : List Byte := nodePort (s.endpoint.session.map fun o => (o.node, o.port))

/-! ### DISCOVER (R159) -/

/-- The identity record: vendor 0x0C5D, part 0x0026, design step 1, management version 1, 512 rule slots
(12.4). -/
def identityRecord : List Byte :=
  [0x0C#8, 0x5D#8, 0x00#8, 0x26#8, 0x01#8, 0x01#8, 0x02#8, 0x00#8]

/-- The body of DISCOVER (R159, 12.4). R121 says that DISCOVER reports the three values of each port too,
for which R159 and 12.4, which give the response whole, have no field; the layout of 12.4 is taken: DESIGN
CHOICE (log 22). -/
def discoverBody (s : State) : List Byte :=
  identityRecord ++ word16Bytes s.endpoint.nodeAddress ++ word16Bytes s.tables.generation ++
    [modeCode s.classifier.mode, ctlCode s.tables.state, boolByte s.endpoint.session.isSome] ++
    ownerBytes s

/-- DISCOVER (R159). -/
def execDiscover (s : State) : Host.Outcome State Fault Refusal :=
  .next (s.takeCommand (hasCode 1#8) (always .anyone) fun _ t => (t, reply .ok (discoverBody t)))

/-! ### OPEN_SESSION, CLOSE_SESSION (R156) -/

/-- The number of the next session: 1 after 255 (R156). -/
def nextSessionNumber (n : Byte) : Byte := if n = 255#8 then 1#8 else n + 1#8

/-- The body of an OPEN_SESSION answered OK (12.4). -/
def openBody (number : Byte) (timeout : Nat) : List Byte := [number] ++ beBytes 2 timeout

/-- A session opens for the command's src and ingress port (R156). -/
def State.openNew (s : State) (c : Command) : State :=
  let number := nextSessionNumber s.endpoint.lastNumber
  { s with endpoint := { s.endpoint with
      session := some
        { node := c.src, port := c.port, number := number, lastSeq := none, replay := none
          cursor := none, timer := 100 * s.endpoint.sessionTimeout }
      lastNumber := number } }.post (.sessionOpened c.src c.port number)

/-- OPEN_SESSION by the session state (R156). -/
def runOpenSession : Run := fun c s =>
  match s.endpoint.session with
  | none =>
    let number := nextSessionNumber s.endpoint.lastNumber
    (s.openNew c,
      { reply .ok (openBody number s.endpoint.sessionTimeout) with session := some number })
  | some o =>
    if c.src = o.node ∧ c.port = o.port then
      (s.restartIdle,
        { reply .ok (openBody o.number s.endpoint.sessionTimeout) with session := some o.number })
    else
      (s, { reply .busy (word16Bytes o.node ++ [portCode o.port]) with detail := portCode o.port })

/-- OPEN_SESSION (R156). -/
def execOpenSession (s : State) : Host.Outcome State Fault Refusal :=
  .next (s.takeCommand (hasCode 2#8) (always .anyone) runOpenSession)

/-- CLOSE_SESSION (R156). -/
def execCloseSession (s : State) : Host.Outcome State Fault Refusal :=
  .next (s.takeCommand (hasCode 3#8) (always .owner) fun _ t => (t.endSession .closed, reply .ok []))

/-! ### READ_STATUS (R148, R159, 12.4) -/

/-- The table controller's block. -/
def statusController (c : Controller) : List Byte :=
  word16Bytes c.generation ++ word32Bytes c.signature ++ [ctlCode c.state, boolByte c.dirty] ++
    positionBytes c.state.position ++ optWord16 c.origin

/-- The block of the classifier and the verify unit. -/
def statusVerify (s : State) : List Byte :=
  [modeCode s.classifier.mode, verifyCode s.verify.state] ++ positionBytes s.verify.state.position

/-- A line link state (12.2). -/
def linkCode : LinkState → Byte
  | .down => 0#8
  | .up => 1#8

/-- The port block of one port. -/
def statusPort (u : PortUnit) : List Byte := [boolByte u.enabled, linkCode u.link, operCode u.oper]

/-- The pool's block. -/
def statusPool (x : Pool) : List Byte :=
  beBytes 2 x.freeGeneral ++ beBytes 1 x.freeReserve ++ [boolByte x.low]

/-- The egress block of one port. -/
def statusEgress (s : State) (p : Port) : List Byte :=
  (s.port p).queues.toList.flatMap (fun q => beBytes 2 q.occupancy) ++
    (s.port p).queues.toList.flatMap (fun q => beBytes 2 q.limit) ++
    beBytes 1 (s.commons.mgmtOut p).length ++ [boolByte (s.port p).tx.isSome]

/-- The endpoint's block: a READ_STATUS finds the endpoint EXECUTING (R159). -/
def statusEndpoint (s : State) : List Byte :=
  [1#8, boolByte s.endpoint.session.isSome] ++ ownerBytes s ++ word32Bytes s.endpoint.uptime

/-- The event unit's block. -/
def statusEvents (u : EventUnit) : List Byte :=
  nodePort (u.listener.map fun l => (l.node, l.port)) ++ beBytes 1 u.queue.length ++
    [boolByte (decide (u.sender ≠ .idle))] ++ beBytes 1 u.puntQueue.length

/-- The body of READ_STATUS, 79 bytes (12.4), as the part stands once the command frame is released:
DEDUCED (log 19). -/
def statusBody (s : State) : List Byte :=
  statusController s.tables ++ statusVerify s ++ statusPort s.portA ++ statusPort s.portB ++
    statusPool s.commons.pool ++ statusEgress s .a ++ statusEgress s .b ++ statusEndpoint s ++
    statusEvents s.commons.events

/-- READ_STATUS (R159). -/
def execReadStatus (s : State) : Host.Outcome State Fault Refusal :=
  .next (s.takeCommand (hasCode 12#8) (always .anyone) fun _ t => (t, reply .ok (statusBody t)))

/-! ### SET_LISTENER, ACK_EVENT (R164) -/

/-- A SET_LISTENER whose port byte is 0 names none (12.4). -/
def namesNone (c : Command) : Bool := c.code == 13#8 && decide (3 ≤ c.params.length) && c.param8 2 == 0#8

/-- SET_LISTENER with a node and a port: the node lies in 0x0001..0xFFFD (R164). -/
def runSetListener : Run := needs 3 fun c s =>
  match portOfCode (c.param8 2) with
  | some p =>
    if 0x0001 ≤ c.param16 0 ∧ c.param16 0 ≤ 0xFFFD then
      (s.onCommons fun e => Commons.replaceListener e { node := u16At c.params 0, port := p },
        reply .ok [])
    else (s, refuse .badValue)
  | none => (s, refuse .badValue)

/-- SET_LISTENER naming a node and port (R164, R176). -/
def execSetListener (s : State) : Host.Outcome State Fault Refusal :=
  .next (s.takeCommand (fun c => hasCode 13#8 c && !namesNone c) (always .owner) runSetListener)

/-- SET_LISTENER naming none (R164, R176, R178). -/
def execSetListenerNone (s : State) : Host.Outcome State Fault Refusal :=
  .next (s.takeCommand namesNone (always .owner) fun _ t => (t.clearListener, reply .ok []))

/-- ACK_EVENT at the event unit (R173). -/
def runAckEvent : Run := needs 2 fun c s =>
  match Commons.ackEvent s.env (u16At c.params 0) s.commons with
  | some x => ({ s with commons := x }, reply .ok [])
  | none => (s, refuse .badValue)

/-- ACK_EVENT (R164, R173). -/
def execAckEvent (s : State) : Host.Outcome State Fault Refusal :=
  .next (s.takeCommand (hasCode 14#8) (always .listener) runAckEvent)

/-! ### RESTART (R165) -/

/-- RESTART: the OK response of a RESTART that is taken carries the restart it asks for (R165). -/
def runRestart : Run := needs 1 fun c s =>
  if c.param8 0 = 1#8 then (s, { reply .ok [] with restart := some .light })
  else if c.param8 0 = 2#8 then (s, { reply .ok [] with restart := some .full })
  else (s, refuse .badValue)

/-- The RESTART rows: LIGHT is kind 1 and FULL is kind 2; a RESTART that names neither belongs to both
and is refused alike: DESIGN CHOICE (log 15). -/
def restartNames (k : Byte) (c : Command) : Bool :=
  hasCode 15#8 c &&
    (c.params.isEmpty || c.param8 0 == k || !(c.param8 0 == 1#8 || c.param8 0 == 2#8))

/-- RESTART_LIGHT; a response lost at once lets the restart take effect (R153, R165). -/
def execRestartLight (s : State) : Host.Outcome State Fault Refusal :=
  .next ((s.takeCommand (restartNames 1#8) (always .owner) runRestart).settleRestart s.straps)

/-- RESTART_FULL; a response lost at once lets the restart take effect (R153, R165), on the straps that
State holds: DESIGN CHOICE (log 8). -/
def execRestartFull (s : State) : Host.Outcome State Fault Refusal :=
  .next ((s.takeCommand (restartNames 2#8) (always .owner) runRestart).settleRestart s.straps)

/-! ### LIGHT_RESTART, FULL_RESTART (R149, R165) -/

/-- The happening that reports or loses the response of a RESTART, up to the restart (R143, R165):
DESIGN CHOICE (log 9). -/
def State.settling (s : State) : SettledBy → State
  | .sent p => s.endTransmission p
  | .linkFell p => s.linkPin p .down
  | .lostAtOnce => s.takeCommand (hasCode 15#8) (always .owner) runRestart

/-- LIGHT_RESTART: the happening settles the response of a RESTART LIGHT and the restart takes effect in
it; a happening that settles none is no LIGHT restart (R149, R165). -/
def execLightRestart (by_ : SettledBy) (s : State) : Host.Outcome State Fault Refusal :=
  .next (if (s.settling by_).commons.output = .restartDue .light then (s.settling by_).lightRestart
    else s)

/-- FULL_RESTART: as LIGHT_RESTART, with the straps as they stand at its end (R136, R149, R165). -/
def execFullRestart (by_ : SettledBy) (straps : Straps) (s : State) :
    Host.Outcome State Fault Refusal :=
  .next (if (s.settling by_).commons.output = .restartDue .full then
      (s.settling by_).fullRestart straps
    else s)

end Sys2Proof.Machine
end

