-- ==== Sys2Proof/Machine/Operands.lean ====
section
/-! DEFINITION. The operands of action-list steps: the step record, the verbs with their operand ranges
(R43, R44, 12.3), and reading and writing the header fields a step names (R53, R57). -/

namespace Sys2Proof.Machine

/-- A step record (R43, 12.3). -/
structure ActionStep where
  verb : Byte
  required : Word16
  forbidden : Word16
  operand : Byte
  value : Word16
  mask : Word16
  deriving DecidableEq, Repr

/-- Step `k` of list `i` as a bank stores it (12.3). -/
def Bank.step (b : Bank) (i k : Nat) : ActionStep :=
  let o := recordOffset .actions i + 1 + 10 * k
  { verb := b.read o, required := b.u16 (o + 1), forbidden := b.u16 (o + 3),
    operand := b.read (o + 5), value := b.u16 (o + 6), mask := b.u16 (o + 8) }

/-- The stored length of list `i` (R42, 12.3). -/
def Bank.listLength (b : Bank) (i : Nat) : Nat := (b.read (recordOffset .actions i)).toNat

/-- A field that REWRITE or COMPARE names (R44). -/
inductive Field where
  | dest
  | src
  | kind
  | hop
  | outerTag
  | innerTag
  | length
  deriving DecidableEq, Repr

/-- The operation of a step whose verb is known and whose operand is in range (R44). -/
inductive StepOp where
  | forward (set : PortSet)
  | cls (c : Fin 4)
  | rewrite (f : Field)
  | hop
  | compare (f : Field)
  | setFlag (n : Fin 8)
  | clearFlag (n : Fin 8)
  | pushTag
  | popTag
  | meter (m : Fin 64)
  | mirror (p : Port)
  | punt
  | drop (code : Fin 16)
  deriving DecidableEq, Repr

/-- What a verb and its operand decode to. -/
inductive StepDecode where
  | ok (op : StepOp)
  | badVerb
  | badOperand
  deriving DecidableEq, Repr

/-- A number operand below `n`. -/
def operandFin (n : Nat) (o : Byte) : Option (Fin n) :=
  if h : o.toNat < n then some ⟨o.toNat, h⟩ else none

/-- The port set of FORWARD (12.3). -/
def operandPortSet (o : Byte) : Option PortSet :=
  if o = 0#8 then some { a := false, b := false }
  else if o = 1#8 then some { a := true, b := false }
  else if o = 2#8 then some { a := false, b := true }
  else if o = 3#8 then some { a := true, b := true }
  else none

/-- The field of COMPARE (12.3). -/
def operandField (o : Byte) : Option Field :=
  if o = 0#8 then some .dest
  else if o = 1#8 then some .src
  else if o = 2#8 then some .kind
  else if o = 3#8 then some .hop
  else if o = 4#8 then some .outerTag
  else if o = 5#8 then some .innerTag
  else if o = 6#8 then some .length
  else none

/-- The field of REWRITE: COMPARE's without LENGTH (R44). -/
def operandRewriteField (o : Byte) : Option Field :=
  match operandField o with
  | some .length => none
  | f => f

/-- An operand read into an operation, or out of range. -/
def inRange {α : Type} (o : Option α) (f : α → StepOp) : StepDecode :=
  match o with
  | some v => .ok (f v)
  | none => .badOperand

/-- The verb codes and the operand ranges (R44, R99, 12.3). -/
def decodeStep (verb operand : Byte) : StepDecode :=
  if verb = 1#8 then inRange (operandPortSet operand) .forward
  else if verb = 2#8 then inRange (operandFin 4 operand) .cls
  else if verb = 3#8 then inRange (operandRewriteField operand) .rewrite
  else if verb = 4#8 then .ok .hop
  else if verb = 5#8 then inRange (operandField operand) .compare
  else if verb = 6#8 then inRange (operandFin 8 operand) .setFlag
  else if verb = 7#8 then inRange (operandFin 8 operand) .clearFlag
  else if verb = 8#8 then .ok .pushTag
  else if verb = 9#8 then .ok .popTag
  else if verb = 10#8 then inRange (operandFin 64 operand) .meter
  else if verb = 11#8 then inRange (portOfCode operand) .mirror
  else if verb = 12#8 then .ok .punt
  else if verb = 13#8 then inRange (operandFin 16 operand) .drop
  else .badVerb

/-- The bits of value and mask a field uses: the low 8 for KIND and HOP, all 16 otherwise (R44). -/
def fieldBits : Field → Word16
  | .kind => 0x00FF#16
  | .hop => 0x00FF#16
  | _ => 0xFFFF#16

/-- The value of a field, absent for a tag the stack does not hold (R47, R57). -/
def FrameRecord.field? (r : FrameRecord) : Field → Option Word16
  | .dest => some r.dest
  | .src => some r.src
  | .kind => some (r.kind.setWidth 16)
  | .hop => some (r.hop.setWidth 16)
  | .outerTag => r.tags.outer?
  | .innerTag => r.tags.inner?
  | .length => some (BitVec.ofNat 16 r.len)

/-- Replace the outer tag of a stack that has one. -/
def TagStack.setOuter (t : TagStack) (w : Word16) : TagStack :=
  match t with
  | .empty => .empty
  | .one _ => .one w
  | .two _ i => .two w i

/-- Replace the inner tag of a stack that has one. -/
def TagStack.setInner (t : TagStack) (w : Word16) : TagStack :=
  match t with
  | .two o _ => .two o w
  | t => t

/-- Write a field (R53); len is not among the fields a verb reaches (R11). -/
def FrameRecord.setField (r : FrameRecord) (f : Field) (w : Word16) : FrameRecord :=
  match f with
  | .dest => { r with dest := w }
  | .src => { r with src := w }
  | .kind => { r with kind := w.setWidth 8 }
  | .hop => { r with hop := w.setWidth 8 }
  | .outerTag => { r with tags := r.tags.setOuter w }
  | .innerTag => { r with tags := r.tags.setInner w }
  | .length => r

/-- Each bit of `old` is replaced by that of `value` where `mask` has a 1 (R53). -/
def replaceBits (old value mask : Word16) : Word16 := (old &&& ~~~mask) ||| (value &&& mask)

/-- A masked match field is satisfied (R18). -/
def maskedEq {n : Nat} (quantity value mask : BitVec n) : Bool :=
  quantity &&& mask == value &&& mask

end Sys2Proof.Machine
end

