-- ==== Sys2Proof/Machine/Lookup.lean ====
section
/-! DEFINITION. The rule table and its lookup (2.1 to 2.4). -/

namespace Sys2Proof.Machine

/-- Offset of a RULES slot (R91). -/
def slotOffset (n : Nat) : Nat := recordOffset .rules n

/-- Width marker of a slot (12.3). -/
def slotMarker (b : Bank) (n : Nat) : Byte := b.read (slotOffset n) >>> 4

/-- Port match bits of a slot (12.3). -/
def slotPortBits (b : Bank) (n : Nat) : Byte := b.read (slotOffset n) &&& 0x0F#8

/-- Width marker codes (12.3). -/
def markInvalid : Byte := 0#8
/-- Width marker STANDARD (12.3). -/
def markStandard : Byte := 1#8
/-- Width marker WIDE_HEAD (12.3). -/
def markHead : Byte := 2#8
/-- Width marker WIDE_TAIL (12.3). -/
def markTail : Byte := 3#8

/-- The action list index of a slot (12.3). -/
def slotList (b : Bank) (n : Nat) : Nat := (b.read (slotOffset n + 19)).toNat

/-- The port match agrees with the ingress port; a value other than ANY, A and B agrees with no frame
(R19, R22). -/
def portAgrees (bits : Byte) (p : Port) : Bool := bits == 0#8 || bits == portCode p

/-- The outer tag as lookup reads it: 0 when absent (R12, R19). -/
def lookupOuter (t : TagStack) : Word16 := t.outer?.getD 0#16

/-- The inner tag as lookup reads it: 0 when absent (R12, R20). -/
def lookupInner (t : TagStack) : Word16 := t.inner?.getD 0#16

/-- The match fields of a standard entry or a head (R18, R19). -/
def headMatches (b : Bank) (n : Nat) (r : FrameRecord) : Bool :=
  let o := slotOffset n
  portAgrees (slotPortBits b n) r.ingress &&
    maskedEq r.kind (b.read (o + 1)) (b.read (o + 2)) &&
    maskedEq r.dest (b.u16 (o + 3)) (b.u16 (o + 5)) &&
    maskedEq r.src (b.u16 (o + 7)) (b.u16 (o + 9)) &&
    maskedEq r.flags (b.u16 (o + 11)) (b.u16 (o + 13)) &&
    maskedEq (lookupOuter r.tags) (b.u16 (o + 15)) (b.u16 (o + 17))

/-- The match fields of a tail (R18, R20). -/
def tailMatches (b : Bank) (n : Nat) (r : FrameRecord) : Bool :=
  let o := slotOffset n
  maskedEq (lookupInner r.tags) (b.u16 (o + 1)) (b.u16 (o + 3)) &&
    maskedEq r.peek (b.u32 (o + 5)) (b.u32 (o + 9)) &&
    maskedEq r.hop (b.read (o + 13)) (b.read (o + 14)) &&
    decide ((b.u16 (o + 15)).toNat ≤ r.len) && decide (r.len ≤ (b.u16 (o + 17)).toNat)

/-- A slot is a readable starting slot whose entry the frame matches: a STANDARD slot, or a WIDE_HEAD
at an even slot followed by a WIDE_TAIL (R17, R21, R22). -/
def slotMatches (b : Bank) (r : FrameRecord) (n : Nat) : Bool :=
  if slotMarker b n = markStandard then headMatches b n r
  else if slotMarker b n = markHead then
    n % 2 == 0 && slotMarker b (n + 1) == markTail && headMatches b n r && tailMatches b (n + 1) r
  else false

/-- A lookup: the first slot, in ascending order, whose entry the frame matches (R21). -/
def lookup (b : Bank) (r : FrameRecord) : Option Nat := (List.range 512).find? (slotMatches b r)

end Sys2Proof.Machine
end

