-- ==== Sys2Proof/WellFormed.lean ====
section
/-! DEFINITION. What a command must satisfy to be a happening the manual describes: a storage upset
names an existing record and gives it content of its size (R118), and the bytes that a reception row
delivers are no more than a reception stores (R125). The rest of a row's conditions depend on the
state and are checked by its meaning. -/

namespace Sys2Proof

/-- The upset names a record of the bank and content of the record's size (R118). -/
def upsetFits (t : Table) (index : Nat) (content : List Byte) : Bool :=
  decide (index < Machine.recordCount t) && decide (content.length = Machine.recordSize t)

/-- A command the manual's happenings cover. -/
def Instr.wellFormed : Instr → Bool
  | .receptionCellClaim _ bytes => !bytes.isEmpty && decide (bytes.length ≤ Config.maxFrameBytes)
  | .oversizeCutoff _ bytes => !bytes.isEmpty && decide (bytes.length ≤ Config.maxFrameBytes + 1)
  | .frameEnd _ bytes => decide (bytes.length ≤ Config.maxFrameBytes)
  | .storageUpset _ t index content => upsetFits t index content
  | .pinReset _ => true
  | .linkPinChange _ _ => true
  | .frameStart _ => true
  | .lineAbort _ => true
  | .classify => true
  | .refill => true
  | .malformedCommand => true
  | .unknownCommand => true
  | .discover => true
  | .openSession => true
  | .closeSession => true
  | .getSetting => true
  | .setNodeAddress => true
  | .setSessionTimeout => true
  | .setVerifyPeriod => true
  | .setFallback => true
  | .setPortEnable => true
  | .setQueueLimit => true
  | .setPoolLowMark => true
  | .setPoolHighMark => true
  | .readTable => true
  | .readNext => true
  | .writeTable => true
  | .commit => true
  | .abortEdit => true
  | .readCountersHits => true
  | .readCountersPort => true
  | .readCountersMeter => true
  | .readCountersPrefilter => true
  | .readCountersMgmt => true
  | .readCountersIntegrity => true
  | .readStatus => true
  | .setListener => true
  | .setListenerNone => true
  | .ackEvent => true
  | .restartLight => true
  | .restartFull => true
  | .lightRestart _ => true
  | .fullRestart _ _ => true
  | .sessionIdleExpiry => true
  | .signingStep => true
  | .swap => true
  | .copyingStep => true
  | .endOfCopying => true
  | .verifyPeriodExpiry => true
  | .sweepStep => true
  | .verdictPass => true
  | .verdictFail => true
  | .reserveGrant => true
  | .mgmtOutAdmit _ => true
  | .transmissionStart _ => true
  | .transmissionEnd _ => true
  | .eventSend => true
  | .retryTimerExpiry => true
  | .puntTake => true
  | .uptimeCount => true

end Sys2Proof
end

