-- ==== Sys2Proof/Machine/Tables.lean ====
section
/-! DEFINITION. The table controller (chapter 6): validation of a record, the controller's answers to
WRITE_TABLE, COMMIT and ABORT_EDIT, and the rows SIGNING_STEP, SWAP, COPYING_STEP, END_OF_COPYING and
STORAGE_UPSET. -/

namespace Sys2Proof.Machine

/-! ### Validation (R98, R99) -/

/-- Why a record fails, with the step position of a VERB or OPERAND failure (R100). -/
structure Invalid where
  reason : CommitReason
  step : Option Nat
  deriving DecidableEq, Repr

/-- A failure without a step position. -/
def failed (reason : CommitReason) : Option Invalid := some { reason := reason, step := none }

/-- A record of POLICY: each miss policy is CONTINUE or DROP (R99). -/
def validatePolicy (b : Bank) : Option Invalid :=
  if 1 < (b.read (policyMissOffset .a)).toNat ∨ 1 < (b.read (policyMissOffset .b)).toNat then
    failed .enum
  else none
where
  /-- The miss policy byte of a port (12.3). -/
  policyMissOffset : Port → Nat
    | .a => recordOffset .policy 0 + 1
    | .b => recordOffset .policy 0 + 4

/-- The PREFILTER record: enable, key width, tag select and untagged handling are assigned codes
(R99). -/
def validatePrefilter (b : Bank) : Option Invalid :=
  if (List.range 4).any fun k => decide (1 < (b.read (recordOffset .prefilter 0 + k)).toNat) then
    failed .enum
  else none

/-- A METERS record (R99). -/
def validateMeter (b : Bank) (m : Nat) : Option Invalid :=
  if Config.maxBurst < storedBurst b m then failed .burst else none

/-- Step `k` of a list: the verb before its operand (R99). -/
def validateStep (b : Bank) (i k : Nat) : Option Invalid :=
  match decodeStep (b.step i k).verb (b.step i k).operand with
  | .ok _ => none
  | .badVerb => some { reason := .verb, step := some k }
  | .badOperand => some { reason := .operand, step := some k }

/-- A list: its length, then the steps within it in position order (R99). -/
def validateList (b : Bank) (i : Nat) : Option Invalid :=
  if 8 < b.listLength i then failed .listLength
  else (List.range (b.listLength i)).findSome? (validateStep b i)

/-- A RULES slot: the first check of R98 that fails. The pairing checks read the marker of the neighbouring slot
as it stands when slot `n` is reached, the tail's check that of a head already signed: DEDUCED (log 28). -/
def validateSlot (b : Bank) (n : Nat) : Option Invalid :=
  let m := slotMarker b n
  if 3 < m.toNat then failed .widthMarker
  else if m = markHead ∧ n % 2 = 1 then failed .wideAlign
  else if m = markHead ∧ slotMarker b (n + 1) ≠ markTail then failed .widePair
  else if m = markTail ∧ (n % 2 = 0 ∨ slotMarker b (n - 1) ≠ markHead) then failed .widePair
  else if (m = markStandard ∨ m = markHead) ∧ 2 < (slotPortBits b n).toNat then failed .portMatch
  else if m = markTail ∧ ((b.u16 (slotOffset n + 17)).toNat < (b.u16 (slotOffset n + 15)).toNat ∨
      1024 < (b.u16 (slotOffset n + 17)).toNat) then failed .lengthBounds
  else none

/-- The checks of a record: the failure, or none for a valid record (R98, R99). -/
def validateRecord (b : Bank) (r : RecordRef) : Option Invalid :=
  match r.table with
  | .policy => validatePolicy b
  | .prefilter => validatePrefilter b
  | .meters => validateMeter b r.index
  | .actions => validateList b r.index
  | .rules => validateSlot b r.index

/-! ### The controller's answers to commands (R92 to R96, R105) -/

/-- The pending generation number: 1 after 65535 (R90, R96). -/
def pendingGeneration (g : Word16) : Word16 := if g = 0xFFFF#16 then 1#16 else g + 1#16

/-- The controller's answer to a WRITE_TABLE (R93, R94, R95). -/
inductive WriteAnswer where
  | busy
  | badTable
  | badLength
  | badIndex
  | written (c : Controller)
  deriving DecidableEq, Repr

/-- WRITE_TABLE at the controller: the state check, then the structural checks in order, then the
write (R93, R94, R95). -/
def Controller.writeTable (c : Controller) (code : Byte) (start : Nat) (body : List Byte) :
    WriteAnswer :=
  if c.state ≠ .editing then .busy
  else
    match tableOfCode code with
    | none => .badTable
    | some t =>
      if body.isEmpty ∨ body.length % recordSize t ≠ 0 then .badLength
      else if recordCount t < start + body.length / recordSize t then .badIndex
      else .written { c.setShadow (c.shadowBank.setRecords t start body) with dirty := true }

/-- COMMIT at the controller: `none` is BUSY, otherwise SIGNING begins (R96). -/
def Controller.commit (c : Controller) (origin : Word16) : Option Controller :=
  if c.state = .editing then
    some { c with state := .signing (some firstRecord) checkInit, origin := some origin }
  else none

/-- The controller's answer to an ABORT_EDIT (R105). -/
inductive AbortAnswer where
  | faulted
  | ok
  | accepted (c : Controller)
  deriving DecidableEq, Repr

/-- ABORT_EDIT at the controller: from EDITING the origin is absent already and stays so, from SIGNING
the abandoned COMMIT's origin stays present (R105). -/
def Controller.abortEdit (c : Controller) (mode : Mode) : AbortAnswer :=
  match c.state with
  | .copying _ => .ok
  | _ => if mode = .faulted then .faulted else .accepted { c with state := .copying (some firstRecord) }

/-! ### SIGNING_STEP (R97, R100) -/

/-- The controller takes the record its sweep position names: a valid one goes into the check
computation, an invalid one ends the signing with COMMIT_FAILED (R97, R100). -/
def State.signingStep (s : State) : State :=
  match s.tables.state with
  | .signing (some r) check =>
    match validateRecord s.tables.shadowBank r with
    | some why =>
      { s with tables := { s.tables with state := .editing, origin := none } }.post
        (.commitFailed r why.step why.reason s.tables.origin)
    | none =>
      { s with tables := { s.tables with
          state := .signing (nextRecord r)
            (checkBytes check (s.tables.shadowBank.record r.table r.index)) } }
  | _ => s

/-- SIGNING_STEP (R97). -/
def execSigningStep (s : State) : Host.Outcome State Fault Refusal := .next s.signingStep

/-! ### SWAP (R101) -/

/-- The controller at the swap: roles, generation, signature and COPYING (R101, items 1 to 3 and 9). -/
def Controller.swapped (c : Controller) (signature : Word32) : Controller :=
  { c with
    active := otherBank c.active
    generation := pendingGeneration c.generation
    signature := signature
    state := .copying (some firstRecord) }

/-- The classifier at the swap: mode NORMAL and the hit arrays rotated (R25, R101). -/
def Classifier.swapped (c : Classifier) : Classifier :=
  { c with
    mode := .normal
    previous := c.current
    current := Vector.replicate 512 HitCounter.zero }

/-- The verify unit at the swap: any sweep abandoned and a fresh period, but that a STOPPED unit with
period 0 stays STOPPED (R116). -/
def Verify.swapped (v : Verify) : Verify :=
  { v with state := if v.state = .stopped ∧ v.period = 0 then .stopped else .waiting v.period }

/-- The swap, once signing has taken the last RULES slot (R101). -/
def State.swap (s : State) : State :=
  match s.tables.state with
  | .signing none check =>
    { s with
      tables := s.tables.swapped (checkFinish check)
      classifier := s.classifier.swapped
      meters := reseedMeters s.tables.activeBank s.tables.shadowBank s.meters
      verify := s.verify.swapped }.post
      (.commitDone (pendingGeneration s.tables.generation) (checkFinish check) s.tables.origin)
  | _ => s

/-- SWAP (R101). -/
def execSwap (s : State) : Host.Outcome State Fault Refusal := .next s.swap

/-! ### COPYING_STEP, END_OF_COPYING (R103) -/

/-- The controller copies the record its sweep position names (R103). -/
def Controller.copyingStep (c : Controller) : Controller :=
  match c.state with
  | .copying (some r) =>
    { c.setShadow (c.shadowBank.setRecords r.table r.index (c.activeBank.record r.table r.index)) with
      state := .copying (nextRecord r) }
  | _ => c

/-- COPYING_STEP (R103). -/
def execCopyingStep (s : State) : Host.Outcome State Fault Refusal :=
  .next { s with tables := s.tables.copyingStep }

/-- The end of copying, once the last RULES slot has been copied (R103). -/
def Controller.endCopying (c : Controller) : Controller :=
  match c.state with
  | .copying none => { c with state := .editing, dirty := false, origin := none }
  | _ => c

/-- END_OF_COPYING (R103). -/
def execEndOfCopying (s : State) : Host.Outcome State Fault Refusal :=
  .next { s with tables := s.tables.endCopying }

/-! ### STORAGE_UPSET (R118) -/

/-- The record takes the new content at once; an upset of an active meter record also lowers the
tokens to a burst that fell below them (R86, R118). -/
def State.storageUpset (s : State) (i : BankId) (t : Table) (index : Nat) (content : List Byte) :
    State :=
  let b := (s.tables.bank i).setRecords t index content
  { s with
    tables := s.tables.setBank i b
    meters := if t = .meters ∧ i = s.tables.active then clampMeter b index s.meters else s.meters }

/-- STORAGE_UPSET: of a record that exists and with content of its size; nothing else is a storage
upset, and is left without effect (R118): DESIGN CHOICE (log 21). -/
def execStorageUpset (i : BankId) (t : Table) (index : Nat) (content : List Byte) (s : State) :
    Host.Outcome State Fault Refusal :=
  .next (if upsetFits t index content then s.storageUpset i t index content else s)

end Sys2Proof.Machine
end

