-- ==== Sys2Proof/Machine/TableCommands.lean ====
section
/-! DEFINITION. The commands on tables: READ_TABLE, READ_NEXT, WRITE_TABLE, COMMIT and ABORT_EDIT
(R161, R162, 12.4). -/

namespace Sys2Proof.Machine

/-! ### READ_TABLE, READ_NEXT (R161) -/

/-- Whole records that fit in a response body after its 3-byte prefix (R161). -/
def recordsThatFit (t : Table) : Nat := (Config.responseBodyBytes - 3) / recordSize t

/-- The body of a read of `n` records from `start` on (12.4). -/
def readBody (b : Bank) (t : Table) (start n : Nat) : List Byte :=
  beBytes 2 (start + n) ++ beBytes 1 n ++ b.readBytes (recordOffset t start) (n * recordSize t)

/-- The role a code names (12.2, R181). -/
def roleOfCode (k : Byte) : Option Role :=
  if k = 0#8 then some .active else if k = 1#8 then some .shadow else none

/-- The owner's READ_TABLE sets the cursor (R161). -/
def State.setCursor (s : State) (c : Command) (cur : Cursor) : State :=
  if s.isOwner c then s.withSession fun o => { o with cursor := some cur } else s

/-- READ_TABLE (R161): the table is judged first, then the role, then a count of 0, then the range:
DEDUCED (log 26). -/
def runReadTable : Run := needs 6 fun c s =>
  match tableOfCode (c.param8 0) with
  | none => (s, refuse .badTable)
  | some t =>
    match roleOfCode (c.param8 1) with
    | none => (s, refuse .badValue)
    | some role =>
      let start := c.param16 2
      let count := c.param16 4
      if count = 0 then (s, refuse .badValue)
      else if recordCount t ≤ start ∨ recordCount t < start + count then (s, refuse .badIndex)
      else
        let n := min count (recordsThatFit t)
        (s.setCursor c { table := t, role := role, next := start + n },
          reply .ok (readBody (s.tables.roleBank role) t start n))

/-- READ_TABLE (R161). -/
def execReadTable (s : State) : Host.Outcome State Fault Refusal :=
  .next (s.takeCommand (hasCode 6#8) (always .anyone) runReadTable)

/-- The read cursor of an open session (R155). -/
def State.cursor (s : State) : Option Cursor := s.endpoint.session.bind fun o => o.cursor

/-- READ_NEXT: as many records as fit from the cursor on, up to the end of its table (R161). -/
def runReadNext : Run := fun _ s =>
  match s.cursor with
  | none => (s, refuse .badValue)
  | some cur =>
    let n := min (recordCount cur.table - cur.next) (recordsThatFit cur.table)
    (s.withSession fun o => { o with cursor := some { cur with next := cur.next + n } },
      reply .ok (readBody (s.tables.roleBank cur.role) cur.table cur.next n))

/-- READ_NEXT (R161). -/
def execReadNext (s : State) : Host.Outcome State Fault Refusal :=
  .next (s.takeCommand (hasCode 7#8) (always .owner) runReadNext)

/-! ### WRITE_TABLE, COMMIT, ABORT_EDIT (R162) -/

/-- WRITE_TABLE: table and start index must be present; the controller judges the rest (R93, R94, R152,
R181). -/
def runWriteTable : Run := needs 3 fun c s =>
  match s.tables.writeTable (c.param8 0) (c.param16 1) (c.params.drop 3) with
  | .busy => (s, refuse .busy)
  | .badTable => (s, refuse .badTable)
  | .badLength => (s, refuse .badLength)
  | .badIndex => (s, refuse .badIndex)
  | .written t => ({ s with tables := t }, reply .ok [])

/-- WRITE_TABLE (R95). -/
def execWriteTable (s : State) : Host.Outcome State Fault Refusal :=
  .next (s.takeCommand (hasCode 8#8) (always .owner) runWriteTable)

/-- COMMIT: ACCEPTED with the pending generation number, or BUSY (R96). -/
def runCommit : Run := fun c s =>
  match s.tables.commit c.src with
  | some t =>
    ({ s with tables := t }, reply .accepted (word16Bytes (pendingGeneration s.tables.generation)))
  | none => (s, refuse .busy)

/-- COMMIT (R96). -/
def execCommit (s : State) : Host.Outcome State Fault Refusal :=
  .next (s.takeCommand (hasCode 9#8) (always .owner) runCommit)

/-- ABORT_EDIT (R105). -/
def runAbortEdit : Run := fun _ s =>
  match s.tables.abortEdit s.classifier.mode with
  | .faulted => (s, refuse .faulted)
  | .ok => (s, reply .ok [])
  | .accepted t => ({ s with tables := t }, reply .accepted [])

/-- ABORT_EDIT (R105). -/
def execAbortEdit (s : State) : Host.Outcome State Fault Refusal :=
  .next (s.takeCommand (hasCode 10#8) (always .owner) runAbortEdit)

end Sys2Proof.Machine
end

