-- ==== Sys2Proof/Machine/CounterCommands.lean ====
section
/-! DEFINITION. READ_COUNTERS and its six groups (R163, 12.4). -/

namespace Sys2Proof.Machine

/-! ### What the groups share -/

/-- The clear byte makes the read one that only the owner may make; a payload that ends before it is
judged as a read without clear (R163). -/
def counterPermission (c : Command) : Permission :=
  if 3 ≤ c.params.length ∧ c.param8 2 ≠ 0#8 then .owner else .anyone

/-- A group code that 12.4 does not assign. -/
def unassignedGroup (k : Byte) : Bool := k == 0#8 || decide (6 < k.toNat)

/-- A READ_COUNTERS row takes the reads of its own group; a read that names no group belongs to all of
them and is refused alike: DESIGN CHOICE (log 15). -/
def readsGroup (k : Byte) (c : Command) : Bool :=
  hasCode 11#8 c && (c.params.isEmpty || c.param8 0 == k || unassignedGroup (c.param8 0))

/-- READ_COUNTERS up to the parameters that the group reads: the clear byte present, the group known,
`n` parameter bytes present, the clear byte 0 or 1 (R163, R181). DEDUCED (log 14): the order of the
last three. -/
def counterRun (n : Nat) (run : Bool → Run) : Run := needs 3 fun c s =>
  if unassignedGroup (c.param8 0) then (s, refuse .badValue)
  else if c.params.length < n then (s, refuse .badLength)
  else if 1 < (c.param8 2).toNat then (s, refuse .badValue)
  else run (c.param8 2 == 1#8) c s

/-- A range of `count` from `first` within `limit`: the refusal, if any (R163). A count of 0 from a first
beyond the limit is refused for its count: DEDUCED (log 14). -/
def rangeFails (first count limit : Nat) : Option Status :=
  if count = 0 then some .badValue else if limit < first + count then some .badIndex else none

/-! ### HITS (R26) -/

/-- The hit array a selector names, `true` for CURRENT (12.4). -/
def arrayOfCode (k : Byte) : Option Bool :=
  if k = 0#8 then some true else if k = 1#8 then some false else none

/-- The bytes of one slot's counters (12.4). -/
def hitBytes (h : HitCounter) : List Byte := beBytes 5 h.frames.toNat ++ beBytes 6 h.bytes.toNat

/-- The body of a HITS read (12.4). -/
def hitsBody (generation : Word16) (array : Byte) (hits : Vector HitCounter 512) (first n : Nat) :
    List Byte :=
  word16Bytes generation ++ [array] ++ beBytes 2 first ++ beBytes 1 n ++
    ((hits.toList.drop first).take n).flatMap hitBytes

/-- The slots from `first` on, `n` of them, set to zero (R26). -/
def clearHits (hits : Vector HitCounter 512) (first n : Nat) : Vector HitCounter 512 :=
  Vector.ofFn fun i => if first ≤ i.val ∧ i.val < first + n then HitCounter.zero else hits[i]

/-- Most slots of one HITS read (R163). -/
def maxHitSlots : Nat := 21

/-- A HITS read (R26, R163); a clear of PREVIOUS is answered BAD_VALUE. -/
def runHits (clear : Bool) : Run := fun c s =>
  match arrayOfCode (c.param8 1) with
  | none => (s, refuse .badValue)
  | some current =>
    if clear && !current then (s, refuse .badValue)
    else
      match rangeFails (c.param16 3) (c.param16 5) 512 with
      | some st => (s, refuse st)
      | none =>
        let n := min (c.param16 5) maxHitSlots
        let hits := if current then s.classifier.current else s.classifier.previous
        (if clear then
            { s with classifier := { s.classifier with
                current := clearHits s.classifier.current (c.param16 3) n } }
          else s,
          reply .ok (hitsBody s.tables.generation (c.param8 1) hits (c.param16 3) n))

/-- READ_COUNTERS_HITS (R26). -/
def execReadCountersHits (s : State) : Host.Outcome State Fault Refusal :=
  .next (s.takeCommand (readsGroup 1#8) counterPermission (counterRun 7 runHits))

/-! ### PORT (R129) -/

/-- A PORT read: all 38 counters of the port, which a clear sets to 0 (R129). -/
def runPort (clear : Bool) : Run := fun c s =>
  match portOfCode (c.param8 1) with
  | none => (s, refuse .badValue)
  | some p =>
    (if clear then s.setPort p { s.port p with counters := Vector.replicate 38 0#32 } else s,
      reply .ok ((s.port p).counters.toList.flatMap word32Bytes))

/-- READ_COUNTERS_PORT (R129). -/
def execReadCountersPort (s : State) : Host.Outcome State Fault Refusal :=
  .next (s.takeCommand (readsGroup 2#8) counterPermission (counterRun 3 runPort))

/-! ### METER (R87) -/

/-- The bytes of one meter (12.4). -/
def meterBytes (m : Meter) : List Byte :=
  beBytes 4 m.tokens ++ word32Bytes m.green ++ word32Bytes m.red

/-- The meters from `first` on, `n` of them, with their counts set to 0 and their tokens kept (R87). -/
def clearMeters (ms : Vector Meter 64) (first n : Nat) : Vector Meter 64 :=
  Vector.ofFn fun i =>
    if first ≤ i.val ∧ i.val < first + n then { ms[i] with green := 0#32, red := 0#32 } else ms[i]

/-- The body of a METER read (12.4). -/
def metersBody (ms : Vector Meter 64) (first n : Nat) : List Byte :=
  beBytes 1 first ++ beBytes 1 n ++ ((ms.toList.drop first).take n).flatMap meterBytes

/-- Most meters of one METER read (R163). -/
def maxMeterReads : Nat := 19

/-- A METER read (R87, R163). -/
def runMeters (clear : Bool) : Run := fun c s =>
  match rangeFails (c.param16 3) (c.param16 5) 64 with
  | some st => (s, refuse st)
  | none =>
    let n := min (c.param16 5) maxMeterReads
    (if clear then { s with meters := clearMeters s.meters (c.param16 3) n } else s,
      reply .ok (metersBody s.meters (c.param16 3) n))

/-- READ_COUNTERS_METER (R87). -/
def execReadCountersMeter (s : State) : Host.Outcome State Fault Refusal :=
  .next (s.takeCommand (readsGroup 3#8) counterPermission (counterRun 7 runMeters))

/-! ### PREFILTER (R76) -/

/-- A PREFILTER read (R76). -/
def runPrefilter (clear : Bool) : Run := fun _ s =>
  (if clear then { s with prefilter := { hits := 0#32, misses := 0#32, bypasses := 0#32 } } else s,
    reply .ok (word32Bytes s.prefilter.hits ++ word32Bytes s.prefilter.misses ++
      word32Bytes s.prefilter.bypasses))

/-- READ_COUNTERS_PREFILTER (R76). -/
def execReadCountersPrefilter (s : State) : Host.Outcome State Fault Refusal :=
  .next (s.takeCommand (readsGroup 4#8) counterPermission (counterRun 3 runPrefilter))

/-! ### MGMT (R167) -/

/-- The management counters in table order (R167, 12.4). -/
def mgmtBody (m : MgmtCounters) : List Byte :=
  word32Bytes m.overrun ++ word32Bytes m.malformed ++ word32Bytes m.respLost ++
    word32Bytes m.eventsLost ++ word32Bytes m.puntsSent

/-- The management counters at zero. -/
def MgmtCounters.zero : MgmtCounters :=
  { overrun := 0#32, malformed := 0#32, respLost := 0#32, eventsLost := 0#32, puntsSent := 0#32 }

/-- A MGMT read (R167); a clear leaves the lost count of the reports as it is (R170). -/
def runMgmt (clear : Bool) : Run := fun _ s =>
  (if clear then { s with commons := { s.commons with mgmt := MgmtCounters.zero } } else s,
    reply .ok (mgmtBody s.commons.mgmt))

/-- READ_COUNTERS_MGMT (R167). -/
def execReadCountersMgmt (s : State) : Host.Outcome State Fault Refusal :=
  .next (s.takeCommand (readsGroup 5#8) counterPermission (counterRun 3 runMgmt))

/-! ### INTEGRITY (R120) -/

/-- Codes of the last result (12.4). -/
def resultCode : LastResult → Byte
  | .none => 0#8
  | .pass => 1#8
  | .fail => 2#8

/-- The last fault, all zero when absent (12.4). -/
def faultBytes : Option LastFault → List Byte
  | some f => word16Bytes f.generation ++ word32Bytes f.stored ++ word32Bytes f.computed
  | none => List.replicate 10 0#8

/-- An INTEGRITY read; a clear leaves the last result and the last fault (R120). -/
def runIntegrity (clear : Bool) : Run := fun _ s =>
  (if clear then { s with verify := { s.verify with passes := 0#32, faults := 0#32 } } else s,
    reply .ok (word32Bytes s.verify.passes ++ word32Bytes s.verify.faults ++
      [resultCode s.verify.lastResult] ++ faultBytes s.verify.lastFault))

/-- READ_COUNTERS_INTEGRITY (R120). -/
def execReadCountersIntegrity (s : State) : Host.Outcome State Fault Refusal :=
  .next (s.takeCommand (readsGroup 6#8) counterPermission (counterRun 3 runIntegrity))

end Sys2Proof.Machine
end

