-- ==== Sys2Proof/Machine/Actions.lean ====
section
/-! DEFINITION. The action engine (chapter 3): one step, and the run of a list on a frame record and the
meters. -/

namespace Sys2Proof.Machine

/-- What one examined step leaves: the record, the meters, and whether the list ends there. -/
structure StepResult where
  record : FrameRecord
  meters : Vector Meter 64
  ended : Bool

/-- A step fault sets FAULT and has no other effect (R47). -/
def stepFault (r : FrameRecord) (ms : Vector Meter 64) : StepResult :=
  { record := { r with flags := putFlag r.flags .fault true }, meters := ms, ended := false }

/-- A step that changed the record and lets the list go on. -/
def stepOn (r : FrameRecord) (ms : Vector Meter 64) : StepResult :=
  { record := r, meters := ms, ended := false }

/-- Change the disposition state of a record. -/
def FrameRecord.setDisp (r : FrameRecord) (d : Disposition) : FrameRecord := { r with disp := d }

/-- A step that drops the frame and ends the list; the other disposition values stay (R52, R54). -/
def stepDrop (r : FrameRecord) (ms : Vector Meter 64) (why : DropReason) : StepResult :=
  { record := r.setDisp { r.disp with drop := some why }, meters := ms, ended := true }

/-- HOP (R54). -/
def runHop (r : FrameRecord) (ms : Vector Meter 64) : StepResult :=
  if r.hop = 0#8 then stepDrop r ms .hopExpired
  else if r.hop - 1#8 = 0#8 then stepDrop { r with hop := 0#8 } ms .hopExpired
  else stepOn { r with hop := r.hop - 1#8 } ms

/-- REWRITE of a field; an absent tag is a step fault (R53). -/
def runRewrite (r : FrameRecord) (ms : Vector Meter 64) (f : Field) (value mask : Word16) :
    StepResult :=
  match r.field? f with
  | some old => stepOn (r.setField f (replaceBits old value (mask &&& fieldBits f))) ms
  | none => stepFault r ms

/-- COMPARE of a field; an absent tag is a step fault (R57). -/
def runCompare (r : FrameRecord) (ms : Vector Meter 64) (f : Field) (value mask : Word16) :
    StepResult :=
  match r.field? f with
  | some v =>
    let x := v &&& (mask &&& fieldBits f)
    let y := value &&& (mask &&& fieldBits f)
    stepOn { r with flags := putFlag (putFlag r.flags .eq (x == y)) .lt (decide (x < y)) } ms
  | none => stepFault r ms

/-- Give the record a tag stack, TAGGED and DOUBLE following it (R12). -/
def FrameRecord.setTags (r : FrameRecord) (t : TagStack) : FrameRecord :=
  { r with tags := t, flags := putTagFlags r.flags t }

/-- PUSH_TAG (R55). -/
def runPush (r : FrameRecord) (ms : Vector Meter 64) (value : Word16) : StepResult :=
  match r.tags with
  | .empty => stepOn (r.setTags (.one value)) ms
  | .one o => stepOn (r.setTags (.two value o)) ms
  | .two _ _ => stepFault r ms

/-- POP_TAG (R56). -/
def runPop (r : FrameRecord) (ms : Vector Meter 64) : StepResult :=
  match r.tags with
  | .empty => stepFault r ms
  | .one _ => stepOn (r.setTags .empty) ms
  | .two _ i => stepOn (r.setTags (.one i)) ms

/-- METER: the answer on the received byte length goes into RED (R59, R81). -/
def runMeter (r : FrameRecord) (ms : Vector Meter 64) (m : Fin 64) : StepResult :=
  let answer := ms[m].answer r.rxLen
  stepOn { r with flags := putFlag r.flags .red answer.1 } (ms.set m answer.2)

/-- A step that runs (R48 to R59). -/
def runOp (r : FrameRecord) (ms : Vector Meter 64) (op : StepOp) (value mask : Word16) :
    StepResult :=
  match op with
  | .forward set => stepOn (r.setDisp { r.disp with dest := set }) ms
  | .cls c => stepOn (r.setDisp { r.disp with cls := c }) ms
  | .rewrite f => runRewrite r ms f value mask
  | .hop => runHop r ms
  | .compare f => runCompare r ms f value mask
  | .setFlag n => stepOn { r with flags := putFlag r.flags (.user n) true } ms
  | .clearFlag n => stepOn { r with flags := putFlag r.flags (.user n) false } ms
  | .pushTag => runPush r ms value
  | .popTag => runPop r ms
  | .meter m => runMeter r ms m
  | .mirror p => stepOn (r.setDisp { r.disp with mirror := some p }) ms
  | .punt => stepOn (r.setDisp { r.disp with punt := true }) ms
  | .drop c => stepDrop r ms (.ruleDrop c)

/-- A step examined: skipped when its guard fails; a step fault when its verb is none or unknown or its
operand out of range (R45, R46, R47). -/
def examineStep (r : FrameRecord) (ms : Vector Meter 64) (st : ActionStep) : StepResult :=
  if guardHolds r.flags st.required st.forbidden then
    match decodeStep st.verb st.operand with
    | .ok op => runOp r ms op st.value st.mask
    | .badVerb => stepFault r ms
    | .badOperand => stepFault r ms
  else stepOn r ms

/-- The steps in position order, up to the one that ends the list (R45). -/
def runSteps : List ActionStep → FrameRecord → Vector Meter 64 → FrameRecord × Vector Meter 64
  | [], r, ms => (r, ms)
  | st :: rest, r, ms =>
    let x := examineStep r ms st
    if x.ended then (x.record, x.meters) else runSteps rest x.record x.meters

/-- The steps of list `i` that run: those within its length, 8 at most (R42, R47). -/
def listSteps (b : Bank) (i : Nat) : List ActionStep :=
  (List.range (min 8 (b.listLength i))).map (b.step i)

/-- Run list `i`; a stored length of 9 or more sets FAULT before the first step (R45, R47). -/
def runList (b : Bank) (i : Nat) (r : FrameRecord) (ms : Vector Meter 64) :
    FrameRecord × Vector Meter 64 :=
  let r0 := if 9 ≤ b.listLength i then { r with flags := putFlag r.flags .fault true } else r
  runSteps (listSteps b i) r0 ms

end Sys2Proof.Machine
end

