-- ==== Sys2Proof/Machine/Prefilter.lean ====
section
/-! DEFINITION. The tag prefilter (chapter 4) and the POLICY record (R74), as a classification reads
them from the bank in use. -/

namespace Sys2Proof.Machine

/-- enable is ENABLED; an unassigned code reads as DISABLED (R68, R77). -/
def pfEnabled (b : Bank) : Bool := b.read (recordOffset .prefilter 0) == 1#8

/-- key width is 12; an unassigned code reads as 16 (R68, R77). -/
def pfWidth12 (b : Bank) : Bool := b.read (recordOffset .prefilter 0 + 1) == 0#8

/-- tag select is INNERMOST; an unassigned code reads as OUTER (R68, R77). -/
def pfInnermost (b : Bank) : Bool := b.read (recordOffset .prefilter 0 + 2) == 1#8

/-- untagged handling is KEY_ZERO; an unassigned code reads as BYPASS (R68, R77). -/
def pfKeyZero (b : Bank) : Bool := b.read (recordOffset .prefilter 0 + 3) == 1#8

/-- A class is eligible: bit `c` of the eligible classes (12.3). -/
def pfEligible (b : Bank) (c : Nat) : Bool := (b.u16 (recordOffset .prefilter 0 + 4)).getLsbD c

/-- A bucket is a member: bit `n mod 8` of byte `6 + n div 8` (12.3). -/
def pfMember (b : Bank) (n : Byte) : Bool :=
  (b.read (recordOffset .prefilter 0 + 6 + n.toNat / 8)).getLsbD (n.toNat % 8)

/-- The bucket of a key: its low byte combined by exclusive-or with its high byte rotated left by 3
(R72). -/
def bucketOf (key : Word16) : Byte := key.extractLsb' 0 8 ^^^ (key.extractLsb' 8 8).rotateLeft 3

/-- The tag that tag select selects (R71). -/
def selectTag (innermost : Bool) : TagStack → Option Word16
  | .empty => none
  | .one o => some o
  | .two o i => some (if innermost then i else o)

/-- The class of a tag (R3). -/
def tagClass (t : Word16) : Nat := (t >>> 12).toNat

/-- The key of a selected tag (R71). -/
def keyOf (width12 : Bool) (t : Word16) : Word16 := if width12 then t &&& 0x0FFF#16 else t

/-- HIT if the bucket of the key is a member, else MISS (R70, step 5). -/
def lookupKey (b : Bank) (key : Word16) : PfOutcome :=
  if pfMember b (bucketOf key) then .hit else .miss

/-- The outcome for a tag stack (R70). -/
def prefilterOutcome (b : Bank) (tags : TagStack) : PfOutcome :=
  if pfEnabled b then
    match selectTag (pfInnermost b) tags with
    | none => if pfKeyZero b then lookupKey b 0#16 else .bypass
    | some t =>
      if pfEligible b (tagClass t) then lookupKey b (keyOf (pfWidth12 b) t) else .bypass
  else .bypass

/-- Each outcome counts in its own counter (R75). -/
def PfCounters.count (c : PfCounters) : PfOutcome → PfCounters
  | .hit => { c with hits := satInc c.hits }
  | .miss => { c with misses := satInc c.misses }
  | .bypass => { c with bypasses := satInc c.bypasses }

/-- Offset of a port's three bytes of POLICY (12.3). -/
def policyOffset : Port → Nat
  | .a => recordOffset .policy 0
  | .b => recordOffset .policy 0 + 3

/-- The default list of a port (R23, 12.3). -/
def defaultList (b : Bank) (p : Port) : Nat := (b.read (policyOffset p)).toNat

/-- The miss policy of a port is DROP; an unassigned code reads as CONTINUE (R74, R77). -/
def missDrops (b : Bank) (p : Port) : Bool := b.read (policyOffset p + 1) == 1#8

/-- The initial user-flag set of a port (R15, 12.3). -/
def initialUserFlags (b : Bank) (p : Port) : Byte := b.read (policyOffset p + 2)

end Sys2Proof.Machine
end

