-- ==== Sys2Proof/Machine/Classify.lean ====
section
/-! DEFINITION. CLASSIFY: the classifier arbiter, the stages of one classification (R34) and the
disposition of its frame (3.6). -/

namespace Sys2Proof.Machine

/-! ### The arbiter (R29) -/

/-- The port whose ingress queue is served next (R29). -/
def Classifier.choose (c : Classifier) : Option Port :=
  match c.ingressA, c.ingressB with
  | [], [] => none
  | _ :: _, [] => some .a
  | [], _ :: _ => some .b
  | _ :: _, _ :: _ => some (otherPort c.lastServed)

/-! ### Disposition (R60 to R66) -/

/-- A destination set holds no port. -/
def PortSet.isEmpty (d : PortSet) : Bool := !d.a && !d.b

/-- A destination set holds a port. -/
def PortSet.has (d : PortSet) : Port → Bool
  | .a => d.a
  | .b => d.b

/-- The set of one port. -/
def PortSet.only : Port → PortSet
  | .a => { a := true, b := false }
  | .b => { a := false, b := true }

/-- A frame neither dropped by its list nor sent anywhere is dropped for NO_DESTINATION (R61). -/
def Disposition.final (d : Disposition) : Disposition :=
  match d.drop with
  | some _ => d
  | none => if d.dest.isEmpty then { d with drop := some .noDestination } else d

/-- A copy that disposition offers; `mirror` marks the mirror copy. -/
structure CopyOffer where
  port : Port
  cls : Fin 4
  mirror : Bool
  deriving DecidableEq, Repr

/-- The copies disposition offers (R60 to R63). -/
def copiesOf (d : Disposition) : List CopyOffer :=
  if d.drop.isSome || d.dest.isEmpty then []
  else
    (if d.dest.a then [{ port := .a, cls := d.cls, mirror := false }] else []) ++
    (if d.dest.b then [{ port := .b, cls := d.cls, mirror := false }] else []) ++
    (match d.mirror with
      | some p => if d.dest.has p then [] else [{ port := p, cls := 0, mirror := true }]
      | none => [])

/-- The counter of a refused copy: LINK_DOWN or QUEUE_FULL, and MIRROR_DROP for a mirror copy
(R66, R138). -/
def refusalCounter (up mirror : Bool) : PortCounter :=
  if mirror then .mirrorDrop else if up then .queueFull else .linkDown

/-- Admission of a copy to its class queue, or its refusal (R138). -/
def State.offerCopy (id cells : Nat) (s : State) (o : CopyOffer) : State :=
  let q := (s.port o.port).queue o.cls
  if s.isUp o.port ∧ q.occupancy + cells ≤ q.limit then
    (s.setPort o.port ((s.port o.port).setQueue o.cls
      { q with entries := q.entries ++ [{ frame := id, cells := cells }] })).onCommons
      fun _ => Commons.hold id
  else s.count o.port (refusalCounter (s.isUp o.port) o.mirror)

/-- Admission of a punt entry to the punt queue, or its refusal (R64, R178). -/
def State.offerPuntEntry (id : Nat) (ingress : Port) (s : State) : State :=
  match s.commons.events.listener with
  | none => s.count ingress .puntNoListener
  | some _ =>
    if s.commons.events.puntQueue.length < Config.puntDepth then
      s.onCommons fun _ x => Commons.hold id { x with events :=
        { x.events with puntQueue := x.events.puntQueue ++ [id] } }
    else s.count ingress .puntFull

/-- A frame drop is counted at the ingress port; a RULE_DROP also under its code (R60, R61, R67). -/
def State.countDrop (p : Port) (s : State) : DropReason → State
  | .fallbackBlock => s.count p .fallbackBlock
  | .prefilterMiss => s.count p .prefilterMiss
  | .ruleDrop c => (s.count p .ruleDrop).count p (.code c)
  | .hopExpired => s.count p .hopExpired
  | .noDestination => s.count p .noDestination

/-- The record that classification leaves with a frame, whose cell list stays its own (R13). -/
def RxFrame.classified (f : RxFrame) (r : FrameRecord) : RxFrame :=
  { f with record := { r with cellList := f.record.cellList } }

/-- Dispose of a classified frame: count a drop, offer its copies and its punt entry, and release the
ingress-queue holder (R36, R60 to R65). -/
def State.dispose (s : State) (id cells : Nat) (r : FrameRecord) : State :=
  let d := r.disp.final
  let s1 := s.onCommons fun _ => Commons.updateFrame id fun f => f.classified (r.setDisp d)
  let s2 := match d.drop with
    | some why => s1.countDrop r.ingress why
    | none => s1
  let s3 := (copiesOf d).foldl (State.offerCopy id cells) s2
  let s4 := if d.punt then s3.offerPuntEntry id r.ingress else s3
  s4.release id

/-! ### The stages (R34) -/

/-- The fallback setting of a port (R33). -/
def Classifier.fallback (c : Classifier) : Port → Fallback
  | .a => c.fallbackA
  | .b => c.fallbackB

/-- Stage 1: the take records the generation and clears EQ, LT, RED and FAULT (R10, R34). -/
def takeRecord (generation : Word16) (r : FrameRecord) : FrameRecord :=
  { r with generation := some generation, flags := clearTakeFlags r.flags }

/-- Stage 2: the fallback disposition (R32). -/
def fallbackRecord (f : Fallback) (r : FrameRecord) : FrameRecord :=
  match f with
  | .pass => r.setDisp { Disposition.initial with dest := PortSet.only (otherPort r.ingress) }
  | .block => r.setDisp { Disposition.initial with drop := some .fallbackBlock }

/-- Stages 3 and 4 in the record: user flags, then the prefilter outcome and its flag
(R15, R35, R73). -/
def screenRecord (b : Bank) (r : FrameRecord) : FrameRecord :=
  let r1 := { r with flags := putUserFlags r.flags (initialUserFlags b r.ingress) }
  let o := prefilterOutcome b r.tags
  { r1 with pf := some o, flags := putPfFlags r1.flags o }

/-- A match counts one frame and the received byte length at its starting slot (R24). -/
def countHit (hits : Vector HitCounter 512) (n len : Nat) : Vector HitCounter 512 :=
  Vector.ofFn fun i =>
    if i.val = n then
      { frames := hits[i].frames + 1#40, bytes := hits[i].bytes + BitVec.ofNat 48 len }
    else hits[i]

/-- Stage 5: the lookup's result, the counters it changes and the list it chooses (R21, R23, R24). -/
def State.lookupStage (s : State) (b : Bank) (r : FrameRecord) : State × FrameRecord × Nat :=
  match lookup b r with
  | some n =>
    ({ s with classifier :=
        { s.classifier with current := countHit s.classifier.current n r.rxLen } },
      { r with slot := some n }, slotList b n)
  | none => (s.count r.ingress .noMatch, r, defaultList b r.ingress)

/-- Stages 3 to 7 in NORMAL mode (R35, R36). -/
def State.classifyNormal (s : State) (f : RxFrame) (r0 : FrameRecord) : State :=
  let b := s.tables.activeBank
  let r := screenRecord b r0
  let o := prefilterOutcome b r0.tags
  let s1 := { s with prefilter := s.prefilter.count o }
  if o = .miss ∧ missDrops b r.ingress then
    s1.dispose f.id f.cells (r.setDisp { r.disp with drop := some .prefilterMiss })
  else
    let (s2, r2, list) := s1.lookupStage b r
    let (r3, ms) := runList b list r2 s2.meters
    { s2 with meters := ms }.dispose f.id f.cells r3

/-- Classify and dispose a frame the classifier has taken (R32, R34). -/
def State.classifyFrame (s : State) (f : RxFrame) : State :=
  let r := takeRecord s.tables.generation f.record
  if s.classifier.mode = .normal then s.classifyNormal f r
  else s.dispose f.id f.cells (fallbackRecord (s.classifier.fallback r.ingress) r)

/-- The classifier takes the head record of the queue its arbiter chooses, classifies and disposes it
(R29, R34). -/
def State.classify (s : State) : State :=
  match s.classifier.choose with
  | none => s
  | some p =>
    match s.classifier.ingress p with
    | [] => s
    | id :: rest =>
      let s1 := { s with classifier := { s.classifier.setIngress p rest with lastServed := p } }
      match s1.commons.frame? id with
      | some f => s1.classifyFrame f
      | none => s1

/-- CLASSIFY (R34). -/
def execClassify (s : State) : Host.Outcome State Fault Refusal := .next s.classify

end Sys2Proof.Machine
end

