-- ==== Sys2Proof/Machine/Verify.lean ====
section
/-! DEFINITION. The verify unit (chapter 7): VERIFY_PERIOD_EXPIRY, SWEEP_STEP, VERDICT_PASS and
VERDICT_FAIL, and the effect of a new verify_period. -/

namespace Sys2Proof.Machine

/-! ### The period (R112) -/

/-- The unit after verify_period takes a new value (R112's table). A sweep that a non-zero period starts
in NORMAL reads what struck while the unit was STOPPED, R119 notwithstanding: DESIGN CHOICE (log 24). -/
def Verify.setPeriod (v : Verify) (mode : Mode) (period : Nat) : Verify :=
  { v with
    period := period
    state :=
      if period = 0 then .stopped
      else
        match v.state with
        | .waiting _ => .waiting period
        | .sweeping pos check => .sweeping pos check
        | .stopped => if mode = .normal then .waiting period else .stopped }

/-- The period timer expires: a sweep begins (R112). -/
def Verify.startSweep (v : Verify) : Verify :=
  match v.state with
  | .waiting _ => { v with state := .sweeping (some firstRecord) checkInit }
  | _ => v

/-- VERIFY_PERIOD_EXPIRY (R112). -/
def execVerifyPeriodExpiry (s : State) : Host.Outcome State Fault Refusal :=
  .next { s with verify := s.verify.startSweep }

/-! ### The sweep (R113) -/

/-- The unit takes the record its sweep position names from the active bank (R113). -/
def Verify.sweepStep (v : Verify) (active : Bank) : Verify :=
  match v.state with
  | .sweeping (some r) check =>
    { v with state := .sweeping (nextRecord r) (checkBytes check (active.record r.table r.index)) }
  | _ => v

/-- SWEEP_STEP (R113). -/
def execSweepStep (s : State) : Host.Outcome State Fault Refusal :=
  .next { s with verify := s.verify.sweepStep s.tables.activeBank }

/-! ### The verdicts (R114, R115) -/

/-- The completed check value of a sweep that has taken the last RULES slot (R114). -/
def Verify.computed? (v : Verify) : Option Word32 :=
  match v.state with
  | .sweeping none check => some (checkFinish check)
  | _ => none

/-- The unit after a PASS (R114); the fresh period is the setting as it stands (R112). -/
def Verify.passed (v : Verify) : Verify :=
  { v with state := .waiting v.period, passes := satInc v.passes, lastResult := .pass }

/-- VERDICT_PASS: the completed sweep equals the stored signature (R114). -/
def execVerdictPass (s : State) : Host.Outcome State Fault Refusal :=
  .next (if s.verify.computed? = some s.tables.signature then { s with verify := s.verify.passed }
    else s)

/-- The unit after a FAIL on `computed` against `stored` (R115). -/
def Verify.failed (v : Verify) (generation : Word16) (stored computed : Word32) : Verify :=
  { v with
    state := .stopped
    faults := satInc v.faults
    lastResult := .fail
    lastFault := some { generation := generation, stored := stored, computed := computed } }

/-- A FAIL verdict: the mode becomes FAULTED, the fault is recorded and TABLE_FAULT is posted
(R115), whenever the upset struck that the sweep found: DESIGN CHOICE (log 24). -/
def State.verdictFail (s : State) : State :=
  match s.verify.computed? with
  | some computed =>
    if computed = s.tables.signature then s
    else
      { s with
        classifier := { s.classifier with mode := .faulted }
        verify := s.verify.failed s.tables.generation s.tables.signature computed }.post
        (.tableFault s.tables.signature computed)
  | none => s

/-- VERDICT_FAIL: the completed sweep differs from the stored signature (R115). -/
def execVerdictFail (s : State) : Host.Outcome State Fault Refusal := .next s.verdictFail

end Sys2Proof.Machine
end

