-- ==== Sys2Proof/Machine/Settings.lean ====
section
/-! DEFINITION. The settings: GET_SETTING and the eight SET_SETTING rows (R160, 12.4). -/

namespace Sys2Proof.Machine

/-! ### Settings and their qualifiers (12.4) -/

/-- A setting with its qualifier. -/
inductive Setting where
  | nodeAddress
  | sessionTimeout
  | verifyPeriod
  | fallback (p : Port)
  | portEnable (p : Port)
  | queueLimit (p : Port) (c : Fin 4)
  | poolLowMark
  | poolHighMark
  deriving DecidableEq, Repr

/-- A qualifier of a setting that has none: 0 (R181, 12.4). -/
def noQualifier (q : Byte) (x : Setting) : Option Setting := if q = 0#8 then some x else none

/-- A port qualifier: the port code in bits 7..4, the other bits 0 (12.4). -/
def portQualifier (q : Byte) : Option Port :=
  if q &&& 0x0F#8 = 0#8 then portOfCode (q >>> 4) else none

/-- A port and class qualifier: the port code in bits 7..4, the class in bits 1..0, bits 3..2 zero
(12.4). -/
def queueQualifier (q : Byte) : Option (Port × Fin 4) :=
  if q &&& 0x0C#8 = 0#8 then
    (portOfCode (q >>> 4)).map fun p => (p, ⟨(q &&& 3#8).toNat % 4, Nat.mod_lt _ (by decide)⟩)
  else none

/-- The setting a code and a qualifier name; `none` is BAD_VALUE (R160, R181). -/
def settingOf (code q : Byte) : Option Setting :=
  if code = 1#8 then noQualifier q .nodeAddress
  else if code = 2#8 then noQualifier q .sessionTimeout
  else if code = 3#8 then noQualifier q .verifyPeriod
  else if code = 4#8 then (portQualifier q).map .fallback
  else if code = 5#8 then (portQualifier q).map .portEnable
  else if code = 6#8 then (queueQualifier q).map fun x => .queueLimit x.1 x.2
  else if code = 7#8 then noQualifier q .poolLowMark
  else if code = 8#8 then noQualifier q .poolHighMark
  else none

/-- The value a setting holds, as it is reported (R160, 12.4). -/
def State.settingValue (s : State) : Setting → Nat
  | .nodeAddress => s.endpoint.nodeAddress.toNat
  | .sessionTimeout => s.endpoint.sessionTimeout
  | .verifyPeriod => s.verify.period
  | .fallback p => match s.classifier.fallback p with | .pass => 0 | .block => 1
  | .portEnable p => (boolByte (s.port p).enabled).toNat
  | .queueLimit p c => ((s.port p).queue c).limit
  | .poolLowMark => s.commons.pool.lowMark
  | .poolHighMark => s.commons.pool.highMark

/-- The body of GET_SETTING and SET_SETTING (12.4). -/
def settingBody (s : State) (code q : Byte) (x : Setting) : List Byte :=
  [code, q] ++ beBytes 2 (s.settingValue x)

/-! ### GET_SETTING (R160) -/

/-- GET_SETTING's parameters and answer (R160). -/
def runGetSetting : Run := needs 2 fun c s =>
  match settingOf (c.param8 0) (c.param8 1) with
  | some x => (s, reply .ok (settingBody s (c.param8 0) (c.param8 1) x))
  | none => (s, refuse .badValue)

/-- GET_SETTING (R160). -/
def execGetSetting (s : State) : Host.Outcome State Fault Refusal :=
  .next (s.takeCommand (hasCode 4#8) (always .anyone) runGetSetting)

/-! ### What a SET_SETTING does to each setting -/

/-- node_address: 0x0001..0xFFFD (R151). -/
def State.setNodeAddress (s : State) (v : Nat) : Option State :=
  if 0x0001 ≤ v ∧ v ≤ 0xFFFD then
    some { s with endpoint := { s.endpoint with nodeAddress := BitVec.ofNat 16 v } }
  else none

/-- session_timeout: 1..600; the owner's timer restarts with it (R157, R160). -/
def State.setSessionTimeout (s : State) (v : Nat) : Option State :=
  if 1 ≤ v ∧ v ≤ 600 then some { s with endpoint := { s.endpoint with sessionTimeout := v } }.restartIdle
  else none

/-- verify_period: 0 or 10..60,000 (R112). -/
def State.setVerifyPeriod (s : State) (v : Nat) : Option State :=
  if v = 0 ∨ (10 ≤ v ∧ v ≤ 60000) then
    some { s with verify := s.verify.setPeriod s.classifier.mode v }
  else none

/-- Replace the fallback setting of a port. -/
def Classifier.setFallback (c : Classifier) (p : Port) (f : Fallback) : Classifier :=
  match p with
  | .a => { c with fallbackA := f }
  | .b => { c with fallbackB := f }

/-- fallback: 0 PASS, 1 BLOCK (R33). -/
def State.setFallback (s : State) (p : Port) (v : Nat) : Option State :=
  if v = 0 then some { s with classifier := s.classifier.setFallback p .pass }
  else if v = 1 then some { s with classifier := s.classifier.setFallback p .block }
  else none

/-- port_enable: 0 DISABLED, 1 ENABLED; the operational state is derived anew (R121). -/
def State.setPortEnable (s : State) (p : Port) (v : Nat) : Option State :=
  if v ≤ 1 then some (s.changePort p { s.port p with enabled := decide (v = 1) }) else none

/-- queue_limit: 0..512; no copy is removed (R139). -/
def State.setQueueLimit (s : State) (p : Port) (c : Fin 4) (v : Nat) : Option State :=
  if v ≤ 512 then
    some (s.setPort p ((s.port p).setQueue c { (s.port p).queue c with limit := v }))
  else none

/-- pool_low_mark: 0..511 and below the high mark; the pool state is evaluated anew (R134). -/
def State.setPoolLowMark (s : State) (v : Nat) : Option State :=
  if v ≤ 511 ∧ v < s.commons.pool.highMark then
    some (s.onCommons fun e x => Commons.evalPool e { x with pool := { x.pool with lowMark := v } })
  else none

/-- pool_high_mark: 1..512 and above the low mark; the pool state is evaluated anew (R134). -/
def State.setPoolHighMark (s : State) (v : Nat) : Option State :=
  if v ≤ 512 ∧ s.commons.pool.lowMark < v then
    some (s.onCommons fun e x => Commons.evalPool e { x with pool := { x.pool with highMark := v } })
  else none

/-- A SET_SETTING of a setting to a value; `none` is BAD_VALUE (R160). -/
def State.setSetting (s : State) (x : Setting) (v : Nat) : Option State :=
  match x with
  | .nodeAddress => s.setNodeAddress v
  | .sessionTimeout => s.setSessionTimeout v
  | .verifyPeriod => s.setVerifyPeriod v
  | .fallback p => s.setFallback p v
  | .portEnable p => s.setPortEnable p v
  | .queueLimit p c => s.setQueueLimit p c v
  | .poolLowMark => s.setPoolLowMark v
  | .poolHighMark => s.setPoolHighMark v

/-- SET_SETTING's parameters, effect and answer: the body carries the value then held (R160). -/
def runSetSetting : Run := needs 4 fun c s =>
  match settingOf (c.param8 0) (c.param8 1) with
  | some x =>
    match s.setSetting x (c.param16 2) with
    | some t => (t, reply .ok (settingBody t (c.param8 0) (c.param8 1) x))
    | none => (s, refuse .badValue)
  | none => (s, refuse .badValue)

/-- A setting code that 12.4 does not assign. -/
def unassignedSetting (k : Byte) : Bool := k == 0#8 || decide (8 < k.toNat)

/-- A SET_SETTING row takes the SET_SETTING of its own setting; one that names no setting belongs to all
of them and is refused alike: DESIGN CHOICE (log 15). -/
def setsSetting (k : Byte) (c : Command) : Bool :=
  hasCode 5#8 c && (c.params.isEmpty || c.param8 0 == k || unassignedSetting (c.param8 0))

/-! ### The rows -/

/-- SET_NODE_ADDRESS (R151). -/
def execSetNodeAddress (s : State) : Host.Outcome State Fault Refusal :=
  .next (s.takeCommand (setsSetting 1#8) (always .owner) runSetSetting)

/-- SET_SESSION_TIMEOUT (R157). -/
def execSetSessionTimeout (s : State) : Host.Outcome State Fault Refusal :=
  .next (s.takeCommand (setsSetting 2#8) (always .owner) runSetSetting)

/-- SET_VERIFY_PERIOD (R112). -/
def execSetVerifyPeriod (s : State) : Host.Outcome State Fault Refusal :=
  .next (s.takeCommand (setsSetting 3#8) (always .owner) runSetSetting)

/-- SET_FALLBACK (R33). -/
def execSetFallback (s : State) : Host.Outcome State Fault Refusal :=
  .next (s.takeCommand (setsSetting 4#8) (always .owner) runSetSetting)

/-- SET_PORT_ENABLE (R121). -/
def execSetPortEnable (s : State) : Host.Outcome State Fault Refusal :=
  .next (s.takeCommand (setsSetting 5#8) (always .owner) runSetSetting)

/-- SET_QUEUE_LIMIT (R139). -/
def execSetQueueLimit (s : State) : Host.Outcome State Fault Refusal :=
  .next (s.takeCommand (setsSetting 6#8) (always .owner) runSetSetting)

/-- SET_POOL_LOW_MARK (R134). -/
def execSetPoolLowMark (s : State) : Host.Outcome State Fault Refusal :=
  .next (s.takeCommand (setsSetting 7#8) (always .owner) runSetSetting)

/-- SET_POOL_HIGH_MARK (R134). -/
def execSetPoolHighMark (s : State) : Host.Outcome State Fault Refusal :=
  .next (s.takeCommand (setsSetting 8#8) (always .owner) runSetSetting)

end Sys2Proof.Machine
end

