-- ==== Sys2Proof/Machine/Dispatch.lean ====
section
/-! DEFINITION. The meaning of every command. -/

namespace Sys2Proof.Machine

def exec (i : Instr) (s : State) : Host.Outcome State Fault Refusal :=
  match i with
  | .pinReset pins => Sys2Proof.Machine.execPinReset pins s
  | .linkPinChange p level => Sys2Proof.Machine.execLinkPinChange p level s
  | .frameStart p => Sys2Proof.Machine.execFrameStart p s
  | .receptionCellClaim p bytes => Sys2Proof.Machine.execReceptionCellClaim p bytes s
  | .oversizeCutoff p bytes => Sys2Proof.Machine.execOversizeCutoff p bytes s
  | .lineAbort p => Sys2Proof.Machine.execLineAbort p s
  | .frameEnd p bytes => Sys2Proof.Machine.execFrameEnd p bytes s
  | .classify => Sys2Proof.Machine.execClassify s
  | .refill => Sys2Proof.Machine.execRefill s
  | .malformedCommand => Sys2Proof.Machine.execMalformedCommand s
  | .unknownCommand => Sys2Proof.Machine.execUnknownCommand s
  | .discover => Sys2Proof.Machine.execDiscover s
  | .openSession => Sys2Proof.Machine.execOpenSession s
  | .closeSession => Sys2Proof.Machine.execCloseSession s
  | .getSetting => Sys2Proof.Machine.execGetSetting s
  | .setNodeAddress => Sys2Proof.Machine.execSetNodeAddress s
  | .setSessionTimeout => Sys2Proof.Machine.execSetSessionTimeout s
  | .setVerifyPeriod => Sys2Proof.Machine.execSetVerifyPeriod s
  | .setFallback => Sys2Proof.Machine.execSetFallback s
  | .setPortEnable => Sys2Proof.Machine.execSetPortEnable s
  | .setQueueLimit => Sys2Proof.Machine.execSetQueueLimit s
  | .setPoolLowMark => Sys2Proof.Machine.execSetPoolLowMark s
  | .setPoolHighMark => Sys2Proof.Machine.execSetPoolHighMark s
  | .readTable => Sys2Proof.Machine.execReadTable s
  | .readNext => Sys2Proof.Machine.execReadNext s
  | .writeTable => Sys2Proof.Machine.execWriteTable s
  | .commit => Sys2Proof.Machine.execCommit s
  | .abortEdit => Sys2Proof.Machine.execAbortEdit s
  | .readCountersHits => Sys2Proof.Machine.execReadCountersHits s
  | .readCountersPort => Sys2Proof.Machine.execReadCountersPort s
  | .readCountersMeter => Sys2Proof.Machine.execReadCountersMeter s
  | .readCountersPrefilter => Sys2Proof.Machine.execReadCountersPrefilter s
  | .readCountersMgmt => Sys2Proof.Machine.execReadCountersMgmt s
  | .readCountersIntegrity => Sys2Proof.Machine.execReadCountersIntegrity s
  | .readStatus => Sys2Proof.Machine.execReadStatus s
  | .setListener => Sys2Proof.Machine.execSetListener s
  | .setListenerNone => Sys2Proof.Machine.execSetListenerNone s
  | .ackEvent => Sys2Proof.Machine.execAckEvent s
  | .restartLight => Sys2Proof.Machine.execRestartLight s
  | .restartFull => Sys2Proof.Machine.execRestartFull s
  | .lightRestart by_ => Sys2Proof.Machine.execLightRestart by_ s
  | .fullRestart by_ straps => Sys2Proof.Machine.execFullRestart by_ straps s
  | .sessionIdleExpiry => Sys2Proof.Machine.execSessionIdleExpiry s
  | .signingStep => Sys2Proof.Machine.execSigningStep s
  | .swap => Sys2Proof.Machine.execSwap s
  | .copyingStep => Sys2Proof.Machine.execCopyingStep s
  | .endOfCopying => Sys2Proof.Machine.execEndOfCopying s
  | .verifyPeriodExpiry => Sys2Proof.Machine.execVerifyPeriodExpiry s
  | .sweepStep => Sys2Proof.Machine.execSweepStep s
  | .verdictPass => Sys2Proof.Machine.execVerdictPass s
  | .verdictFail => Sys2Proof.Machine.execVerdictFail s
  | .storageUpset bank table index content => Sys2Proof.Machine.execStorageUpset bank table index content s
  | .reserveGrant => Sys2Proof.Machine.execReserveGrant s
  | .mgmtOutAdmit p => Sys2Proof.Machine.execMgmtOutAdmit p s
  | .transmissionStart p => Sys2Proof.Machine.execTransmissionStart p s
  | .transmissionEnd p => Sys2Proof.Machine.execTransmissionEnd p s
  | .eventSend => Sys2Proof.Machine.execEventSend s
  | .retryTimerExpiry => Sys2Proof.Machine.execRetryTimerExpiry s
  | .puntTake => Sys2Proof.Machine.execPuntTake s
  | .uptimeCount => Sys2Proof.Machine.execUptimeCount s

end Sys2Proof.Machine
end

