-- ==== Sys2Proof/Safety.lean ====
section
/-! DEFINITION. What a sound state of the part is: the laws the manual states of the whole part, each as a
predicate that every command keeps from every state, whether or not a run reaches it. Claims are stated
in these terms. -/

namespace Sys2Proof.Safety

open Sys2Proof.Machine

/-! ### Banks (R89) -/

/-- Both banks are in canonical form. -/
abbrev BanksCanonical (s : State) : Prop :=
  s.tables.bank0.wf = true ∧ s.tables.bank1.wf = true

/-! ### The cell pool (R130) -/

/-- General cells that a reception holds. -/
def receptionCells : Option Reception → List GeneralCell
  | some (.receiving _ cells) => cells
  | _ => []

/-- General cells held by stored frames and by receptions in progress. -/
def heldCells (s : State) : List GeneralCell :=
  s.commons.frames.flatMap (·.record.cellList) ++ receptionCells s.portA.reception ++
    receptionCells s.portB.reception

/-- Reserve cells of a transmission in progress. -/
def txReserve : Option Transmission → Nat
  | some { source := .built b, wire := _ } => b.cells
  | _ => 0

/-- Reserve cells of a response that waits to join its queue. -/
def outputReserve : Output → Nat
  | .offering b => b.cells
  | _ => 0

/-- Reserve cells of an event report that waits to join its queue. -/
def senderReserve : Sender → Nat
  | .awaiting w => match w.flight with | .offering b => b.cells | _ => 0
  | .idle => 0

/-- Reserve cells of a punt report that waits to join its queue. -/
def puntReserve : PuntStage → Nat
  | .offering b => b.cells
  | _ => 0

/-- Reserve cells held by built frames, wherever they are. -/
def reserveHeld (s : State) : Nat :=
  (s.commons.mgmtOutA.map Built.cells).sum + (s.commons.mgmtOutB.map Built.cells).sum +
    txReserve s.portA.tx + txReserve s.portB.tx + outputReserve s.commons.output +
    senderReserve s.commons.events.sender + puntReserve s.commons.events.punt

/-- Each general cell is free or belongs to exactly one stored frame, and the free general cells and those
held make 512 (R130). -/
abbrev GeneralConserved (s : State) : Prop :=
  (∀ c : GeneralCell, s.commons.pool.free.count c + (heldCells s).count c = 1) ∧
    s.commons.pool.freeGeneral + (heldCells s).length = 512

/-- What the sender holds fits its listener: AWAITING_ACK has a listener and a head record, a report
that waits for room is for the listener's port, and the timer runs only for a report that has joined
the queue (R171, R172, R175). -/
def senderFits (u : EventUnit) : Bool :=
  match u.sender with
  | .idle => true
  | .awaiting w =>
    match u.listener with
    | none => false
    | some l =>
      !u.queue.isEmpty && (!w.timer || decide (w.flight = .queued)) &&
        (match w.flight with | .offering b => decide (b.port = l.port) | _ => true)

/-- Free reserve cells and those held make 24 (R130), with a sender that holds what R171 gives it. -/
abbrev ReserveConserved (s : State) : Prop :=
  s.commons.pool.freeReserve + reserveHeld s = 24 ∧ senderFits s.commons.events = true

/-! ### Holders (R132) -/

/-- Times a frame stands in the class queues and the transmitter of a port. -/
def portRefs (u : PortUnit) (id : Nat) : Nat :=
  (u.queues.toList.map fun q => q.entries.countP fun c => c.frame == id).sum +
    (match u.tx with
      | some { source := .copy c _, wire := _ } => if c.frame = id then 1 else 0
      | _ => 0)

/-- Holders of a frame: its entries in the ingress queues, the command queue, the class queues, the punt
queue, and its transmissions (R132). -/
def refs (s : State) (id : Nat) : Nat :=
  s.classifier.ingressA.count id + s.classifier.ingressB.count id + s.endpoint.commands.count id +
    portRefs s.portA id + portRefs s.portB id + s.commons.events.puntQueue.count id

/-- The frame of a copy in transmission. -/
def txFrames : Option Transmission → List Nat
  | some { source := .copy c _, wire := _ } => [c.frame]
  | _ => []

/-- The names of stored frames in the queues and the transmitters of the part. -/
def namedFrames (s : State) : List Nat :=
  s.classifier.ingressA ++ s.classifier.ingressB ++ s.endpoint.commands ++
    s.commons.events.puntQueue ++ txFrames s.portA.tx ++ txFrames s.portB.tx ++
    (s.portA.queues.toList ++ s.portB.queues.toList).flatMap fun q => q.entries.map (·.frame)

/-- Every stored frame has a name of its own below the next one, its holder count is the number of its
holders, at least one, and everything that names a frame names a stored one (R65, R132). -/
abbrev HoldersCounted (s : State) : Prop :=
  (s.commons.frames.map (·.id)).Nodup ∧
    (∀ f ∈ s.commons.frames,
      f.id < s.commons.nextFrame ∧ 1 ≤ f.holders ∧ f.holders = refs s f.id) ∧
    ∀ id ∈ namedFrames s, id ∈ s.commons.frames.map (·.id)

/-! ### Queues (R28, R127, R137, R169, R178) -/

/-- No queue holds more than its capacity. -/
abbrev QueuesBounded (s : State) : Prop :=
  s.classifier.ingressA.length ≤ 8 ∧ s.classifier.ingressB.length ≤ 8 ∧
    s.endpoint.commands.length ≤ 4 ∧ s.commons.mgmtOutA.length ≤ 4 ∧
    s.commons.mgmtOutB.length ≤ 4 ∧ s.commons.events.queue.length ≤ 16 ∧
    s.commons.events.puntQueue.length ≤ 8

/-! ### Settings (R160) -/

/-- Every setting lies in its range (R112, R130, R139, R151, R160). -/
abbrev SettingsInRange (s : State) : Prop :=
  1 ≤ s.endpoint.nodeAddress.toNat ∧ s.endpoint.nodeAddress.toNat ≤ 0xFFFD ∧
    1 ≤ s.endpoint.sessionTimeout ∧ s.endpoint.sessionTimeout ≤ 600 ∧
    (s.verify.period = 0 ∨ (10 ≤ s.verify.period ∧ s.verify.period ≤ 60000)) ∧
    (∀ c : Fin 4, (s.portA.queue c).limit ≤ 512 ∧ (s.portB.queue c).limit ≤ 512) ∧
    s.commons.pool.lowMark < s.commons.pool.highMark ∧ s.commons.pool.highMark ≤ 512

/-! ### Pool state (R133) -/

/-- The pool state agrees with its marks: POOL_OK not below the low mark, POOL_LOW not above the high
mark (R133). -/
abbrev PoolAgrees (s : State) : Prop :=
  s.commons.pool.lowMark < s.commons.pool.highMark ∧ s.commons.pool.highMark ≤ 512 ∧
    (if s.commons.pool.low then s.commons.pool.freeGeneral ≤ s.commons.pool.highMark
      else s.commons.pool.lowMark ≤ s.commons.pool.freeGeneral)

/-! ### Mode, generation and verify state (R90, R111) -/

/-- The generation is 0 exactly while UNLOADED, when the signature is 0 too; the verify unit is STOPPED
exactly when the mode is not NORMAL or the period is 0; outside EDITING there is an origin only for a
commit, and in EDITING none (R90, R92, R111). -/
abbrev ModesAgree (s : State) : Prop :=
  (s.tables.generation = 0#16 ↔ s.classifier.mode = .unloaded) ∧
    (s.classifier.mode = .unloaded → s.tables.signature = 0#32) ∧
    (s.verify.state = .stopped ↔ (s.classifier.mode ≠ .normal ∨ s.verify.period = 0)) ∧
    (s.tables.state = .editing → s.tables.origin = none)

/-! ### Meters (R78, R80, R84, R86) -/

/-- No meter holds more tokens than the burst of its record in the active bank. -/
abbrev MetersBounded (s : State) : Prop :=
  ∀ m : Fin 64, (s.meters[m]).tokens ≤ meterBurst s.tables.activeBank m.val

/-! ### Events (R169, R170) -/

/-- The queue's sequence numbers follow one another and end before the next one to be given. -/
def seqChain (next : Word16) : List EventRecord → Bool
  | [] => true
  | [r] => decide (Commons.seqAfter r.seq = next) && decide (r.seq ≠ 0#16)
  | r :: t :: rest =>
    decide (Commons.seqAfter r.seq = t.seq) && decide (r.seq ≠ 0#16) && seqChain next (t :: rest)

/-- The captured lost value is no larger than the lost count (R170). -/
def capturedFits (u : EventUnit) : Bool :=
  match u.sender with
  | .awaiting w => decide (w.captured ≤ u.lost)
  | .idle => true

/-- Sequence numbers in order, 0 never given, and a captured lost value no larger than the lost count
(R169, R170). -/
abbrev EventsOrdered (s : State) : Prop :=
  seqChain s.commons.events.nextSeq s.commons.events.queue = true ∧
    s.commons.events.nextSeq ≠ 0#16 ∧ capturedFits s.commons.events = true

/-! ### Session (R155) -/

/-- An open session has the number most recently given, which is not 0, and a cursor within its table
(R155, R156, R161). -/
def sessionFits (e : Endpoint) : Bool :=
  match e.session with
  | none => true
  | some o =>
    decide (o.number = e.lastNumber) && decide (o.number ≠ 0#8) &&
      (match o.cursor with
        | some c => decide (c.next ≤ recordCount c.table)
        | none => true)

/-- The session record is sound. -/
abbrev SessionSound (s : State) : Prop := sessionFits s.endpoint = true

/-! ### Ports (R121, R125, R145) -/

/-- A port that is not UP receives nothing, sends nothing and has nothing queued (R123, R145). -/
def idleUnlessUp (u : PortUnit) (mgmtOut : List Built) : Bool :=
  decide (u.oper = .up) ||
    (u.reception.isNone && u.tx.isNone && mgmtOut.isEmpty &&
      u.queues.toList.all fun q => q.entries.isEmpty)

/-- Both ports hold nothing unless they are UP. -/
abbrev DownPortsEmpty (s : State) : Prop :=
  idleUnlessUp s.portA s.commons.mgmtOutA = true ∧ idleUnlessUp s.portB s.commons.mgmtOutB = true

/-- A reception stores at most 1041 bytes and holds the cells its image needs (R7, R125). -/
def receptionFits : Option Reception → Bool
  | some (.receiving bytes cells) =>
    decide (bytes.length ≤ 1041) && decide (cells.length = max 1 (cellsForImage bytes))
  | _ => true

/-- Both receptions hold what R7 counts. -/
abbrev ReceptionsFit (s : State) : Prop :=
  receptionFits s.portA.reception = true ∧ receptionFits s.portB.reception = true

/-! ### Restart -/

/-- No restart is left due between two happenings (R165). -/
abbrev NoRestartDue (s : State) : Prop :=
  s.commons.output ≠ .restartDue .light ∧ s.commons.output ≠ .restartDue .full

/-! ### Whole runs of the sweeps -/

/-- `n` records of a signing (R97). -/
def signSteps (n : Nat) (s : State) : State := Nat.repeat State.signingStep n s

/-- `n` records of a sweep of the verify unit (R113). -/
def sweepSteps (n : Nat) (v : Verify) (active : Bank) : Verify :=
  Nat.repeat (fun w => w.sweepStep active) n v

/-- `n` records of a copy-back (R103). -/
def copySteps (n : Nat) (c : Controller) : Controller := Nat.repeat Controller.copyingStep n c

/-- Records of a bank: 1, 1, 64, 256 and 512 (R89). -/
def bankRecords : Nat := 834

/-! ### Posts and the pool state -/

/-- Between `x` and `y` the event unit accepted a post, with the stamps that the part `v` gives: the record
joined the tail of the queue, or, at 16 records, was discarded and counted lost (R169, R170). -/
abbrev Accepted (v : State) (x y : Commons) (k : EventKind) : Prop :=
  if x.events.queue.length < 16 then
    y.events.queue = x.events.queue ++
      [{ seq := x.events.nextSeq, uptime := v.endpoint.uptime, generation := v.tables.generation
         kind := k }] ∧
    y.events.nextSeq = (if x.events.nextSeq = 0xFFFF#16 then 1#16 else x.events.nextSeq + 1#16) ∧
    y.events.lost = x.events.lost ∧ y.mgmt.eventsLost = x.mgmt.eventsLost
  else
    y.events.queue = x.events.queue ∧ y.events.nextSeq = x.events.nextSeq ∧
    y.events.lost = satInc x.events.lost ∧ y.mgmt.eventsLost = satInc x.mgmt.eventsLost

/-- The happening from `s` to `t` posted one event, with the stamps of `s`. -/
abbrev Posted (s t : State) (k : EventKind) : Prop := Accepted s s.commons t.commons k

/-- `y` is `x` after a post and nothing else: the record is accepted, and an idle sender of a listener whose
port is UP in `v` begins a send of the oldest record, whose claim or report waits, or whose report joins the
queue (R131, R140, R169, R172). -/
abbrev PostedOn (v : State) (x y : Commons) (k : EventKind) : Prop :=
  Accepted v x y k ∧
  y = { x with
    events := { x.events with
      queue := y.events.queue, nextSeq := y.events.nextSeq, lost := y.events.lost
      sender := y.events.sender }
    mgmt := { x.mgmt with eventsLost := y.mgmt.eventsLost }
    pool := { x.pool with freeReserve := y.pool.freeReserve }
    mgmtOutA := y.mgmtOutA, mgmtOutB := y.mgmtOutB } ∧
  ((x.events.sender ≠ .idle ∨
      ∀ l : Listener, x.events.listener = some l → (v.port l.port).oper ≠ .up) →
    y.events.sender = x.events.sender ∧ y.mgmtOutA = x.mgmtOutA ∧ y.mgmtOutB = x.mgmtOutB ∧
    y.pool.freeReserve = x.pool.freeReserve) ∧
  ∀ (l : Listener) (r : EventRecord) (rest : List EventRecord), x.events.sender = .idle →
    x.events.listener = some l → (v.port l.port).oper = .up → y.events.queue = r :: rest →
    let waiting : Bool → Flight → Sender := fun timer flight =>
      .awaiting { retry := 0, captured := y.events.lost, timer := timer, flight := flight }
    let report : Built := eventReport l v.endpoint.nodeAddress r y.events.lost
    let full : Prop := 4 ≤ (x.mgmtOut l.port).length ∨
      ∃ b : Built, x.output = .offering b ∧ b.port = l.port
    y.mgmtOut (otherPort l.port) = x.mgmtOut (otherPort l.port) ∧
    ((∃ b, x.output = .claiming b) ∨ x.pool.freeReserve = 0 →
      y.events.sender = waiting false .claiming ∧ y.mgmtOut l.port = x.mgmtOut l.port ∧
      y.pool.freeReserve = x.pool.freeReserve) ∧
    ((∀ b, x.output ≠ .claiming b) → 1 ≤ x.pool.freeReserve →
      y.pool.freeReserve + 1 = x.pool.freeReserve ∧
      (full → y.events.sender = waiting false (.offering report) ∧
        y.mgmtOut l.port = x.mgmtOut l.port) ∧
      (¬full → y.events.sender = waiting true .queued ∧
        y.mgmtOut l.port = x.mgmtOut l.port ++ [report]))

/-- `y` is `x` after the pool has evaluated its state once: a free general count below the low mark of a
pool in POOL_OK makes it POOL_LOW and posts that event, one above the high mark of a pool in POOL_LOW makes
it POOL_OK and posts that one, and any other changes nothing (R133, R134). -/
abbrev PoolEvaluated (v : State) (x y : Commons) : Prop :=
  (x.pool.low = false → x.pool.freeGeneral < x.pool.lowMark →
    PostedOn v { x with pool := { x.pool with low := true } } y (.poolLow x.pool.freeGeneral)) ∧
  (x.pool.low = true → x.pool.highMark < x.pool.freeGeneral →
    PostedOn v { x with pool := { x.pool with low := false } } y (.poolOk x.pool.freeGeneral)) ∧
  ((x.pool.low = false → x.pool.lowMark ≤ x.pool.freeGeneral) →
    (x.pool.low = true → x.pool.freeGeneral ≤ x.pool.highMark) → y = x)

/-- Between `x` and `y` receptions took cells one at a time and left `n` free: a claim that passed below the
low mark of a pool in POOL_OK made it POOL_LOW and posted that event with the count then free, one less than
the mark (R124, R133). The list of free cells is left to the caller. -/
abbrev PoolDrained (v : State) (x y : Commons) (n : Nat) : Prop :=
  (x.pool.low = true ∨ x.pool.lowMark ≤ n → y = { x with pool := { x.pool with free := y.pool.free } }) ∧
  (x.pool.low = false → n < x.pool.lowMark →
    PostedOn v { x with pool := { x.pool with low := true, free := y.pool.free } } y
      (.poolLow (x.pool.lowMark - 1)))

/-! ### Commands at the endpoint -/

/-- The rows that take a command from the command queue, MALFORMED_COMMAND apart. -/
def isCommandRow : Instr → Bool
  | .unknownCommand | .discover | .openSession | .closeSession | .getSetting | .setNodeAddress
  | .setSessionTimeout | .setVerifyPeriod | .setFallback | .setPortEnable | .setQueueLimit
  | .setPoolLowMark | .setPoolHighMark | .readTable | .readNext | .writeTable | .commit | .abortEdit
  | .readCountersHits | .readCountersPort | .readCountersMeter | .readCountersPrefilter
  | .readCountersMgmt | .readCountersIntegrity | .readStatus | .setListener | .setListenerNone
  | .ackEvent | .restartLight | .restartFull => true
  | _ => false

/-- The commands that each command row takes: those of its code, and of its setting, group, kind or port
where the table splits a code into rows (12.4; log 15). -/
def rowTakes (i : Instr) (c : Command) : Bool :=
  match i with
  | .unknownCommand => isUnassigned c
  | .discover => c.code == 1#8
  | .openSession => c.code == 2#8
  | .closeSession => c.code == 3#8
  | .getSetting => c.code == 4#8
  | .setNodeAddress => setsSetting 1#8 c
  | .setSessionTimeout => setsSetting 2#8 c
  | .setVerifyPeriod => setsSetting 3#8 c
  | .setFallback => setsSetting 4#8 c
  | .setPortEnable => setsSetting 5#8 c
  | .setQueueLimit => setsSetting 6#8 c
  | .setPoolLowMark => setsSetting 7#8 c
  | .setPoolHighMark => setsSetting 8#8 c
  | .readTable => c.code == 6#8
  | .readNext => c.code == 7#8
  | .writeTable => c.code == 8#8
  | .commit => c.code == 9#8
  | .abortEdit => c.code == 10#8
  | .readCountersHits => readsGroup 1#8 c
  | .readCountersPort => readsGroup 2#8 c
  | .readCountersMeter => readsGroup 3#8 c
  | .readCountersPrefilter => readsGroup 4#8 c
  | .readCountersMgmt => readsGroup 5#8 c
  | .readCountersIntegrity => readsGroup 6#8 c
  | .readStatus => c.code == 12#8
  | .setListener => c.code == 13#8 && !namesNone c
  | .setListenerNone => namesNone c
  | .ackEvent => c.code == 14#8
  | .restartLight => restartNames 1#8 c
  | .restartFull => restartNames 2#8 c
  | _ => false

/-- The rows whose command needs the session owner in every form (10.6). -/
def isOwnerRow : Instr → Bool
  | .closeSession | .setNodeAddress | .setSessionTimeout | .setVerifyPeriod | .setFallback
  | .setPortEnable | .setQueueLimit | .setPoolLowMark | .setPoolHighMark | .readNext | .writeTable
  | .commit | .abortEdit | .setListener | .setListenerNone | .restartLight | .restartFull => true
  | _ => false

/-- The endpoint is IDLE and the head of its queue is `f`, whose payload holds a command header
(R152, R154). -/
abbrev Takes (s : State) (f : RxFrame) : Prop :=
  s.headFrame = some f ∧ 4 ≤ (rxPayload f.bytes).length

/-- The command has version 1 and no replay copy answers it (R152). -/
abbrev Fresh (s : State) (c : Command) : Prop := c.version = 1#8 ∧ s.replayOf c = none

/-- The end of a command's happening: an owner command is recorded, then the response goes out
(R153, R155). -/
def answered (s t : State) (c : Command) (r : Reply) : State :=
  (if s.isOwner c then t.recordOwner c r else t).respond c r

end Sys2Proof.Safety
end

