-- ==== Sys2Proof/Certificates/Slice0/Obligations.lean ====
section
/-! DEFINITION. The statements about the part. Each cites the rules it rests on in OBLIGATIONS.json. A
statement about every state says what it needs of the state as a hypothesis, so that it holds in states
that no run reaches. -/

open Sys2Proof Sys2Proof.Machine Sys2Proof.Safety

/-! ### The machine -/

/-- The command at the front of the queue runs with the queue's rest; an empty queue idles. The queue is
the model's own (log 3). -/
def Obligations.StepRunsFrontCommand : Prop :=
  (∀ (c : Instr) (rest : List Instr) (s : State), s.pending = c :: rest →
      step s = exec c { s with pending := rest }) ∧
    ∀ s : State, s.pending = [] → step s = .next s

/-- No command touches the commands that wait behind it. -/
def Obligations.CommandsLeaveTheQueue : Prop :=
  ∀ (i : Instr) (s t : State), exec i s = .next t → t.pending = s.pending

/-! ### Reset and restart -/

/-- What a pin reset leaves, block by block (R149 and the rules it gathers). -/
def Obligations.PinResetGivesResetValues : Prop :=
  ∀ (pins : Pins) (s : State), ∃ t, exec (.pinReset pins) s = .next t ∧
    t.straps = pins.straps ∧ t.pending = s.pending ∧
    t.endpoint = { nodeAddress := 0xFE00#16 + pins.straps.nodeAddr.setWidth 16, uptime := 0#32,
                   commands := [], session := none, lastNumber := 0#8, sessionTimeout := 50 } ∧
    t.commons.events = { listener := none,
                         queue := [{ seq := 1#16, uptime := 0#32, generation := 0#16,
                                     kind := .restarted .power }],
                         nextSeq := 2#16, lost := 0#16, sender := .idle, puntQueue := [],
                         punt := .idle } ∧
    t.commons.pool.freeGeneral = 512 ∧ (∀ c : GeneralCell, c ∈ t.commons.pool.free) ∧
    t.commons.pool.freeReserve = 24 ∧ t.commons.pool.low = false ∧ t.commons.pool.lowMark = 64 ∧
    t.commons.pool.highMark = 128 ∧
    t.commons.frames = [] ∧ t.commons.mgmtOutA = [] ∧ t.commons.mgmtOutB = [] ∧
    t.commons.output = .idle ∧
    t.commons.mgmt = { overrun := 0#32, malformed := 0#32, respLost := 0#32, eventsLost := 0#32,
                       puntsSent := 0#32 } ∧
    (∀ p : Port, (t.port p).enabled = true ∧ (t.port p).reception = none ∧ (t.port p).tx = none ∧
      (∀ k : PortCounter, (t.port p).counter k = 0#32) ∧
      ∀ c : Fin 4, (t.port p).queue c = { entries := [], limit := 128 }) ∧
    t.portA.link = pins.aLink ∧ t.portB.link = pins.bLink ∧
    t.classifier.mode = .unloaded ∧ t.classifier.ingressA = [] ∧ t.classifier.ingressB = [] ∧
    t.classifier.lastServed = .b ∧
    (∀ p : Port, t.classifier.fallback p =
      if pins.straps.fallbackActive then Fallback.block else Fallback.pass) ∧
    (∀ n : Fin 512, t.classifier.current[n] = { frames := 0#40, bytes := 0#48 } ∧
      t.classifier.previous[n] = { frames := 0#40, bytes := 0#48 }) ∧
    t.prefilter = { hits := 0#32, misses := 0#32, bypasses := 0#32 } ∧
    (∀ m : Fin 64, t.meters[m] = { tokens := 0, green := 0#32, red := 0#32 }) ∧
    (∀ a : Nat, t.tables.bank0.read a = 0#8 ∧ t.tables.bank1.read a = 0#8) ∧
    t.tables.active = .bank0 ∧ t.tables.generation = 0#16 ∧ t.tables.signature = 0#32 ∧
    t.tables.state = .editing ∧ t.tables.dirty = false ∧ t.tables.origin = none ∧
    t.verify = { state := .stopped, period := 1000, passes := 0#32, faults := 0#32,
                 lastResult := .none, lastFault := none }

/-- The response of a RESTART FULL is reported SENT: the part takes its reset values, with the straps that
FULL_RESTART carries as they then stand, and holds RESTARTED with cause FULL alone. That TRANSMISSION_END
reads the straps State holds is the model's choice (log 8). -/
def Obligations.FullRestartTakesEffect : Prop :=
  ∀ (p : Port) (straps : Straps) (s : State) (b : Built) (w : List Byte),
    (s.port p).tx = some { source := .built b, wire := w } → b.builder = .response (some .full) →
    s.commons.output = .restartPending .full →
    exec (.fullRestart (.sent p) straps) s =
      .next { State.afterReset straps s.portA.link s.portB.link .full with pending := s.pending } ∧
    exec (.transmissionEnd p) s =
      .next { State.afterReset s.straps s.portA.link s.portB.link .full with pending := s.pending }

/-- The response of a RESTART LIGHT is reported SENT: tables, settings and counters are kept, what was in
flight is gone with every general cell free, every meter is full, and the restart's events join the queue
in their order. The sender then begins a send if the listener's port is UP: that it begins in the same
happening and captures the lost value after those events is the model's inference (log 4). Within the
happening of the end of the transmission the arbiter's grants come first (log 25). -/
def Obligations.LightRestartKeepsAndClears : Prop :=
  ∀ (p : Port) (s : State) (b : Built) (w : List Byte),
    (s.port p).tx = some { source := .built b, wire := w } → b.builder = .response (some .light) →
    s.commons.output = .restartPending .light → s.commons.pool.lowMark ≤ 512 →
    ∃ t, exec (.lightRestart (.sent p)) s = .next t ∧ exec (.transmissionEnd p) s = .next t ∧
      t.tables.bank0 = s.tables.bank0 ∧ t.tables.bank1 = s.tables.bank1 ∧
      t.tables.active = s.tables.active ∧ t.tables.generation = s.tables.generation ∧
      t.tables.signature = s.tables.signature ∧ t.tables.state = .editing ∧
      t.tables.origin = none ∧
      t.tables.dirty = (s.tables.dirty || decide (s.tables.state ≠ .editing)) ∧
      t.classifier = { s.classifier with ingressA := [], ingressB := [], lastServed := .b } ∧
      t.prefilter = s.prefilter ∧ t.straps = s.straps ∧
      t.endpoint = { s.endpoint with commands := [], session := none } ∧
      t.verify = { s.verify with
        state := if s.classifier.mode = .normal ∧ s.verify.period ≠ 0 then .waiting s.verify.period
          else .stopped } ∧
      (∀ m : Fin 64, t.meters[m] =
        { s.meters[m] with tokens := meterBurst s.tables.activeBank m.val }) ∧
      (∀ q : Port, (t.port q).enabled = (s.port q).enabled ∧ (t.port q).link = (s.port q).link ∧
        (t.port q).reception = none ∧ (t.port q).tx = none ∧
        (∀ c : Fin 4, (t.port q).queue c =
          { entries := [], limit := ((s.port q).queue c).limit }) ∧
        (t.port p).counter .transmittedMgmt = satInc ((s.port p).counter .transmittedMgmt) ∧
        ∀ k : PortCounter, q ≠ p ∨ k ≠ .transmittedMgmt →
          (t.port q).counter k = (s.port q).counter k) ∧
      t.commons.frames = [] ∧ t.commons.pool.freeGeneral = 512 ∧
      (∀ c : GeneralCell, c ∈ t.commons.pool.free) ∧ t.commons.pool.low = false ∧
      t.commons.pool.lowMark = s.commons.pool.lowMark ∧
      t.commons.pool.highMark = s.commons.pool.highMark ∧
      { t.commons.mgmt with eventsLost := s.commons.mgmt.eventsLost } = s.commons.mgmt ∧
      t.commons.events.puntQueue = [] ∧ t.commons.events.punt = .idle ∧
      t.commons.events.listener = s.commons.events.listener ∧ t.commons.output = .idle ∧
      ((∀ l : Listener, s.commons.events.listener = some l → (s.port l.port).oper ≠ .up) →
        t.commons.mgmtOutA = [] ∧ t.commons.mgmtOutB = [] ∧ t.commons.pool.freeReserve = 24 ∧
        t.commons.events.sender = .idle) ∧
      (∀ l : Listener, s.commons.events.listener = some l → (s.port l.port).oper = .up →
        (∃ report : Built, report.builder = .event ∧ t.commons.mgmtOut l.port = [report]) ∧
        t.commons.mgmtOut (otherPort l.port) = [] ∧ t.commons.pool.freeReserve = 23 ∧
        t.commons.events.sender = .awaiting
          { retry := 0, captured := t.commons.events.lost, timer := true, flight := .queued }) ∧
      (s.commons.events.punt = .idle → s.commons.events.queue.length ≤ 13 →
        t.commons.events.queue.take s.commons.events.queue.length = s.commons.events.queue ∧
        t.commons.events.lost = s.commons.events.lost ∧ t.commons.mgmt = s.commons.mgmt ∧
        t.commons.events.queue.map (·.kind) = s.commons.events.queue.map (·.kind) ++
          [EventKind.restarted .light] ++
          (match s.endpoint.session with
            | some o => [EventKind.sessionEnded .restart o.node o.number]
            | none => []) ++
          (if s.commons.pool.low then [EventKind.poolOk 512] else []))

/-- The part right after reset meets every law below. The levels of its pins are the model's choice (log 1). -/
def Obligations.ResetIsSound : Prop :=
  BanksCanonical State.reset ∧ GeneralConserved State.reset ∧ ReserveConserved State.reset ∧
    HoldersCounted State.reset ∧ QueuesBounded State.reset ∧ SettingsInRange State.reset ∧
    PoolAgrees State.reset ∧ ModesAgree State.reset ∧ MetersBounded State.reset ∧
    EventsOrdered State.reset ∧ SessionSound State.reset ∧ DownPortsEmpty State.reset ∧
    ReceptionsFit State.reset ∧ NoRestartDue State.reset

/-! ### Laws that every step keeps -/

/-- Every step keeps the canonical form of both banks. -/
def Obligations.BanksStayCanonical : Prop :=
  ∀ s t : State, BanksCanonical s → step s = .next t → BanksCanonical t

/-- Each general cell is free or belongs to exactly one stored frame, and the free cells and those held
always make 512. -/
def Obligations.GeneralCellsConserved : Prop :=
  ∀ s t : State, GeneralConserved s → step s = .next t → GeneralConserved t

/-- Free reserve cells and those held by built frames always make 24. -/
def Obligations.ReserveCellsConserved : Prop :=
  ∀ s t : State, ReserveConserved s → step s = .next t → ReserveConserved t

/-- A stored frame's holder count is the number of its holders, and nothing names a frame that is
gone. -/
def Obligations.HoldersStayCounted : Prop :=
  ∀ s t : State, HoldersCounted s → step s = .next t → HoldersCounted t

/-- No queue grows beyond its capacity. -/
def Obligations.QueuesStayBounded : Prop :=
  ∀ s t : State, QueuesBounded s → step s = .next t → QueuesBounded t

/-- No setting leaves its range. -/
def Obligations.SettingsStayInRange : Prop :=
  ∀ s t : State, SettingsInRange s → step s = .next t → SettingsInRange t

/-- The pool state never disagrees with its marks. -/
def Obligations.PoolStateAgrees : Prop :=
  ∀ s t : State, PoolAgrees s → step s = .next t → PoolAgrees t

/-- Mode, generation, signature, verify state and pending origin stay consistent. -/
def Obligations.ModesStayConsistent : Prop :=
  ∀ s t : State, ModesAgree s → step s = .next t → ModesAgree t

/-- No meter ever holds more than its burst. -/
def Obligations.MeterTokensStayBounded : Prop :=
  ∀ s t : State, MetersBounded s → step s = .next t → MetersBounded t

/-- Event sequence numbers stay in order and a captured lost value never exceeds the lost count. -/
def Obligations.EventsStayOrdered : Prop :=
  ∀ s t : State, EventsOrdered s → step s = .next t → EventsOrdered t

/-- The session record stays sound. -/
def Obligations.SessionStaysSound : Prop :=
  ∀ s t : State, SessionSound s → step s = .next t → SessionSound t

/-- A port that is not UP receives, sends and queues nothing. -/
def Obligations.DownPortsStayEmpty : Prop :=
  ∀ s t : State, DownPortsEmpty s → step s = .next t → DownPortsEmpty t

/-- A reception holds exactly the cells its image needs, and no more than 1041 bytes. -/
def Obligations.ReceptionsStayFitted : Prop :=
  ∀ s t : State, ReceptionsFit s → step s = .next t → ReceptionsFit t

/-- No step leaves a restart due. -/
def Obligations.NoRestartStaysDue : Prop :=
  ∀ s t : State, NoRestartDue s → step s = .next t → NoRestartDue t

/-! ### Rules of the whole part -/

/-- The classifier mode changes by a swap to NORMAL, by a FAIL verdict to FAULTED and by a pin reset or
FULL restart, which leaves the values of a reset and the commands that wait, to UNLOADED, and by nothing
else. -/
def Obligations.ModeChangesOnlyBy : Prop :=
  ∀ (i : Instr) (s t : State), exec i s = .next t → t.classifier.mode ≠ s.classifier.mode →
    (i = .swap ∧ t.classifier.mode = .normal) ∨
    (i = .verdictFail ∧ t.classifier.mode = .faulted) ∨
    (t.classifier.mode = .unloaded ∧
      ∃ (straps : Straps) (a b : LinkState) (cause : RestartCause),
        t = { State.afterReset straps a b cause with pending := s.pending })

/-- The active bank changes by a swap, an upset or a reset alone; the shadow bank also by the copy-back
and by the owner's WRITE_TABLE in EDITING. -/
def Obligations.BanksChangeOnlyBy : Prop :=
  ∀ (i : Instr) (s t : State), exec i s = .next t → i ≠ .swap →
    (∀ b tb n content, i ≠ .storageUpset b tb n content) →
    (∀ (straps : Straps) (a b : LinkState) (cause : RestartCause),
      t ≠ { State.afterReset straps a b cause with pending := s.pending }) →
    t.tables.active = s.tables.active ∧ t.tables.activeBank = s.tables.activeBank ∧
    (t.tables.shadowBank ≠ s.tables.shadowBank →
      i = .copyingStep ∨
      (i = .writeTable ∧ s.tables.state = .editing ∧
        ∃ f, s.headFrame = some f ∧ s.isOwner (readCommand f) = true))

/-- A retransmission that the replay copy answers executes nothing: the row that takes it restarts the idle
timer and answers with the copy's status, detail and body, and any other row leaves the part as it is (log
5). The header of the answer echoes the retransmission, which is the model's inference (log 13). The
response comes after what the release of the command frame made the event unit claim: the model's choice
(log 20). -/
def Obligations.ReplayExecutesNothing : Prop :=
  ∀ (i : Instr) (s : State) (f : RxFrame) (r : Response), isCommandRow i = true → Takes s f →
    (readCommand f).version = 1#8 → s.replayOf (readCommand f) = some r →
    exec i s = .next (if rowTakes i (readCommand f) = true then
        s.takeHead.restartIdle.respond (readCommand f)
          { status := r.status, detail := r.detail, session := none, body := r.body, restart := none }
      else s)

/-- A command that needs the owner and is not the owner's is answered NOT_OWNER or NO_SESSION by the row
that takes it and does nothing else; any other row leaves the part as it is (log 5). The response comes
after what the release of the command frame made the event unit claim: the model's choice (log 20). -/
def Obligations.NonOwnersAreRefused : Prop :=
  ∀ (i : Instr) (s : State) (f : RxFrame), isOwnerRow i = true → Takes s f →
    (readCommand f).version = 1#8 → s.isOwner (readCommand f) = false →
    exec i s = .next (if rowTakes i (readCommand f) = true then
        s.takeHead.respond (readCommand f)
          { status := if s.endpoint.session.isSome then 3#8 else 4#8, detail := 0#8, session := none,
            body := [], restart := none }
      else s)

/-! ### The check function and the sweeps -/

/-- A signing that finds every record of the shadow valid takes the serialized bank in order: after its
834 records the swap finds the check computation of the 31,404 bytes. -/
def Obligations.SigningSignsTheSerializedBank : Prop :=
  ∀ s : State, s.tables.state = .signing (some { table := .policy, index := 0 }) 0xFFFFFFFF#32 →
    (∀ (tb : Table) (n : Nat), n < recordCount tb →
      validateRecord s.tables.shadowBank { table := tb, index := n } = none) →
    signSteps 834 s = { s with tables := { s.tables with
      state := .signing none (checkBytes 0xFFFFFFFF#32 s.tables.shadowBank.serialized) } }

/-- A sweep of a bank that does not change reads the serialized bank in order. -/
def Obligations.SweepReadsTheSerializedBank : Prop :=
  ∀ (v : Verify) (b : Bank),
    v.state = .sweeping (some { table := .policy, index := 0 }) 0xFFFFFFFF#32 →
    sweepSteps 834 v b =
      { v with state := .sweeping none (checkBytes 0xFFFFFFFF#32 b.serialized) }

/-- An upset of one byte since the signing is found: the sweep that reads it gives FAIL, the mode becomes
FAULTED, the fault is recorded and TABLE_FAULT is posted. That VERDICT_PASS then leaves the part as it is
is the model's choice (log 5), and so is that the FAIL asks nothing of when the upset struck (log 24). -/
def Obligations.OneByteUpsetIsFound : Prop :=
  ∀ (s : State) (before after : List Byte) (v w : Byte), v ≠ w →
    s.tables.signature = checkValue (before ++ v :: after) →
    s.tables.activeBank.serialized = before ++ w :: after →
    s.verify.state =
      .sweeping none (checkBytes 0xFFFFFFFF#32 s.tables.activeBank.serialized) →
    exec .verdictPass s = .next s ∧
    ∃ t, exec .verdictFail s = .next t ∧ t.classifier = { s.classifier with mode := .faulted } ∧
      t.verify = { s.verify with
        state := .stopped, faults := satInc s.verify.faults, lastResult := .fail
        lastFault := some { generation := s.tables.generation, stored := s.tables.signature
                            computed := checkValue (before ++ w :: after) } } ∧
      t.tables = s.tables ∧ t.endpoint = s.endpoint ∧ t.portA = s.portA ∧ t.portB = s.portB ∧
      t.meters = s.meters ∧ t.prefilter = s.prefilter ∧
      (s.commons.events.queue.length < 16 →
        t.commons.events.queue = s.commons.events.queue ++
          [{ seq := s.commons.events.nextSeq, uptime := s.endpoint.uptime
             generation := s.tables.generation
             kind := .tableFault s.tables.signature (checkValue (before ++ w :: after)) }])

/-- A copy-back of 834 records makes every byte of the shadow bank equal to the active bank's and
leaves the active bank alone. -/
def Obligations.CopyingEqualizesBanks : Prop :=
  ∀ c : Controller, c.state = .copying (some { table := .policy, index := 0 }) →
    c.bank0.wf = true → c.bank1.wf = true →
    (copySteps 834 c).state = .copying none ∧
    (copySteps 834 c).activeBank = c.activeBank ∧
    ∀ a : Nat, a < 31404 → (copySteps 834 c).shadowBank.read a = c.activeBank.read a

/-! ### Prefilter, lookup and the steps of a list -/

/-- The bucket of a key: its low byte combined by exclusive-or with its high byte rotated left by 3. -/
def Obligations.BucketOfKey : Prop :=
  (∀ k : Word16, (bucketOf k).toNat =
    (k.toNat % 256) ^^^ ((8 * (k.toNat / 256)) % 256 + k.toNat / 256 / 32)) ∧
  bucketOf 0#16 = 0#8 ∧ bucketOf 0x0123#16 = 43#8 ∧ bucketOf 0x5123#16 = 169#8 ∧
  bucketOf 0x0456#16 = 118#8 ∧ bucketOf 0x5456#16 = 244#8 ∧ bucketOf 0x002B#16 = 43#8 ∧
  (∀ k : Word16, k.toNat < 4096 → k.toNat / 256 < 16 ∧
    (8 * (k.toNat / 256)) % 256 + k.toNat / 256 / 32 = 8 * (k.toNat / 256)) ∧
  ∀ n : Byte, ∃ k : Word16, k.toNat < 4096 ∧ bucketOf k = n

/-- The prefilter's outcome for each form of the tag stack when it is enabled, and BYPASS when it is
not; a consulted key gives HIT exactly when its bucket's bit of the membership set is set. -/
def Obligations.PrefilterOutcomes : Prop :=
  ∀ b : Bank,
    (∀ key : Word16,
      let n := (bucketOf key).toNat
      lookupKey b key = if (b.read (12 + n / 8)).getLsbD (n % 8) = true then .hit else .miss) ∧
    (b.read 6 ≠ 1#8 → ∀ t : TagStack, prefilterOutcome b t = .bypass) ∧
    (b.read 6 = 1#8 →
      (b.read 9 ≠ 1#8 → prefilterOutcome b .empty = .bypass) ∧
      (b.read 9 = 1#8 → prefilterOutcome b .empty = lookupKey b 0#16) ∧
      ∀ o i : Word16,
        let sel := if b.read 8 = 1#8 then i else o
        let key : Word16 → Word16 := fun t => if b.read 7 = 0#8 then t &&& 0x0FFF#16 else t
        prefilterOutcome b (.one o) =
          (if (b.u16 10).getLsbD (o.toNat / 4096) = true then lookupKey b (key o) else .bypass) ∧
        prefilterOutcome b (.two o i) =
          (if (b.u16 10).getLsbD (sel.toNat / 4096) = true then lookupKey b (key sel) else .bypass))

/-- A lookup answers the lowest starting slot whose entry the frame matches, and none when no entry of
the 512 slots matches. A STANDARD slot matches on its own fields under their masks and the port match; a
WIDE_HEAD matches at an even slot before a WIDE_TAIL, on its fields and the tail's; no other slot
matches. -/
def Obligations.LookupTakesFirstMatch : Prop :=
  ∀ (b : Bank) (r : FrameRecord),
    (∀ n : Nat, lookup b r = some n ↔
      n < 512 ∧ slotMatches b r n = true ∧ ∀ m < n, slotMatches b r m = false) ∧
    (lookup b r = none ↔ ∀ m < 512, slotMatches b r m = false) ∧
    ∀ n : Nat,
      let at_ : Nat → Nat := fun m => 21164 + 20 * m
      let marker : Nat → Nat := fun m => (b.read (at_ m)).toNat / 16
      let portMatch := (b.read (at_ n)).toNat % 16
      let outer : Word16 :=
        match r.tags with | .empty => 0#16 | .one o => o | .two o _ => o
      let inner : Word16 := match r.tags with | .two _ i => i | _ => 0#16
      let head : Prop :=
        (portMatch = 0 ∨ portMatch = (if r.ingress = .a then 1 else 2)) ∧
        r.kind &&& b.read (at_ n + 2) = b.read (at_ n + 1) &&& b.read (at_ n + 2) ∧
        r.dest &&& b.u16 (at_ n + 5) = b.u16 (at_ n + 3) &&& b.u16 (at_ n + 5) ∧
        r.src &&& b.u16 (at_ n + 9) = b.u16 (at_ n + 7) &&& b.u16 (at_ n + 9) ∧
        r.flags &&& b.u16 (at_ n + 13) = b.u16 (at_ n + 11) &&& b.u16 (at_ n + 13) ∧
        outer &&& b.u16 (at_ n + 17) = b.u16 (at_ n + 15) &&& b.u16 (at_ n + 17)
      let tail : Prop :=
        let m := n + 1
        inner &&& b.u16 (at_ m + 3) = b.u16 (at_ m + 1) &&& b.u16 (at_ m + 3) ∧
        r.peek &&& b.u32 (at_ m + 9) = b.u32 (at_ m + 5) &&& b.u32 (at_ m + 9) ∧
        r.hop &&& b.read (at_ m + 14) = b.read (at_ m + 13) &&& b.read (at_ m + 14) ∧
        (b.u16 (at_ m + 15)).toNat ≤ r.len ∧ r.len ≤ (b.u16 (at_ m + 17)).toNat
      slotMatches b r n = true ↔
        (marker n = 1 ∧ head) ∨
          (marker n = 2 ∧ n % 2 = 0 ∧ marker (n + 1) = 3 ∧ head ∧ tail)

/-- A guard holds when every required flag is set and every forbidden flag is clear. A step whose guard
fails changes nothing. A step whose guard holds but whose verb is none or unassigned, or whose operand
is out of range, sets FAULT and has no other effect; in both cases the list goes on. Every other verb code
and operand runs as its operation, and FORWARD, CLASS, MIRROR, PUNT, DROP, SET_FLAG and CLEAR_FLAG change
the one thing they name. A list runs its steps in position order up to its length, 8 at most, or to the
step that ends it; a stored length above 8 sets FAULT first. -/
def Obligations.GuardsAndFaults : Prop :=
  (∀ flags required forbidden : Word16, guardHolds flags required forbidden = true ↔
    ∀ i < 16, (required.getLsbD i = true → flags.getLsbD i = true) ∧
      (forbidden.getLsbD i = true → flags.getLsbD i = false)) ∧
  (∀ (r : FrameRecord) (ms : Vector Meter 64) (st : ActionStep),
    guardHolds r.flags st.required st.forbidden = false →
      (examineStep r ms st).record = r ∧ (examineStep r ms st).meters = ms ∧
        (examineStep r ms st).ended = false) ∧
  (∀ (r : FrameRecord) (ms : Vector Meter 64) (st : ActionStep),
    guardHolds r.flags st.required st.forbidden = true →
    (st.verb = 0#8 ∨ 14 ≤ st.verb.toNat ∨
      ((st.verb = 1#8 ∨ st.verb = 2#8) ∧ 4 ≤ st.operand.toNat) ∨
      (st.verb = 3#8 ∧ 6 ≤ st.operand.toNat) ∨ (st.verb = 5#8 ∧ 7 ≤ st.operand.toNat) ∨
      ((st.verb = 6#8 ∨ st.verb = 7#8) ∧ 8 ≤ st.operand.toNat) ∨
      (st.verb = 10#8 ∧ 64 ≤ st.operand.toNat) ∨
      (st.verb = 11#8 ∧ st.operand ≠ 1#8 ∧ st.operand ≠ 2#8) ∨
      (st.verb = 13#8 ∧ 16 ≤ st.operand.toNat)) →
    (examineStep r ms st).record = { r with flags := r.flags ||| 0x8000#16 } ∧
      (examineStep r ms st).meters = ms ∧ (examineStep r ms st).ended = false) ∧
  (∀ (r : FrameRecord) (ms : Vector Meter 64) (st : ActionStep) (op : StepOp),
    guardHolds r.flags st.required st.forbidden = true → decodeStep st.verb st.operand = .ok op →
    examineStep r ms st = runOp r ms op st.value st.mask) ∧
  ((∀ d : PortSet, decodeStep 1#8 (BitVec.ofNat 8 (d.a.toNat + 2 * d.b.toNat)) = .ok (.forward d)) ∧
    (∀ c : Fin 4, decodeStep 2#8 (BitVec.ofNat 8 c.val) = .ok (.cls c)) ∧
    decodeStep 3#8 0#8 = .ok (.rewrite .dest) ∧ decodeStep 3#8 1#8 = .ok (.rewrite .src) ∧
    decodeStep 3#8 2#8 = .ok (.rewrite .kind) ∧ decodeStep 3#8 3#8 = .ok (.rewrite .hop) ∧
    decodeStep 3#8 4#8 = .ok (.rewrite .outerTag) ∧ decodeStep 3#8 5#8 = .ok (.rewrite .innerTag) ∧
    (∀ f : Field, f ≠ .length → ∀ o : Byte, decodeStep 3#8 o = .ok (.rewrite f) →
      decodeStep 5#8 o = .ok (.compare f)) ∧
    decodeStep 5#8 6#8 = .ok (.compare .length) ∧
    (∀ o : Byte, decodeStep 4#8 o = .ok .hop ∧ decodeStep 8#8 o = .ok .pushTag ∧
      decodeStep 9#8 o = .ok .popTag ∧ decodeStep 12#8 o = .ok .punt) ∧
    (∀ n : Fin 8, decodeStep 6#8 (BitVec.ofNat 8 n.val) = .ok (.setFlag n) ∧
      decodeStep 7#8 (BitVec.ofNat 8 n.val) = .ok (.clearFlag n)) ∧
    (∀ m : Fin 64, decodeStep 10#8 (BitVec.ofNat 8 m.val) = .ok (.meter m)) ∧
    decodeStep 11#8 1#8 = .ok (.mirror .a) ∧ decodeStep 11#8 2#8 = .ok (.mirror .b) ∧
    ∀ c : Fin 16, decodeStep 13#8 (BitVec.ofNat 8 c.val) = .ok (.drop c)) ∧
  (∀ (r : FrameRecord) (ms : Vector Meter 64) (value mask : Word16),
    let keeps : StepOp → FrameRecord → Prop := fun op x =>
      runOp r ms op value mask = { record := x, meters := ms, ended := false }
    (∀ d : PortSet, keeps (.forward d) { r with disp := { r.disp with dest := d } }) ∧
    (∀ c : Fin 4, keeps (.cls c) { r with disp := { r.disp with cls := c } }) ∧
    (∀ p : Port, keeps (.mirror p) { r with disp := { r.disp with mirror := some p } }) ∧
    keeps .punt { r with disp := { r.disp with punt := true } } ∧
    (∀ n : Fin 8, keeps (.setFlag n) { r with flags := r.flags ||| (1#16 <<< n.val) } ∧
      keeps (.clearFlag n) { r with flags := r.flags &&& ~~~(1#16 <<< n.val) }) ∧
    ∀ c : Fin 16, runOp r ms (.drop c) value mask =
      { record := { r with disp := { r.disp with drop := some (.ruleDrop c) } }
        meters := ms, ended := true }) ∧
  ∀ (b : Bank) (i : Nat) (r : FrameRecord) (ms : Vector Meter 64),
    let len := (b.read (428 + 81 * i)).toNat
    (runList b i r ms = runSteps ((List.range (min 8 len)).map (b.step i))
      (if 9 ≤ len then { r with flags := r.flags ||| 0x8000#16 } else r) ms) ∧
    (runSteps [] r ms = (r, ms)) ∧
    (∀ (st : ActionStep) (rest : List ActionStep), runSteps (st :: rest) r ms =
      if (examineStep r ms st).ended = true then
        ((examineStep r ms st).record, (examineStep r ms st).meters)
      else runSteps rest (examineStep r ms st).record (examineStep r ms st).meters) ∧
    ∀ k : Nat,
      let o := 429 + 81 * i + 10 * k
      b.step i k = { verb := b.read o, required := b.u16 (o + 1), forbidden := b.u16 (o + 3)
                     operand := b.read (o + 5), value := b.u16 (o + 6), mask := b.u16 (o + 8) }

/-- REWRITE replaces the masked bits of the field it names and nothing else of the record, its disposition
and its flags among the rest; COMPARE sets EQ and LT from the masked unsigned values; on an absent tag both
are step faults. -/
def Obligations.RewriteAndCompare : Prop :=
  ∀ (r : FrameRecord) (ms : Vector Meter 64) (f : Field) (value mask old : Word16),
    let bits : Word16 := if f = .kind ∨ f = .hop then 0x00FF#16 else 0xFFFF#16
    (r.field? f = some old → f ≠ .length →
      ∃ w : Word16, (runOp r ms (.rewrite f) value mask).record.field? f = some w ∧
        (∀ i < 16, w.getLsbD i =
          if mask.getLsbD i && bits.getLsbD i then value.getLsbD i else old.getLsbD i) ∧
        (∀ g : Field, g ≠ f →
          (runOp r ms (.rewrite f) value mask).record.field? g = r.field? g) ∧
        { (runOp r ms (.rewrite f) value mask).record with
          dest := r.dest, src := r.src, kind := r.kind, hop := r.hop, tags := r.tags } = r ∧
        (runOp r ms (.rewrite f) value mask).meters = ms ∧
        (runOp r ms (.rewrite f) value mask).ended = false) ∧
    (r.field? f = some old →
      (let eq := decide (old &&& mask &&& bits = value &&& mask &&& bits)
       let lt := decide ((old &&& mask &&& bits).toNat < (value &&& mask &&& bits).toNat)
       (runOp r ms (.compare f) value mask).record =
         { r with flags := putFlag (putFlag r.flags .eq eq) .lt lt }) ∧
      (runOp r ms (.compare f) value mask).meters = ms ∧
      (runOp r ms (.compare f) value mask).ended = false) ∧
    (r.field? f = none →
      let fault : StepResult :=
        { record := { r with flags := r.flags ||| 0x8000#16 }, meters := ms, ended := false }
      runOp r ms (.rewrite f) value mask = fault ∧ runOp r ms (.compare f) value mask = fault)

/-- HOP takes one from the hop budget and drops the frame with HOP_EXPIRED when none is left; PUSH_TAG
and POP_TAG follow the table of the tag stack, with TAGGED and DOUBLE. -/
def Obligations.HopAndTagVerbs : Prop :=
  ∀ (r : FrameRecord) (ms : Vector Meter 64) (value mask x y : Word16),
    (r.hop.toNat ≤ 1 →
      (runOp r ms .hop value mask).record =
          { r with hop := 0#8, disp := { r.disp with drop := some .hopExpired } } ∧
        (runOp r ms .hop value mask).ended = true ∧ (runOp r ms .hop value mask).meters = ms) ∧
    (2 ≤ r.hop.toNat →
      (runOp r ms .hop value mask).record.hop.toNat = r.hop.toNat - 1 ∧
        { (runOp r ms .hop value mask).record with hop := r.hop } = r ∧
        (runOp r ms .hop value mask).ended = false ∧ (runOp r ms .hop value mask).meters = ms) ∧
    (r.tags = .empty →
      (runOp r ms .pushTag value mask).record =
        { r with tags := .one value, flags := (r.flags ||| 0x0100#16) &&& 0xFDFF#16 } ∧
      (runOp r ms .popTag value mask).record = { r with flags := r.flags ||| 0x8000#16 }) ∧
    (r.tags = .one x →
      (runOp r ms .pushTag value mask).record =
        { r with tags := .two value x, flags := r.flags ||| 0x0300#16 } ∧
      (runOp r ms .popTag value mask).record =
        { r with tags := .empty, flags := r.flags &&& 0xFCFF#16 }) ∧
    (r.tags = .two x y →
      (runOp r ms .pushTag value mask).record = { r with flags := r.flags ||| 0x8000#16 } ∧
      (runOp r ms .popTag value mask).record =
        { r with tags := .one y, flags := (r.flags ||| 0x0100#16) &&& 0xFDFF#16 }) ∧
    (runOp r ms .pushTag value mask).ended = false ∧ (runOp r ms .popTag value mask).ended = false ∧
    (runOp r ms .pushTag value mask).meters = ms ∧ (runOp r ms .popTag value mask).meters = ms

/-- METER answers on the received byte length: GREEN spends it and clears RED, RED spends nothing and
sets RED; no other meter changes. -/
def Obligations.MeterAnswers : Prop :=
  ∀ (r : FrameRecord) (ms : Vector Meter 64) (m : Fin 64) (value mask : Word16),
    let x := runOp r ms (.meter m) value mask
    (r.rxLen ≤ (ms[m]).tokens →
      x.record = { r with flags := r.flags &&& 0xBFFF#16 } ∧
      x.meters[m] = { tokens := (ms[m]).tokens - r.rxLen, green := satInc (ms[m]).green,
                      red := (ms[m]).red }) ∧
    ((ms[m]).tokens < r.rxLen →
      x.record = { r with flags := r.flags ||| 0x4000#16 } ∧
      x.meters[m] = { ms[m] with red := satInc (ms[m]).red }) ∧
    (∀ k : Fin 64, k ≠ m → x.meters[k] = ms[k]) ∧ x.ended = false

/-- No list changes the length, the received length, the peek, the ingress port, the prefilter outcome, the
generation, the matched slot or the cell list of a record, nor PF_HIT and PF_MISS; TAGGED and DOUBLE stay
those of the tag stack. -/
def Obligations.ListsKeepFixedFields : Prop :=
  ∀ (b : Bank) (i : Nat) (r : FrameRecord) (ms : Vector Meter 64),
    let x := (runList b i r ms).1
    x.len = r.len ∧ x.rxLen = r.rxLen ∧ x.peek = r.peek ∧ x.ingress = r.ingress ∧ x.pf = r.pf ∧
      x.generation = r.generation ∧ x.slot = r.slot ∧ x.cellList = r.cellList ∧
      x.flags.getLsbD 10 = r.flags.getLsbD 10 ∧ x.flags.getLsbD 11 = r.flags.getLsbD 11 ∧
      (putTagFlags r.flags r.tags = r.flags → putTagFlags x.flags x.tags = x.flags)

/-! ### Classification and disposition -/

/-- Which copies disposition offers, how a class queue admits or refuses each and how the punt queue judges
its entry; and the whole of a disposition: a frame that its list neither dropped nor sent anywhere is
dropped for NO_DESTINATION, a drop is counted at the ingress port, a RULE_DROP under its code too, then
come the copies, then the punt entry of a marked frame, then the release of the ingress-queue holder. That
an admitted punt entry is still queued at the end of the happening, PUNT_TAKE being one of its own, is the
model's inference (log 7). -/
def Obligations.DispositionOffersCopies : Prop :=
  (∀ (dst : PortSet) (c : Fin 4) (m : Option Port) (punt : Bool) (why : DropReason),
    copiesOf { dest := dst, cls := c, mirror := m, punt := punt, drop := some why } = []) ∧
  (∀ (c : Fin 4) (m : Option Port) (punt : Bool),
    copiesOf { dest := { a := false, b := false }, cls := c, mirror := m, punt := punt, drop := none } =
      [] ∧
    copiesOf { dest := { a := true, b := true }, cls := c, mirror := m, punt := punt, drop := none } =
      [{ port := .a, cls := c, mirror := false }, { port := .b, cls := c, mirror := false }] ∧
    copiesOf { dest := { a := true, b := false }, cls := c, mirror := m, punt := punt, drop := none } =
      { port := .a, cls := c, mirror := false } ::
        (if m = some .b then [{ port := .b, cls := 0, mirror := true }] else []) ∧
    copiesOf { dest := { a := false, b := true }, cls := c, mirror := m, punt := punt, drop := none } =
      { port := .b, cls := c, mirror := false } ::
        (if m = some .a then [{ port := .a, cls := 0, mirror := true }] else [])) ∧
  (∀ (s : State) (id cells : Nat) (o : CopyOffer),
    ((s.port o.port).oper ≠ .up →
      s.offerCopy id cells o = s.count o.port (if o.mirror then .mirrorDrop else .linkDown)) ∧
    ((s.port o.port).oper = .up →
      ((s.port o.port).queue o.cls).limit < ((s.port o.port).queue o.cls).occupancy + cells →
      s.offerCopy id cells o = s.count o.port (if o.mirror then .mirrorDrop else .queueFull)) ∧
    ((s.port o.port).oper = .up →
      ((s.port o.port).queue o.cls).occupancy + cells ≤ ((s.port o.port).queue o.cls).limit →
      ((s.offerCopy id cells o).port o.port).queue o.cls =
        { (s.port o.port).queue o.cls with
          entries := ((s.port o.port).queue o.cls).entries ++ [{ frame := id, cells := cells }] } ∧
      (∀ k : PortCounter,
        ((s.offerCopy id cells o).port o.port).counter k = (s.port o.port).counter k) ∧
      (s.offerCopy id cells o).port (otherPort o.port) = s.port (otherPort o.port) ∧
      (s.offerCopy id cells o).commons.frames = s.commons.frames.map
        (fun f => if f.id = id then { f with holders := f.holders + 1 } else f) ∧
      (s.offerCopy id cells o).commons.pool = s.commons.pool)) ∧
  (∀ (s : State) (id : Nat) (q : Port),
    (s.commons.events.listener = none →
      s.offerPuntEntry id q = s.count q .puntNoListener) ∧
    ∀ l : Listener, s.commons.events.listener = some l →
      (8 ≤ s.commons.events.puntQueue.length → s.offerPuntEntry id q = s.count q .puntFull) ∧
      (s.commons.events.puntQueue.length < 8 →
        s.offerPuntEntry id q = { s with commons := { s.commons with
          frames := s.commons.frames.map
            (fun f => if f.id = id then { f with holders := f.holders + 1 } else f)
          events := { s.commons.events with
            puntQueue := s.commons.events.puntQueue ++ [id] } } })) ∧
  ∀ (s : State) (id cells : Nat) (r : FrameRecord),
    let d : Disposition :=
      if r.disp.drop = none ∧ r.disp.dest = { a := false, b := false } then
        { r.disp with drop := some .noDestination }
      else r.disp
    let s1 : State := { s with commons := s.commons.updateFrame id fun g =>
      { g with record := { r with disp := d, cellList := g.record.cellList } } }
    let s2 : State :=
      match d.drop with
      | none => s1
      | some .fallbackBlock => s1.count r.ingress .fallbackBlock
      | some .prefilterMiss => s1.count r.ingress .prefilterMiss
      | some (.ruleDrop k) => (s1.count r.ingress .ruleDrop).count r.ingress (.code k)
      | some .hopExpired => s1.count r.ingress .hopExpired
      | some .noDestination => s1.count r.ingress .noDestination
    let s3 := (copiesOf d).foldl (fun x o => x.offerCopy id cells o) s2
    s.dispose id cells r =
      (if d.punt then s3.offerPuntEntry id r.ingress else s3).release id

/-- The arbiter serves the one queue that holds records, and of two the one the pointer does not name.
Outside NORMAL the frame the classifier takes gets the fallback of its ingress port: BLOCK drops and
counts it, PASS offers one class 0 copy of it to the opposite port. -/
def Obligations.FallbackDisposition : Prop :=
  (∀ c : Classifier,
    (c.ingressA = [] → c.ingressB = [] → c.choose = none) ∧
    (c.ingressA ≠ [] → c.ingressB = [] → c.choose = some .a) ∧
    (c.ingressA = [] → c.ingressB ≠ [] → c.choose = some .b) ∧
    (c.ingressA ≠ [] → c.ingressB ≠ [] →
      c.choose = some (if c.lastServed = .a then .b else .a))) ∧
  ∀ (s : State) (p : Port) (id : Nat) (rest : List Nat) (f : RxFrame),
    s.classifier.mode ≠ .normal → s.classifier.choose = some p →
    s.classifier.ingress p = id :: rest → s.commons.frame? id = some f →
    let q := f.record.ingress
    let r := { f.record with
      generation := some s.tables.generation, flags := f.record.flags &&& 0x0FFF#16 }
    let taken : State := { s with classifier := { s.classifier.setIngress p rest with lastServed := p } }
    let disposed : PortSet → Option DropReason → State := fun dst why =>
      let d : Disposition := { dest := dst, cls := 0, mirror := none, punt := false, drop := why }
      { taken with commons := s.commons.updateFrame id (fun g =>
        { g with record := { r with disp := d, cellList := g.record.cellList } }) }
    (s.classifier.fallback q = .block →
      exec .classify s =
        .next (((disposed { a := false, b := false } (some .fallbackBlock)).count q
          .fallbackBlock).release id)) ∧
    (s.classifier.fallback q = .pass →
      exec .classify s =
        .next (((disposed { a := q == .b, b := q == .a } none).offerCopy id f.cells
          { port := otherPort q, cls := 0, mirror := false }).release id))

/-- In NORMAL a match counts one frame and the received byte length at its starting slot in CURRENT, and
nowhere else, whatever the list then does; a lookup without match counts at the port's no-match counter
and no slot; a MISS under miss policy DROP is dropped before lookup and counted PREFILTER_MISS. The record
and the meters that the chosen list leaves go into the disposition of the frame. Before that the take
records the generation and clears EQ, LT, RED and FAULT, POLICY gives U0 to U7, the outcome of the
prefilter is recorded with its flag and counted, and POLICY gives the miss policy and the default list. That
a punt entry the disposition admits is still queued is the model's inference (log 7). -/
def Obligations.NormalClassificationCounts : Prop :=
  (∀ (g : Word16) (r : FrameRecord),
    takeRecord g r = { r with generation := some g, flags := r.flags &&& 0x0FFF#16 }) ∧
  (∀ (b : Bank) (r : FrameRecord),
    let o := prefilterOutcome b r.tags
    let x := screenRecord b r
    x.pf = some o ∧
    (∀ i < 16, x.flags.getLsbD i =
      if i < 8 then (b.read (if r.ingress = .a then 2 else 5)).getLsbD i
      else if i = 10 then decide (o = .hit)
      else if i = 11 then decide (o = .miss)
      else r.flags.getLsbD i) ∧
    { x with pf := r.pf, flags := r.flags } = r) ∧
  (∀ (b : Bank) (q : Port),
    let o := if q = .a then 0 else 3
    defaultList b q = (b.read o).toNat ∧ (missDrops b q = true ↔ b.read (o + 1) = 1#8)) ∧
  (∀ (b : Bank) (n : Nat), slotList b n = (b.read (21183 + 20 * n)).toNat) ∧
  (∀ n : Word32, satInc n = if n = 0xFFFFFFFF#32 then n else n + 1#32) ∧
  (∀ c : PfCounters,
    c.count .hit = { c with hits := satInc c.hits } ∧
    c.count .miss = { c with misses := satInc c.misses } ∧
    c.count .bypass = { c with bypasses := satInc c.bypasses }) ∧
  ∀ (s : State) (p : Port) (id : Nat) (rest : List Nat) (f : RxFrame),
    s.classifier.mode = .normal → s.classifier.choose = some p →
    s.classifier.ingress p = id :: rest → s.commons.frame? id = some f →
    let b := s.tables.activeBank
    let q := f.record.ingress
    let o := prefilterOutcome b f.record.tags
    let r := screenRecord b (takeRecord s.tables.generation f.record)
    let taken : State := { s with
      classifier := { s.classifier.setIngress p rest with lastServed := p }
      prefilter := s.prefilter.count o }
    ∃ t, exec .classify s = .next t ∧
      t.tables = s.tables ∧ t.verify = s.verify ∧ t.endpoint = s.endpoint ∧
      t.prefilter = s.prefilter.count o ∧
      t.classifier.ingress p = rest ∧
      t.classifier.ingress (otherPort p) = s.classifier.ingress (otherPort p) ∧
      t.classifier.lastServed = p ∧ t.classifier.mode = .normal ∧
      t.classifier.previous = s.classifier.previous ∧
      (o = .miss ∧ missDrops b q = true →
        t = taken.dispose id f.cells { r with disp := { r.disp with drop := some .prefilterMiss } } ∧
        t.classifier.current = s.classifier.current ∧ t.meters = s.meters ∧
        (t.port q).counter .prefilterMiss = satInc ((s.port q).counter .prefilterMiss) ∧
        (t.port q).counter .noMatch = (s.port q).counter .noMatch ∧
        (t.port q).queues = (s.port q).queues ∧
        t.port (otherPort q) = s.port (otherPort q) ∧
        (f.record.disp.punt = false →
          t.commons.events.puntQueue = s.commons.events.puntQueue ∧
          t.port q = (s.port q).count .prefilterMiss)) ∧
      (¬(o = .miss ∧ missDrops b q = true) →
        (∀ n : Nat, lookup b r = some n →
          (let x := runList b (slotList b n) { r with slot := some n } s.meters
           t = { taken with
             classifier := { taken.classifier with current := t.classifier.current }
             meters := x.2 }.dispose id f.cells x.1) ∧
          (∀ k : Fin 512, t.classifier.current[k] =
            if k.val = n then
              { frames := (s.classifier.current[k]).frames + 1#40
                bytes := (s.classifier.current[k]).bytes + BitVec.ofNat 48 f.record.rxLen }
            else s.classifier.current[k]) ∧
          t.meters = (runList b (slotList b n) { r with slot := some n } s.meters).2 ∧
          (t.port q).counter .noMatch = (s.port q).counter .noMatch) ∧
        (lookup b r = none →
          (let x := runList b (defaultList b q) r s.meters
           t = { taken.count q .noMatch with meters := x.2 }.dispose id f.cells x.1) ∧
          t.classifier.current = s.classifier.current ∧
          t.meters = (runList b (defaultList b q) r s.meters).2 ∧
          (t.port q).counter .noMatch = satInc ((s.port q).counter .noMatch)))

/-! ### Ports and reception -/

/-- A frame start on an UP port begins a reception with its first general cell, or one that discards when no
cell is free; a claim that takes the free count below the low mark of a pool in POOL_OK makes it POOL_LOW
and posts that event, and any other changes nothing but the free cells. On a port that is not UP, or during
a reception, it is not taken. -/
def Obligations.FrameStartBegins : Prop :=
  ∀ (p : Port) (s : State),
    ((s.port p).oper = .up → (s.port p).reception = none →
      ∃ t, exec (.frameStart p) s = .next t ∧
        t.port (otherPort p) = s.port (otherPort p) ∧ t.endpoint = s.endpoint ∧
        t.classifier = s.classifier ∧ t.tables = s.tables ∧ t.verify = s.verify ∧
        t.meters = s.meters ∧ t.commons.frames = s.commons.frames ∧
        (s.commons.pool.freeGeneral ≠ 0 →
          ∃ c : GeneralCell,
            t.port p = { s.port p with reception := some (.receiving [] [c]) } ∧
            (c :: t.commons.pool.free).Perm s.commons.pool.free ∧
            PoolEvaluated s
              { s.commons with pool := { s.commons.pool with free := t.commons.pool.free } }
              t.commons) ∧
        (s.commons.pool.freeGeneral = 0 →
          t.port p = { (s.port p).count .noBuffer with reception := some .discarding } ∧
          t.commons.pool.freeGeneral = 0 ∧
          (PoolAgrees s → t.commons = s.commons))) ∧
    ((s.port p).oper ≠ .up ∨ (s.port p).reception ≠ none → exec (.frameStart p) s = .next s)

/-- Bytes that arrive are stored with the cells their image needs, claimed from the free ones and added at
the end of the reception's cells; the 1042nd byte cuts the reception off for OVERSIZE and a missing cell
for NO_BUFFER, and both return every cell it held. The image of a reception is 4 bytes longer than what
arrived until tagctl has, then the received bytes with a tag area of 4 bytes, 17 + len bytes for a good
frame, and it needs one cell for each 64 bytes begun. The claims post POOL_LOW where they pass below the low
mark, and the cells returned then post POOL_OK where they pass the high mark. That the rows carry the bytes
as operands is the model's choice (log 10). -/
def Obligations.ReceptionStoresBytes : Prop :=
  (∀ bytes : List Byte,
    (bytes.length < 7 → cellsForImage bytes = (bytes.length + 4 + 63) / 64) ∧
    (7 ≤ bytes.length →
      let tags := min 2 (byteAt bytes 6).toNat
      cellsForImage bytes = (11 + (bytes.length - (7 + 2 * tags)) + 63) / 64) ∧
    (intakeCheck bytes = none →
      let len := (u16At bytes (7 + 2 * (byteAt bytes 6).toNat)).toNat
      cellsForImage bytes = (17 + len + 63) / 64 ∧
        ∀ n : Nat, cellsForImage bytes = n ↔ 64 * n < 17 + len + 64 ∧ 17 + len ≤ 64 * n)) ∧
  ∀ (p : Port) (s : State) (stored bytes : List Byte) (cells : List GeneralCell),
    (s.port p).reception = some (.receiving stored cells) → stored.length ≤ 1041 →
    cells.length = max 1 (cellsForImage stored) →
    let all := stored ++ bytes
    (all.length ≤ 1041 → cellsForImage all ≤ cells.length + s.commons.pool.freeGeneral →
      ∃ (t : State) (more : List GeneralCell), exec (.receptionCellClaim p bytes) s = .next t ∧
        t.port p = { s.port p with reception := some (.receiving all (cells ++ more)) } ∧
        (cells ++ more).length = max cells.length (cellsForImage all) ∧
        (more ++ t.commons.pool.free).Perm s.commons.pool.free ∧
        (PoolAgrees s → PoolDrained s s.commons t.commons t.commons.pool.freeGeneral) ∧
        t.port (otherPort p) = s.port (otherPort p) ∧ t.commons.frames = s.commons.frames ∧
        t.endpoint = s.endpoint ∧ t.classifier = s.classifier ∧ t.tables = s.tables) ∧
    (all.length ≤ 1041 → cells.length + s.commons.pool.freeGeneral < cellsForImage all →
      ∃ t, exec (.receptionCellClaim p bytes) s = .next t ∧
        t.port p = { (s.port p).count .noBuffer with reception := some .discarding } ∧
        t.commons.pool.free.Perm (s.commons.pool.free ++ cells) ∧
        (PoolAgrees s → ∃ x : Commons, PoolDrained s s.commons x 0 ∧
          PoolEvaluated s { x with pool := { x.pool with free := t.commons.pool.free } }
            t.commons) ∧
        t.port (otherPort p) = s.port (otherPort p) ∧ t.commons.frames = s.commons.frames) ∧
    (1041 < all.length → 17 ≤ cells.length + s.commons.pool.freeGeneral →
      ∃ t, exec (.oversizeCutoff p bytes) s = .next t ∧
        t.port p = { (s.port p).count .oversize with reception := some .discarding } ∧
        t.commons.pool.free.Perm (s.commons.pool.free ++ cells) ∧
        (PoolAgrees s → ∃ x : Commons,
          PoolDrained s s.commons x (cells.length + s.commons.pool.freeGeneral - 17) ∧
          PoolEvaluated s { x with pool := { x.pool with free := t.commons.pool.free } }
            t.commons) ∧
        t.port (otherPort p) = s.port (otherPort p) ∧ t.commons.frames = s.commons.frames ∧
        t.endpoint = s.endpoint ∧ t.classifier = s.classifier ∧ t.tables = s.tables)

/-- A line abort ends a reception and counts it if it was storing; a frame end that fails an intake check
is counted under the first check that fails. Both return the cells and make no record. Cells that take the
free count above the high mark of a pool in POOL_LOW make it POOL_OK and post that event. -/
def Obligations.ReceptionsEndCounted : Prop :=
  ∀ (p : Port) (s : State),
    ((s.port p).reception = none →
      exec (.lineAbort p) s = .next s ∧ exec (.frameEnd p []) s = .next s) ∧
    ((s.port p).reception = some .discarding →
      exec (.lineAbort p) s = .next (s.setPort p { s.port p with reception := none }) ∧
      exec (.frameEnd p []) s = .next (s.setPort p { s.port p with reception := none })) ∧
    ∀ (bytes : List Byte) (cells : List GeneralCell),
      (s.port p).reception = some (.receiving bytes cells) →
      let tagctl := (byteAt bytes 6).toNat
      let len := (u16At bytes (7 + 2 * tagctl)).toNat
      let fails : Option PortCounter :=
        if bytes.length < 13 then some .runt
        else if 3 ≤ tagctl ∨ u16At bytes 2 = 0xFFFF#16 then some .malformed
        else if 1024 < len then some .oversize
        else if bytes.length ≠ 13 + 2 * tagctl + len then some .malformed
        else if checkValue (bytes.take (bytes.length - 4)) ≠
            u32LeAt bytes (bytes.length - 4) then some .checkFail
        else none
      (∃ t, exec (.lineAbort p) s = .next t ∧
        t.port p = { (s.port p).count .lineAbort with reception := none } ∧
        t.port (otherPort p) = s.port (otherPort p) ∧
        t.commons.pool.free.Perm (s.commons.pool.free ++ cells) ∧
        PoolEvaluated s
          { s.commons with pool := { s.commons.pool with free := t.commons.pool.free } } t.commons ∧
        t.commons.frames = s.commons.frames ∧ t.endpoint = s.endpoint ∧
        t.classifier = s.classifier ∧ t.tables = s.tables) ∧
      ∀ k : PortCounter, fails = some k →
        ∃ t, exec (.frameEnd p []) s = .next t ∧
          t.port p = { (s.port p).count k with reception := none } ∧
          t.port (otherPort p) = s.port (otherPort p) ∧
          t.commons.pool.free.Perm (s.commons.pool.free ++ cells) ∧
          PoolEvaluated s
            { s.commons with pool := { s.commons.pool with free := t.commons.pool.free } } t.commons ∧
          t.commons.frames = s.commons.frames ∧ t.endpoint = s.endpoint ∧
          t.classifier = s.classifier ∧ t.tables = s.tables

/-- A good frame is counted, gets its record, and joins the command queue when it is a MGMT frame to the
node address or NEAREST, else the ingress queue of its port; a full queue refuses it, counts it and
returns its cells, which posts POOL_OK where they pass the high mark of a pool in POOL_LOW. The record's cell
list names the cells that the reception claimed. That FRAME_END carries the last bytes as an operand is the model's choice (log 10). -/
def Obligations.GoodFramesAreRouted : Prop :=
  (∀ (p : Port) (s : State) (more : List Byte),
    exec (.frameEnd p more) s = exec (.frameEnd p []) (s.receiveBytes p more)) ∧
  ∀ (p : Port) (s : State) (bytes : List Byte) (cells : List GeneralCell),
    (s.port p).reception = some (.receiving bytes cells) → intakeCheck bytes = none →
    (∀ g ∈ s.commons.frames, g.id ≠ s.commons.nextFrame) →
    let stored : RxFrame :=
      { id := s.commons.nextFrame, holders := 1, bytes := bytes
        record := { ingress := p, dest := u16At bytes 0, src := u16At bytes 2, kind := byteAt bytes 4
                    hop := byteAt bytes 5, tags := rxTags bytes, len := rxLenField bytes
                    peek := u32At (rxPayload bytes) 0, rxLen := bytes.length
                    flags := if rxTagctl bytes = 0 then 0#16
                      else if rxTagctl bytes = 1 then 0x0100#16 else 0x0300#16
                    pf := none, generation := none, slot := none
                    disp := { dest := { a := false, b := false }, cls := 0, mirror := none
                              punt := false, drop := none }
                    cellList := cells } }
    let mgmt : Prop := byteAt bytes 4 = 2#8 ∧
      (u16At bytes 0 = s.endpoint.nodeAddress ∨ u16At bytes 0 = 0xFFFE#16)
    ∃ t, exec (.frameEnd p []) s = .next t ∧
      t.port (otherPort p) = s.port (otherPort p) ∧ t.tables = s.tables ∧ t.verify = s.verify ∧
      (mgmt → s.endpoint.commands.length < 4 →
        t.commons = { s.commons with
          frames := s.commons.frames ++ [stored], nextFrame := s.commons.nextFrame + 1 } ∧
        t.endpoint = { s.endpoint with commands := s.endpoint.commands ++ [stored.id] } ∧
        t.classifier = s.classifier ∧
        t.port p = { (s.port p).count .receivedGood with reception := none }) ∧
      (mgmt → 4 ≤ s.endpoint.commands.length →
        t.commons.frames = s.commons.frames ∧ t.endpoint = s.endpoint ∧
        t.commons.pool.free.Perm (s.commons.pool.free ++ cells) ∧
        t.commons.mgmt.overrun = satInc s.commons.mgmt.overrun ∧ t.classifier = s.classifier ∧
        (cells ≠ [] → PoolEvaluated s
          { s.commons with
            nextFrame := s.commons.nextFrame + 1
            pool := { s.commons.pool with free := t.commons.pool.free }
            mgmt := { s.commons.mgmt with overrun := satInc s.commons.mgmt.overrun } } t.commons) ∧
        t.port p = { (s.port p).count .receivedGood with reception := none }) ∧
      (¬mgmt → (s.classifier.ingress p).length < 8 →
        t.commons = { s.commons with
          frames := s.commons.frames ++ [stored], nextFrame := s.commons.nextFrame + 1 } ∧
        t.classifier = s.classifier.setIngress p (s.classifier.ingress p ++ [stored.id]) ∧
        t.endpoint = s.endpoint ∧
        t.port p = { (s.port p).count .receivedGood with reception := none }) ∧
      (¬mgmt → 8 ≤ (s.classifier.ingress p).length →
        t.commons.frames = s.commons.frames ∧ t.endpoint = s.endpoint ∧
        t.commons.pool.free.Perm (s.commons.pool.free ++ cells) ∧
        t.classifier = s.classifier ∧
        (cells ≠ [] → PoolEvaluated s
          { s.commons with
            nextFrame := s.commons.nextFrame + 1
            pool := { s.commons.pool with free := t.commons.pool.free } } t.commons) ∧
        t.port p =
          { ((s.port p).count .receivedGood).count .ingressFull with reception := none })

/-- A change of the link pin or of port_enable, which SET_PORT_ENABLE makes by `State.changePort`. One that
takes the port to UP posts LINK_UP and changes nothing else of the port; a head that awaits its
acknowledgement through that port is sent again from retry count 0 with its captured value, and an idle
sender of a listener on that port begins a send; that LINK_UP is posted before that send is the model's
inference (log 17). One that takes the port out of UP, to DOWN or to DISABLED, ends its reception,
transmission and queues, each counted, loses the response that waits to leave through it, holds back the
head of a listener reached through it, posts LINK_DOWN with the new operational state and ends the session
owned through it with reason LINK, in that order, and keeps the rest of the part. Where the response of a
RESTART is lost or flushed by the pin, the restart takes effect after those effects and events; that
LINK_PIN_CHANGE reads the straps State holds is the model's choice (log 8). A change that does neither sets
the link state or the setting alone. -/
def Obligations.LinkPinMovesThePort : Prop :=
  ∀ (p : Port) (s : State), NoRestartDue s →
    let leaves : Prop := (s.port p).enabled = true ∧ (s.port p).link = .up
    let noRestart : Prop := (∀ k, s.commons.output ≠ .restartPending k) ∧
      ∀ (b : Built) (k : RestartKind),
        s.commons.output = .claiming b ∨ s.commons.output = .offering b →
        b.builder ≠ .response (some k)
    let restarts : RestartKind → Prop := fun k =>
      (s.commons.output = .restartPending k ∧ ∃ b : Built, b.builder = .response (some k) ∧
        ((∃ w, (s.port p).tx = some { source := .built b, wire := w }) ∨
          b ∈ s.commons.mgmtOut p)) ∨
      ∃ b : Built, b.builder = .response (some k) ∧ b.port = p ∧
        (s.commons.output = .claiming b ∨ s.commons.output = .offering b)
    let ended : EventKind → List EventKind := fun k =>
      k :: (match s.endpoint.session with
        | some o => if o.port = p then [.sessionEnded .link o.node o.number] else []
        | none => [])
    let entered : State → Prop := fun t =>
      (t.port p).oper = .up ∧
      t.port (otherPort p) = s.port (otherPort p) ∧ t.endpoint = s.endpoint ∧
      t.classifier = s.classifier ∧ t.tables = s.tables ∧ t.verify = s.verify ∧
      t.meters = s.meters ∧ t.commons.frames = s.commons.frames ∧
      Posted s t (.linkUp p) ∧
      (∀ l : Listener, s.commons.events.listener = some l → l.port = p →
        let room : Prop := (∀ b, s.commons.output ≠ .claiming b) ∧
          (∀ b, s.commons.output ≠ .offering b) ∧ (s.commons.mgmtOut p).length < 4 ∧
          1 ≤ s.commons.pool.freeReserve
        let sent : EventRecord → Word16 → Prop := fun r captured =>
          t.commons.events.sender = .awaiting
            { retry := 0, captured := captured, timer := true, flight := .queued } ∧
          t.commons.mgmtOut p =
            s.commons.mgmtOut p ++ [eventReport l s.endpoint.nodeAddress r captured]
        (∀ w : Awaiting, s.commons.events.sender = .awaiting w →
          (∃ x : Awaiting, t.commons.events.sender = .awaiting x ∧ x.retry = 0 ∧
            x.captured = w.captured) ∧
          ∀ (r : EventRecord) (rest : List EventRecord), s.commons.events.queue = r :: rest →
            room → sent r w.captured) ∧
        (s.commons.events.sender = .idle →
          (∃ x : Awaiting, t.commons.events.sender = .awaiting x ∧ x.retry = 0 ∧
            x.captured = t.commons.events.lost) ∧
          ∀ (r : EventRecord) (rest : List EventRecord), t.commons.events.queue = r :: rest →
            room → sent r t.commons.events.lost))
    let left : State → OperState → Prop := fun t o =>
      (t.port p).oper = o ∧ (t.port p).reception = none ∧
      (t.port p).tx = none ∧
      (∀ c : Fin 4, (t.port p).queue c =
        { entries := [], limit := ((s.port p).queue c).limit }) ∧
      t.commons.mgmtOut p = [] ∧
      (t.port p).counter .txAbort =
        (if (s.port p).tx.isSome then satInc ((s.port p).counter .txAbort)
          else (s.port p).counter .txAbort) ∧
      (t.port p).counter .linkDown =
        Nat.repeat satInc
          ((match (s.port p).reception with | some (.receiving _ _) => 1 | _ => 0) +
            (((s.port p).queue 0).entries.length + ((s.port p).queue 1).entries.length +
              ((s.port p).queue 2).entries.length + ((s.port p).queue 3).entries.length) +
            (s.commons.mgmtOut p).length)
          ((s.port p).counter .linkDown) ∧
      (∀ k : PortCounter, k ≠ .txAbort → k ≠ .linkDown →
        (t.port p).counter k = (s.port p).counter k) ∧
      t.port (otherPort p) = s.port (otherPort p) ∧
      t.endpoint.session = s.endpoint.session.filter (fun o => decide (o.port ≠ p)) ∧
      { t.endpoint with session := s.endpoint.session } = s.endpoint ∧
      (∀ b : Built, s.commons.output = .claiming b ∨ s.commons.output = .offering b → b.port = p →
        t.commons.output = .idle ∧
        t.commons.mgmt.respLost = satInc s.commons.mgmt.respLost) ∧
      (s.commons.output = .idle → t.commons.output = .idle ∧
        t.commons.mgmt.respLost = s.commons.mgmt.respLost) ∧
      (∀ l : Listener, s.commons.events.listener = some l → l.port = p →
        t.commons.events.sender =
          (match s.commons.events.sender with
            | .idle => .idle
            | .awaiting w => .awaiting { w with timer := false, flight := .none })) ∧
      (PoolAgrees s → s.commons.events.queue.length ≤ 13 →
        ∃ pool : List EventKind, (pool = [] ∨ ∃ n, pool = [.poolOk n]) ∧
          t.commons.events.queue.map (·.kind) =
            s.commons.events.queue.map (·.kind) ++ pool ++ ended (.linkDown p o)) ∧
      t.classifier = s.classifier ∧ t.tables = s.tables ∧ t.verify = s.verify ∧
      t.meters = s.meters
    let switched : Bool → State := fun v => s.changePort p { s.port p with enabled := v }
    ((s.port p).enabled = true → (s.port p).link = .down →
      ∃ t, exec (.linkPinChange p .up) s = .next t ∧
        t.port p = { s.port p with link := .up } ∧ entered t) ∧
    ((s.port p).enabled = false → (s.port p).link = .up →
      (switched true).port p = { s.port p with enabled := true } ∧ entered (switched true)) ∧
    (leaves → noRestart →
      ∃ t, exec (.linkPinChange p .down) s = .next t ∧ (t.port p).enabled = true ∧
        (t.port p).link = .down ∧ left t .down) ∧
    (leaves → noRestart →
      ((switched false).port p).enabled = false ∧ ((switched false).port p).link = .up ∧
        left (switched false) .disabled) ∧
    (∀ v : Bool, (s.port p).link = .down ∨ (s.port p).enabled = v →
      switched v = s.setPort p { s.port p with enabled := v }) ∧
    (∀ l : LinkState, (s.port p).link = l → exec (.linkPinChange p l) s = .next s) ∧
    (∀ l : LinkState, (s.port p).enabled = false →
      exec (.linkPinChange p l) s = .next (s.setPort p { s.port p with link := l })) ∧
    (leaves → restarts .full →
      let after : Straps → State := fun straps =>
        { State.afterReset straps (if p = .a then .down else s.portA.link)
            (if p = .b then .down else s.portB.link) .full with pending := s.pending }
      exec (.linkPinChange p .down) s = .next (after s.straps) ∧
        ∀ straps : Straps, exec (.fullRestart (.linkFell p) straps) s = .next (after straps)) ∧
    (leaves → restarts .light →
      ∃ t, exec (.linkPinChange p .down) s = .next t ∧
        exec (.lightRestart (.linkFell p)) s = .next t ∧
        (t.port p).oper = .down ∧ t.commons.output = .idle ∧
        t.endpoint = { s.endpoint with commands := [], session := none } ∧
        (PoolAgrees s → s.commons.events.queue.length ≤ 12 →
          ∃ early late : List EventKind, (early = [] ∨ ∃ n, early = [.poolOk n]) ∧
            (late = [] ∨ late = [.poolOk 512]) ∧
            t.commons.events.queue.map (·.kind) =
              s.commons.events.queue.map (·.kind) ++ early ++ ended (.linkDown p .down) ++
                [.restarted .light] ++
                (match s.endpoint.session with
                  | some o => if o.port = p then [] else [.sessionEnded .restart o.node o.number]
                  | none => []) ++ late))

/-! ### Meters, tables and the verify unit -/

/-- A refill raises every meter of the active bank by its rate up to its burst, keeps every green and red
count and touches nothing else. -/
def Obligations.RefillAddsTheRate : Prop :=
  ∀ s : State, ∃ ms : Vector Meter 64, exec .refill s = .next { s with meters := ms } ∧
    ∀ m : Fin 64,
      let rate := (s.tables.activeBank.u16 (44 + 6 * m.val)).toNat
      let burst := min (s.tables.activeBank.u32 (44 + 6 * m.val + 2)).toNat 1048575
      ms[m] = { s.meters[m] with tokens := min burst ((s.meters[m]).tokens + rate) }

/-- The swap: roles, generation, signature, mode, hit arrays, meters, verify unit, COMMIT_DONE, stamped with
the new generation, and COPYING change together, and nothing else does but by the send that the post
begins. -/
def Obligations.SwapChangesTogether : Prop :=
  ∀ (s : State) (check : Word32), s.tables.state = .signing none check →
    let generation : Word16 :=
      if s.tables.generation = 65535#16 then 1#16 else s.tables.generation + 1#16
    ∃ t, exec .swap s = .next t ∧
      t.tables = { s.tables with
        active := otherBank s.tables.active, generation := generation, signature := ~~~check
        state := .copying (some { table := .policy, index := 0 }) } ∧
      t.classifier.mode = .normal ∧
      (∀ n : Fin 512, t.classifier.previous[n] = s.classifier.current[n] ∧
        t.classifier.current[n] = { frames := 0#40, bytes := 0#48 }) ∧
      { t.classifier with
        mode := s.classifier.mode, current := s.classifier.current
        previous := s.classifier.previous } = s.classifier ∧
      (∀ m : Fin 64, t.meters[m] =
        if storedRate s.tables.activeBank m.val = storedRate s.tables.shadowBank m.val ∧
            storedBurst s.tables.activeBank m.val = storedBurst s.tables.shadowBank m.val then
          s.meters[m]
        else { tokens := min (storedBurst s.tables.shadowBank m.val) 1048575, green := 0#32
               red := 0#32 }) ∧
      t.verify = { s.verify with
        state := if s.verify.state = .stopped ∧ s.verify.period = 0 then .stopped
          else .waiting s.verify.period } ∧
      PostedOn t s.commons t.commons (.commitDone generation (~~~check) s.tables.origin) ∧
      t.portA = s.portA ∧ t.portB = s.portB ∧ t.endpoint = s.endpoint ∧
      t.prefilter = s.prefilter ∧ t.straps = s.straps

/-- A signing step takes one record: a valid one into the check computation, an invalid one to
COMMIT_FAILED and EDITING. A copying step copies one record; the end of copying gives a clean EDITING.
Which records of each table are valid, in the order of the checks, with the reason of the first that
fails and the step position of a VERB or OPERAND failure. That the pairing checks of a RULES slot read the
neighbouring slot as it stands when the slot is reached is the model's inference (log 28). -/
def Obligations.ControllerSteps : Prop :=
  (∀ (s : State) (r : RecordRef) (check : Word32), s.tables.state = .signing (some r) check →
    (validateRecord s.tables.shadowBank r = none →
      exec .signingStep s = .next { s with tables := { s.tables with
        state := .signing (nextRecord r)
          (checkBytes check (s.tables.shadowBank.record r.table r.index)) } }) ∧
    (∀ why : Invalid, validateRecord s.tables.shadowBank r = some why →
      ∃ t, exec .signingStep s = .next t ∧
        t.tables = { s.tables with state := .editing, origin := none } ∧
        t.classifier = s.classifier ∧ t.meters = s.meters ∧ t.verify = s.verify ∧
        t.endpoint = s.endpoint ∧ t.portA = s.portA ∧ t.portB = s.portB ∧
        (s.commons.events.queue.length < 16 →
          t.commons.events.queue = s.commons.events.queue ++
            [{ seq := s.commons.events.nextSeq, uptime := s.endpoint.uptime
               generation := s.tables.generation
               kind := .commitFailed r why.step why.reason s.tables.origin }]))) ∧
  (∀ (s : State) (r : RecordRef), s.tables.state = .copying (some r) → BanksCanonical s →
    ∃ c : Controller, exec .copyingStep s = .next { s with tables := c } ∧
      c.state = .copying (nextRecord r) ∧ c.activeBank = s.tables.activeBank ∧
      c.active = s.tables.active ∧ c.generation = s.tables.generation ∧
      c.signature = s.tables.signature ∧ c.dirty = s.tables.dirty ∧ c.origin = s.tables.origin ∧
      c.shadowBank.record r.table r.index = s.tables.activeBank.record r.table r.index ∧
      ∀ a : Nat, (a < recordOffset r.table r.index ∨
          recordOffset r.table r.index + recordSize r.table ≤ a) →
        c.shadowBank.read a = s.tables.shadowBank.read a) ∧
  (∀ s : State, s.tables.state = .copying none →
    exec .endOfCopying s =
      .next { s with tables := { s.tables with state := .editing, dirty := false, origin := none } }) ∧
  ∀ (b : Bank) (n : Nat),
    let fails : CommitReason → Option Invalid := fun why => some { reason := why, step := none }
    validateRecord b { table := .policy, index := 0 } =
      (if 2 ≤ (b.read 1).toNat ∨ 2 ≤ (b.read 4).toNat then fails .enum else none) ∧
    validateRecord b { table := .prefilter, index := 0 } =
      (if 2 ≤ (b.read 6).toNat ∨ 2 ≤ (b.read 7).toNat ∨ 2 ≤ (b.read 8).toNat ∨
          2 ≤ (b.read 9).toNat then fails .enum
        else none) ∧
    validateRecord b { table := .meters, index := n } =
      (if 1048575 < (b.u32 (46 + 6 * n)).toNat then fails .burst else none) ∧
    (let len := (b.read (428 + 81 * n)).toNat
     let verb : Nat → Nat := fun k => (b.read (429 + 81 * n + 10 * k)).toNat
     let operand : Nat → Nat := fun k => (b.read (434 + 81 * n + 10 * k)).toNat
     let known : Nat → Prop := fun k => 1 ≤ verb k ∧ verb k ≤ 13
     let ranged : Nat → Prop := fun k =>
       (verb k = 1 ∨ verb k = 2 → operand k < 4) ∧ (verb k = 3 → operand k < 6) ∧
       (verb k = 5 → operand k < 7) ∧ (verb k = 6 ∨ verb k = 7 → operand k < 8) ∧
       (verb k = 10 → operand k < 64) ∧ (verb k = 11 → operand k = 1 ∨ operand k = 2) ∧
       (verb k = 13 → operand k < 16)
     (8 < len → validateRecord b { table := .actions, index := n } = fails .listLength) ∧
     (len ≤ 8 → (∀ k < len, known k ∧ ranged k) →
       validateRecord b { table := .actions, index := n } = none) ∧
     ∀ k < len, len ≤ 8 → (∀ j < k, known j ∧ ranged j) →
       (¬known k → validateRecord b { table := .actions, index := n } =
         some { reason := .verb, step := some k }) ∧
       (known k → ¬ranged k → validateRecord b { table := .actions, index := n } =
         some { reason := .operand, step := some k })) ∧
    (let marker : Nat → Nat := fun m => (b.read (21164 + 20 * m)).toNat / 16
     let low := (b.u16 (21179 + 20 * n)).toNat
     let high := (b.u16 (21181 + 20 * n)).toNat
     validateRecord b { table := .rules, index := n } =
       if 4 ≤ marker n then fails .widthMarker
       else if marker n = 2 ∧ n % 2 = 1 then fails .wideAlign
       else if marker n = 2 ∧ marker (n + 1) ≠ 3 then fails .widePair
       else if marker n = 3 ∧ (n % 2 = 0 ∨ marker (n - 1) ≠ 2) then fails .widePair
       else if (marker n = 1 ∨ marker n = 2) ∧ 3 ≤ (b.read (21164 + 20 * n)).toNat % 16 then
         fails .portMatch
       else if marker n = 3 ∧ (high < low ∨ 1024 < high) then fails .lengthBounds
       else none)

/-- The period timer starts a sweep; a sweep step reads one active record; a completed sweep that equals
the stored signature gives PASS, one that differs gives FAIL. The model's choice: the row of the verdict
that does not apply leaves the part as it is (log 5), and FAIL asks nothing of when an upset struck
(log 24). -/
def Obligations.SweepAndVerdicts : Prop :=
  (∀ (s : State) (n : Nat), s.verify.state = .waiting n →
    exec .verifyPeriodExpiry s = .next { s with verify := { s.verify with
      state := .sweeping (some { table := .policy, index := 0 }) 0xFFFFFFFF#32 } }) ∧
  (∀ (s : State) (r : RecordRef) (check : Word32), s.verify.state = .sweeping (some r) check →
    exec .sweepStep s = .next { s with verify := { s.verify with
      state := .sweeping (nextRecord r)
        (checkBytes check (s.tables.activeBank.record r.table r.index)) } }) ∧
  (∀ (s : State) (check : Word32), s.verify.state = .sweeping none check →
    ~~~check = s.tables.signature →
    exec .verdictPass s = .next { s with verify := { s.verify with
      state := .waiting s.verify.period, passes := satInc s.verify.passes, lastResult := .pass } } ∧
    exec .verdictFail s = .next s) ∧
  ∀ (s : State) (check : Word32), s.verify.state = .sweeping none check →
    ~~~check ≠ s.tables.signature →
    exec .verdictPass s = .next s ∧
    ∃ t, exec .verdictFail s = .next t ∧ t.classifier = { s.classifier with mode := .faulted } ∧
      t.tables = s.tables ∧ t.verify.state = .stopped ∧
      t.verify.faults = satInc s.verify.faults ∧ t.verify.passes = s.verify.passes ∧
      t.verify.lastResult = .fail ∧
      t.verify.lastFault = some { generation := s.tables.generation
                                  stored := s.tables.signature, computed := ~~~check }

/-- A storage upset gives one record of one bank its new content and changes no other byte; an upset of
an active meter record also lowers that meter's tokens to a burst that fell below them. -/
def Obligations.UpsetChangesOneRecord : Prop :=
  ∀ (s : State) (i : BankId) (tb : Table) (n : Nat) (content : List Byte),
    n < recordCount tb → content.length = recordSize tb → BanksCanonical s →
    ∃ t, exec (.storageUpset i tb n content) s = .next t ∧
      (t.tables.bank i).record tb n = content ∧
      (∀ a : Nat, (a < recordOffset tb n ∨ recordOffset tb n + recordSize tb ≤ a) →
        (t.tables.bank i).read a = (s.tables.bank i).read a) ∧
      t.tables.bank (otherBank i) = s.tables.bank (otherBank i) ∧
      t.tables.active = s.tables.active ∧ t.tables.generation = s.tables.generation ∧
      t.tables.signature = s.tables.signature ∧ t.tables.state = s.tables.state ∧
      t.tables.dirty = s.tables.dirty ∧ t.tables.origin = s.tables.origin ∧
      (∀ m : Fin 64, t.meters[m] =
        if tb = .meters ∧ i = s.tables.active ∧ m.val = n then
          { s.meters[m] with
            tokens := min (s.meters[m]).tokens (meterBurst t.tables.activeBank m.val) }
        else s.meters[m]) ∧
      { t with tables := s.tables, meters := s.meters } = s

/-! ### Egress -/

/-- A transmission start takes the head of the management-out queue, else of the highest class that holds a
copy, and sends the frame with its header rebuilt, a frame the part built with kind MGMT and hop 255; a
transmission end counts it, releases its holder and leaves the transmitter idle. With the last holder the
frame is gone and its cells are free again, which posts POOL_OK where they pass the high mark of a pool in
POOL_LOW. -/
def Obligations.TransmissionsStartAndEnd : Prop :=
  (∀ (p : Port) (s : State) (b : Built) (rest : List Built), (s.port p).oper = .up →
    (s.port p).tx = none → s.commons.mgmtOut p = b :: rest →
    ∃ t more, exec (.transmissionStart p) s = .next t ∧
      t.port p = { s.port p with tx := some { source := .built b, wire := b.wire } } ∧
      t.port (otherPort p) = s.port (otherPort p) ∧ t.commons.mgmtOut p = rest ++ more ∧
      t.commons.frames = s.commons.frames ∧ t.commons.pool = s.commons.pool ∧
      t.endpoint = s.endpoint ∧ t.classifier = s.classifier ∧ t.tables = s.tables) ∧
  (∀ (p : Port) (s : State) (c : Fin 4) (h : Copy) (rest : List Copy) (f : RxFrame),
    (s.port p).oper = .up → (s.port p).tx = none → s.commons.mgmtOut p = [] →
    (∀ d : Fin 4, c < d → ((s.port p).queue d).entries = []) →
    ((s.port p).queue c).entries = h :: rest → s.commons.frame? h.frame = some f →
    exec (.transmissionStart p) s = .next (s.setPort p
      { (s.port p).setQueue c { (s.port p).queue c with entries := rest } with
        tx := some { source := .copy h c, wire := f.wire } })) ∧
  (∀ f : RxFrame, ∃ covered : List Byte,
    covered = word16Bytes f.record.dest ++ word16Bytes f.record.src ++
      [f.record.kind, f.record.hop, BitVec.ofNat 8 f.record.tags.count] ++
      (match f.record.tags with
        | .empty => []
        | .one o => word16Bytes o
        | .two o i => word16Bytes o ++ word16Bytes i) ++
      beBytes 2 (rxPayload f.bytes).length ++ rxPayload f.bytes ∧
    f.wire = covered ++ (word32Bytes (checkValue covered)).reverse) ∧
  (∀ b : Built, ∃ covered : List Byte,
    covered = word16Bytes b.dest ++ word16Bytes b.src ++ [2#8, 255#8] ++
      (match b.tags with
        | .empty => [0#8]
        | .one o => [1#8] ++ word16Bytes o
        | .two o i => [2#8] ++ word16Bytes o ++ word16Bytes i) ++
      beBytes 2 b.payload.length ++ b.payload ∧
    b.wire = covered ++ (word32Bytes (checkValue covered)).reverse) ∧
  (∀ (p : Port) (s : State) (c : Copy) (q : Fin 4) (w : List Byte), NoRestartDue s →
    (s.port p).tx = some { source := .copy c q, wire := w } →
    exec (.transmissionEnd p) s = .next
      (((s.setPort p { s.port p with tx := none }).count p .transmitted).release c.frame)) ∧
  (∀ (p : Port) (s : State) (c : Copy) (q : Fin 4) (w : List Byte) (f : RxFrame), NoRestartDue s →
    (s.port p).tx = some { source := .copy c q, wire := w } → s.commons.frame? c.frame = some f →
    ∃ t, exec (.transmissionEnd p) s = .next t ∧
      t.port p = { (s.port p).count .transmitted with tx := none } ∧
      t.port (otherPort p) = s.port (otherPort p) ∧ t.endpoint = s.endpoint ∧
      t.classifier = s.classifier ∧ t.tables = s.tables ∧
      (2 ≤ f.holders → t.commons = { s.commons with
        frames := (Commons.dropHolder c.frame s.commons.frames).1 }) ∧
      (f.holders ≤ 1 → f.record.cellList ≠ [] →
        t.commons.frames = (Commons.dropHolder c.frame s.commons.frames).1 ∧
        t.commons.pool.free.Perm (s.commons.pool.free ++ f.record.cellList) ∧
        PoolEvaluated s
          { s.commons with
            frames := (Commons.dropHolder c.frame s.commons.frames).1
            pool := { s.commons.pool with free := t.commons.pool.free } } t.commons)) ∧
  (∀ (id : Nat) (before after : List RxFrame) (f : RxFrame), (∀ g ∈ before, g.id ≠ id) → f.id = id →
    Commons.dropHolder id (before ++ f :: after) =
      if f.holders ≤ 1 then (before ++ after, f.record.cellList)
      else (before ++ { f with holders := f.holders - 1 } :: after, [])) ∧
  ∀ (p : Port) (s : State) (b : Built) (w : List Byte), NoRestartDue s →
    (s.port p).tx = some { source := .built b, wire := w } →
    (∀ k : RestartKind, b.builder ≠ .response (some k)) →
    (∀ (r : Built) (k : RestartKind), s.commons.output = .claiming r →
      r.builder ≠ .response (some k)) →
    ∃ t, exec (.transmissionEnd p) s = .next t ∧
      t.port p = { (s.port p).count .transmittedMgmt with tx := none } ∧
      t.port (otherPort p) = s.port (otherPort p) ∧
      t.commons.mgmt.puntsSent =
        (if b.builder = .punt then satInc s.commons.mgmt.puntsSent else s.commons.mgmt.puntsSent) ∧
      ((∀ r, s.commons.output ≠ .claiming r) → s.commons.events.punt ≠ .claiming →
        (∀ x : Awaiting, s.commons.events.sender = .awaiting x → x.flight ≠ .claiming) →
        t.commons = { s.commons with
          pool := { s.commons.pool with freeReserve := s.commons.pool.freeReserve + b.cells }
          mgmt := { s.commons.mgmt with puntsSent := t.commons.mgmt.puntsSent } }) ∧
      t.endpoint = s.endpoint ∧ t.classifier = s.classifier ∧ t.tables = s.tables

/-- A builder that waits is granted its cells and joins the tail of its port's queue when they are free and
there is room, and one that waits for room joins when the queue judges it: a response, an event report, a
punt report. The arbiter looks at the claims in that order and stops at the first that the free cells do not
cover; a queue with room for some of the waiting frames alone admits them in that order. -/
def Obligations.WaitingResponsesJoin : Prop :=
  let claims : State → Prop := fun s =>
    ∃ w : Awaiting, s.commons.events.sender = .awaiting w ∧ w.flight = .claiming
  let offers : State → Port → Prop := fun s p =>
    ∃ (w : Awaiting) (b : Built), s.commons.events.sender = .awaiting w ∧ w.flight = .offering b ∧
      b.port = p
  let responds : State → Port → Prop := fun s p =>
    ∃ b : Built, s.commons.output = .offering b ∧ b.port = p
  (∀ (s : State) (b : Built), s.commons.output = .claiming b → s.commons.pool.freeReserve < b.cells →
    exec .reserveGrant s = .next s) ∧
  (∀ (s : State) (b : Built), s.commons.output = .claiming b → (s.port b.port).oper = .up →
    (s.commons.mgmtOut b.port).length < 4 → b.cells ≤ s.commons.pool.freeReserve →
    ∃ t more, exec .reserveGrant s = .next t ∧
      t.commons.mgmtOut b.port = s.commons.mgmtOut b.port ++ b :: more ∧
      t.commons.output =
        (match b.builder with | .response (some k) => .restartPending k | _ => .idle) ∧
      (s.commons.events.sender = .idle → s.commons.events.punt = .idle →
        more = [] ∧ t.commons.pool.freeReserve = s.commons.pool.freeReserve - b.cells) ∧
      { t with commons := s.commons } = s) ∧
  (∀ (s : State) (w : Awaiting) (l : Listener) (r : EventRecord) (rest : List EventRecord),
    NoRestartDue s → (∀ b, s.commons.output ≠ .claiming b) →
    s.commons.events.sender = .awaiting w → w.flight = .claiming →
    s.commons.events.listener = some l → s.commons.events.queue = r :: rest →
    (s.port l.port).oper = .up →
    let report := eventReport l s.endpoint.nodeAddress r w.captured
    (s.commons.pool.freeReserve = 0 → exec .reserveGrant s = .next s) ∧
    (1 ≤ s.commons.pool.freeReserve → (s.commons.mgmtOut l.port).length < 4 → ¬responds s l.port →
      ∃ t more, exec .reserveGrant s = .next t ∧
        t.commons.mgmtOut l.port = s.commons.mgmtOut l.port ++ report :: more ∧
        t.commons.events.sender = .awaiting { w with timer := true, flight := .queued } ∧
        (s.commons.events.punt ≠ .claiming →
          more = [] ∧ t.commons.pool.freeReserve + 1 = s.commons.pool.freeReserve ∧
          t.commons.frames = s.commons.frames ∧ t.commons.pool.free = s.commons.pool.free) ∧
        t.commons.output = s.commons.output ∧ { t with commons := s.commons } = s) ∧
    (1 ≤ s.commons.pool.freeReserve → 4 ≤ (s.commons.mgmtOut l.port).length ∨ responds s l.port →
      ∃ t, exec .reserveGrant s = .next t ∧
        t.commons.mgmtOut l.port = s.commons.mgmtOut l.port ∧
        t.commons.events.sender = .awaiting { w with flight := .offering report } ∧
        { t with commons := s.commons } = s)) ∧
  (∀ (s : State) (l : Listener) (id : Nat) (rest : List Nat) (f : RxFrame), NoRestartDue s →
    (∀ b, s.commons.output ≠ .claiming b) → ¬claims s → s.commons.events.punt = .claiming →
    s.commons.events.listener = some l → s.commons.events.puntQueue = id :: rest →
    s.commons.frame? id = some f → (s.port l.port).oper = .up →
    let report := puntReport l s.endpoint.nodeAddress f
    (s.commons.pool.freeReserve < report.cells → exec .reserveGrant s = .next s) ∧
    let left := s.commons.pool.freeGeneral + f.cells
    (report.cells ≤ s.commons.pool.freeReserve →
      (2 ≤ f.holders ∨ s.commons.events.sender ≠ .idle ∨
        ((s.commons.pool.low = true → left ≤ s.commons.pool.highMark) ∧
          (s.commons.pool.low = false → s.commons.pool.lowMark ≤ left))) →
      ∃ t, exec .reserveGrant s = .next t ∧ t.commons.events.puntQueue = rest ∧
        t.commons.frames = (Commons.dropHolder id s.commons.frames).1 ∧
        t.commons.pool.freeReserve + report.cells = s.commons.pool.freeReserve ∧
        t.commons.events.sender = s.commons.events.sender ∧
        ((s.commons.mgmtOut l.port).length < 4 → ¬responds s l.port → ¬offers s l.port →
          t.commons.mgmtOut l.port = s.commons.mgmtOut l.port ++ [report] ∧
          t.commons.events.punt = .idle) ∧
        (4 ≤ (s.commons.mgmtOut l.port).length ∨ responds s l.port ∨ offers s l.port →
          t.commons.mgmtOut l.port = s.commons.mgmtOut l.port ∧
          t.commons.events.punt = .offering report) ∧
        { t with commons := s.commons } = s)) ∧
  (∀ (s : State) (b : Built) (w : Awaiting) (l : Listener) (r : EventRecord) (more : List EventRecord)
    (id : Nat) (rest : List Nat) (f : RxFrame), s.commons.output = .claiming b → b.port = l.port →
    s.commons.events.sender = .awaiting w → w.flight = .claiming → s.commons.events.punt = .claiming →
    s.commons.events.listener = some l → s.commons.events.queue = r :: more →
    s.commons.events.puntQueue = id :: rest → s.commons.frame? id = some f → 2 ≤ f.holders →
    (s.port l.port).oper = .up → (s.commons.mgmtOut l.port).length ≤ 1 →
    b.cells ≤ s.commons.pool.freeReserve →
    let report := eventReport l s.endpoint.nodeAddress r w.captured
    let punted := puntReport l s.endpoint.nodeAddress f
    ∃ t, exec .reserveGrant s = .next t ∧
      t.commons.mgmtOut l.port = s.commons.mgmtOut l.port ++
        (if s.commons.pool.freeReserve < b.cells + 1 then [b]
          else if s.commons.pool.freeReserve < b.cells + 1 + punted.cells then [b, report]
          else [b, report, punted])) ∧
  (∀ (s : State) (p : Port) (b : Built), s.commons.output = .offering b → b.port = p →
    (s.port p).oper = .up → (s.commons.mgmtOut p).length < 4 →
    ∃ t more, exec (.mgmtOutAdmit p) s = .next t ∧
      t.commons.mgmtOut p = s.commons.mgmtOut p ++ b :: more ∧
      t.commons.output =
        (match b.builder with | .response (some k) => .restartPending k | _ => .idle) ∧
      t.commons.pool = s.commons.pool ∧ { t with commons := s.commons } = s) ∧
  (∀ (s : State) (p : Port) (w : Awaiting) (b : Built), ¬responds s p →
    s.commons.events.sender = .awaiting w → w.flight = .offering b → b.port = p →
    (s.port p).oper = .up → (s.commons.mgmtOut p).length < 4 →
    ∃ t more, exec (.mgmtOutAdmit p) s = .next t ∧
      t.commons.mgmtOut p = s.commons.mgmtOut p ++ b :: more ∧
      (s.commons.events.punt = .idle → more = []) ∧
      t.commons.events.sender = .awaiting { w with timer := true, flight := .queued } ∧
      t.commons.pool = s.commons.pool ∧ t.commons.output = s.commons.output ∧
      { t with commons := s.commons } = s) ∧
  (∀ (s : State) (p : Port) (b : Built), ¬responds s p → ¬offers s p →
    s.commons.events.punt = .offering b → b.port = p → (s.port p).oper = .up →
    (s.commons.mgmtOut p).length < 4 →
    ∃ t, exec (.mgmtOutAdmit p) s = .next t ∧
      t.commons.mgmtOut p = s.commons.mgmtOut p ++ [b] ∧ t.commons.events.punt = .idle ∧
      t.commons.pool = s.commons.pool ∧ t.commons.events.sender = s.commons.events.sender ∧
      t.commons.output = s.commons.output ∧ { t with commons := s.commons } = s) ∧
  (∀ (s : State) (p : Port) (b report punted : Built) (w : Awaiting), s.commons.output = .offering b →
    s.commons.events.sender = .awaiting w → w.flight = .offering report →
    s.commons.events.punt = .offering punted → b.port = p → report.port = p → punted.port = p →
    (s.port p).oper = .up →
    ∃ t, exec (.mgmtOutAdmit p) s = .next t ∧
      t.commons.mgmtOut p = s.commons.mgmtOut p ++
        [b, report, punted].take (4 - (s.commons.mgmtOut p).length)) ∧
  ∀ (s : State) (p : Port), (s.port p).oper ≠ .up ∨ 4 ≤ (s.commons.mgmtOut p).length →
    exec (.mgmtOutAdmit p) s = .next s

/-! ### The event unit and the timers -/

/-- The sender sends the head to the listener, resends it up to three times and then gives it up; the punt
side turns the head entry into a punt report, which carries what the record holds after disposition and the
first bytes received, 128 at most. Where the entry was the last holder of its frame and its cells take the
pool out of POOL_LOW, POOL_OK is posted, and the send that an idle sender begins with it joins the queue
before the punt report: the model's inference (log 17). The code and the detail bytes of every event kind
are given. -/
def Obligations.ReportsGoOut : Prop :=
  ∀ (s : State) (l : Listener), s.commons.events.listener = some l → (s.port l.port).oper = .up →
    (∀ b, s.commons.output ≠ .claiming b) → (∀ b, s.commons.output ≠ .offering b) →
    (s.commons.mgmtOut l.port).length < 4 →
    (∀ (r : EventRecord) (rest : List EventRecord), s.commons.events.queue = r :: rest →
      1 ≤ s.commons.pool.freeReserve →
      let report : Word16 → Built := fun captured =>
        { port := l.port, builder := .event, dest := l.node, src := s.endpoint.nodeAddress
          tags := .empty
          payload := [1#8, 0x80#8] ++ word16Bytes r.seq ++ word16Bytes captured ++
            word32Bytes r.uptime ++ word16Bytes r.generation ++
            [eventCode r.kind, BitVec.ofNat 8 (eventDetail r.kind).length] ++
            padTo 8 (eventDetail r.kind) }
      let waiting : Nat → Word16 → Sender := fun retry captured =>
        .awaiting { retry := retry, captured := captured, timer := true, flight := .queued }
      (s.commons.events.sender = .idle →
        ∃ t, exec .eventSend s = .next t ∧
          t.commons.mgmtOut l.port = s.commons.mgmtOut l.port ++ [report s.commons.events.lost] ∧
          t.commons.events =
            { s.commons.events with sender := waiting 0 s.commons.events.lost } ∧
          t.commons.pool = { s.commons.pool with freeReserve := s.commons.pool.freeReserve - 1 } ∧
          { t with commons := s.commons } = s) ∧
      (∀ w : Awaiting, s.commons.events.sender = .awaiting w → w.timer = true →
        w.flight = .queued →
        (w.retry < 3 →
          ∃ t, exec .retryTimerExpiry s = .next t ∧
            t.commons.mgmtOut l.port = s.commons.mgmtOut l.port ++ [report w.captured] ∧
            t.commons.events =
              { s.commons.events with sender := waiting (w.retry + 1) w.captured } ∧
            t.commons.pool =
              { s.commons.pool with freeReserve := s.commons.pool.freeReserve - 1 } ∧
            { t with commons := s.commons } = s) ∧
        (3 ≤ w.retry →
          ∃ t, exec .retryTimerExpiry s = .next t ∧ t.commons.events.queue = rest ∧
            t.commons.events.lost = satInc s.commons.events.lost ∧
            t.commons.mgmt.eventsLost = satInc s.commons.mgmt.eventsLost ∧
            t.commons.events.nextSeq = s.commons.events.nextSeq ∧
            (rest = [] → t.commons.events.sender = .idle) ∧
            (rest ≠ [] →
              t.commons.events.sender = waiting 0 (satInc s.commons.events.lost)) ∧
            { t with commons := s.commons } = s))) ∧
    (∀ (id : Nat) (rest : List Nat) (f : RxFrame), s.commons.events.punt = .idle →
      s.commons.events.puntQueue = id :: rest → s.commons.frame? id = some f →
      (∀ w : Awaiting, s.commons.events.sender = .awaiting w →
        w.flight ≠ .claiming ∧ ∀ b, w.flight ≠ .offering b) →
      let report : Built :=
        { port := l.port, builder := .punt, dest := l.node, src := s.endpoint.nodeAddress
          tags := .empty, payload := puntPayload f }
      let left := s.commons.pool.freeGeneral + f.cells
      ((2 ≤ f.holders ∨ s.commons.events.sender ≠ .idle ∨
          ((s.commons.pool.low = true → left ≤ s.commons.pool.highMark) ∧
            (s.commons.pool.low = false → s.commons.pool.lowMark ≤ left))) →
        report.cells ≤ s.commons.pool.freeReserve →
        ∃ t, exec .puntTake s = .next t ∧
          t.commons.mgmtOut l.port = s.commons.mgmtOut l.port ++ [report] ∧
          t.commons.events.puntQueue = rest ∧ t.commons.events.punt = .idle ∧
          t.commons.pool.freeReserve = s.commons.pool.freeReserve - report.cells ∧
          t.commons.frames = (Commons.dropHolder id s.commons.frames).1 ∧
          (f.holders ≤ 1 → t.commons.pool.free.Perm (s.commons.pool.free ++ f.record.cellList)) ∧
          { t with commons := s.commons } = s) ∧
      (f.holders ≤ 1 → f.cells ≠ 0 → s.commons.events.sender = .idle →
        s.commons.pool.low = true → s.commons.pool.highMark < left →
        (s.commons.mgmtOut l.port).length < 3 → report.cells + 1 ≤ s.commons.pool.freeReserve →
        ∃ (t : State) (r : EventRecord), exec .puntTake s = .next t ∧
          t.commons.events.queue.head? = some r ∧
          t.commons.mgmtOut l.port = s.commons.mgmtOut l.port ++
            [eventReport l s.endpoint.nodeAddress r t.commons.events.lost, report] ∧
          t.commons.events.sender = .awaiting
            { retry := 0, captured := t.commons.events.lost, timer := true, flight := .queued } ∧
          Posted s t (.poolOk left) ∧ t.commons.pool.low = false ∧
          t.commons.events.puntQueue = rest ∧ t.commons.events.punt = .idle ∧
          t.commons.pool.freeReserve + (report.cells + 1) = s.commons.pool.freeReserve ∧
          t.commons.pool.free.Perm (s.commons.pool.free ++ f.record.cellList) ∧
          t.commons.frames = (Commons.dropHolder id s.commons.frames).1 ∧
          { t with commons := s.commons } = s)) ∧
    (let port : Port → Byte := fun p => if p = .a then 1#8 else 2#8
     let node : Option Word16 → List Byte := fun o => word16Bytes (o.getD 0xFFFF#16)
     ∀ k : EventKind,
       (padTo 8 (eventDetail k) =
         eventDetail k ++ List.replicate (8 - (eventDetail k).length) 0#8) ∧
       (eventCode k, eventDetail k) =
         match k with
         | .restarted c => (1#8, [match c with | .power => 0#8 | .light => 1#8 | .full => 2#8])
         | .linkUp p => (2#8, [port p])
         | .linkDown p o =>
           (3#8, [port p, match o with | .disabled => 0#8 | .down => 1#8 | .up => 2#8])
         | .sessionOpened n p number => (4#8, word16Bytes n ++ [port p, number])
         | .sessionEnded why n number =>
           (5#8, [match why with
             | .closed => 1#8 | .expired => 2#8 | .link => 3#8 | .restart => 4#8] ++
             word16Bytes n ++ [number])
         | .commitDone g sig origin => (6#8, word16Bytes g ++ word32Bytes sig ++ node origin)
         | .commitFailed r step why origin =>
           (7#8, [match r.table with
             | .policy => 1#8 | .prefilter => 2#8 | .meters => 3#8 | .actions => 4#8
             | .rules => 5#8] ++ beBytes 2 r.index ++
             [match step with | some n => BitVec.ofNat 8 n | none => 0xFF#8,
              match why with
              | .widthMarker => 1#8 | .wideAlign => 2#8 | .widePair => 3#8 | .portMatch => 4#8
              | .lengthBounds => 5#8 | .enum => 6#8 | .burst => 7#8 | .listLength => 8#8
              | .verb => 9#8 | .operand => 10#8] ++ node origin)
         | .tableFault stored computed => (8#8, word32Bytes stored ++ word32Bytes computed)
         | .poolLow free => (9#8, beBytes 2 free)
         | .poolOk free => (10#8, beBytes 2 free)) ∧
    (∀ n : Word16, satInc n = if n = 0xFFFF#16 then n else n + 1#16) ∧
    ∀ f : RxFrame, puntPayload f =
      [1#8, 0x81#8, if f.record.ingress = .a then 1#8 else 2#8] ++
        word16Bytes (f.record.generation.getD 0#16) ++
        word16Bytes (match f.record.slot with | some n => BitVec.ofNat 16 n | none => 0xFFFF#16) ++
        word16Bytes f.record.flags ++
        (match f.record.disp.drop with
          | none => [0#8, 0#8]
          | some .fallbackBlock => [9#8, 0#8]
          | some .prefilterMiss => [10#8, 0#8]
          | some (.ruleDrop k) => [11#8, BitVec.ofNat 8 k.val]
          | some .hopExpired => [12#8, 0#8]
          | some .noDestination => [13#8, 0#8]) ++
        beBytes 2 f.record.rxLen ++ f.bytes.take (min 128 f.record.rxLen)

/-- The uptime count rises by one and wraps; the idle timer ends the session with reason EXPIRED. That
SESSION_IDLE_EXPIRY without a session leaves the part as it is is the model's choice (log 5). -/
def Obligations.UptimeAndIdleTimer : Prop :=
  ∀ s : State,
    (exec .uptimeCount s =
      .next { s with endpoint := { s.endpoint with uptime := s.endpoint.uptime + 1#32 } }) ∧
    (s.endpoint.session = none → exec .sessionIdleExpiry s = .next s) ∧
    ∀ o : Session, s.endpoint.session = some o →
      ∃ t, exec .sessionIdleExpiry s = .next t ∧
        t.endpoint = { s.endpoint with session := none } ∧
        { t with commons := s.commons, endpoint := s.endpoint } = s ∧
        PostedOn s s.commons t.commons (.sessionEnded .expired o.node o.number)

/-! ### Responses and refusals -/

/-- A response is the command's header echoed with status, detail and body. It joins its port's queue when
its cells are free and there is room, waits for either, and is counted RESP_LOST when its port is not
UP. The response of a RESTART then leaves the restart pending, or due at once when it is lost; a due FULL
restart gives the reset values with the straps as they stand, and without a due restart nothing
follows. Which rows settle a FULL restart with the straps State holds is the model's choice (log 8), and
so is that a foreign version is echoed (log 23). The header and the parameters stand in the payload in their
order; a command is the owner's by its source, port and session number, the replay copy answers an owner
command that carries the last sequence, and after an owner command the session holds its sequence, its
response as the replay copy and an idle timer of 100 ms times session_timeout. -/
def Obligations.ResponsesGoOut : Prop :=
  (∀ f : RxFrame,
    let tagctl := (byteAt f.bytes 6).toNat
    let payload := (f.bytes.drop (9 + 2 * tagctl)).take (u16At f.bytes (7 + 2 * tagctl)).toNat
    let c := readCommand f
    rxPayload f.bytes = payload ∧ c.src = f.record.src ∧ c.port = f.record.ingress ∧
      c.tags = f.record.tags ∧
      (4 ≤ payload.length → payload = [c.version, c.code, c.session, c.seq] ++ c.params)) ∧
  (∀ (s : State) (c : Command),
    (s.isOwner c = true ↔ ∃ o : Session, s.endpoint.session = some o ∧ c.src = o.node ∧
      c.port = o.port ∧ c.session = o.number) ∧
    ∀ r : Response, s.replayOf c = some r ↔ ∃ o : Session, s.endpoint.session = some o ∧
      c.src = o.node ∧ c.port = o.port ∧ c.session = o.number ∧ o.lastSeq = some c.seq ∧
      o.replay = some r) ∧
  (∀ (s t : State) (c : Command) (r : Reply),
    let restarted : Session → Session := fun o => { o with timer := 100 * t.endpoint.sessionTimeout }
    t.restartIdle =
      { t with endpoint := { t.endpoint with session := t.endpoint.session.map restarted } } ∧
    (answered s t c r).endpoint =
      if s.isOwner c = true then
        { t.endpoint with session := t.endpoint.session.map fun o =>
          { restarted o with
            lastSeq := some c.seq
            replay := some
              { version := c.version, command := c.code, session := r.session.getD c.session
                seq := c.seq, status := r.status, detail := r.detail, body := r.body } } }
      else t.endpoint) ∧
  (∀ (s : State) (c : Command) (r : Reply),
    let b : Built :=
      { port := c.port, builder := .response r.restart, dest := c.src, src := s.endpoint.nodeAddress
        tags := c.tags
        payload := [c.version, c.code, r.session.getD c.session, c.seq, r.status, r.detail] ++ r.body }
    let t := s.respond c r
    (s.commons.pool.freeReserve < b.cells →
      t = { s with commons := { s.commons with output := .claiming b } }) ∧
    (b.cells ≤ s.commons.pool.freeReserve → (s.port c.port).oper = .up →
      { t with commons := s.commons } = s ∧
      (4 ≤ (s.commons.mgmtOut c.port).length → t.commons.output = .offering b) ∧
      ((s.commons.mgmtOut c.port).length < 4 →
        t.commons.output = (match r.restart with | some k => .restartPending k | none => .idle) ∧
        ∃ more, t.commons.mgmtOut c.port = s.commons.mgmtOut c.port ++ b :: more)) ∧
    (b.cells ≤ s.commons.pool.freeReserve → (s.port c.port).oper ≠ .up →
      { t with commons := s.commons } = s ∧
      t.commons.output = (match r.restart with | some k => .restartDue k | none => .idle) ∧
      t.commons.mgmt.respLost = satInc s.commons.mgmt.respLost)) ∧
  ∀ (s : State) (straps : Straps),
    (s.commons.output = .restartDue .full → s.settleRestart straps =
      { State.afterReset straps s.portA.link s.portB.link .full with pending := s.pending }) ∧
    (s.commons.output = .restartDue .light → s.settleRestart straps = s.lightRestart) ∧
    (NoRestartDue s → s.settleRestart straps = s)

/-- A command frame leaves its queue; a short one is only counted; an unassigned code is answered
UNKNOWN_COMMAND; a foreign version is answered BAD_VERSION whichever row takes it, its version echoed (log
23), and a row that does not take it leaves the part as it is (log 5). The response comes after what the
release of the command frame made the event unit claim: the model's choice (log 20). -/
def Obligations.ShortUnknownAndForeignCommands : Prop :=
  (∀ (s : State) (id : Nat) (rest : List Nat), s.endpoint.commands = id :: rest →
    s.takeHead.endpoint = { s.endpoint with commands := rest } ∧
    s.takeHead.commons.frames = (Commons.dropHolder id s.commons.frames).1 ∧
    { s.takeHead with endpoint := s.endpoint, commons := s.commons } = s) ∧
  (∀ (s : State) (f : RxFrame), s.headFrame = some f → (rxPayload f.bytes).length < 4 →
    exec .malformedCommand s = .next { s.takeHead with commons := { s.takeHead.commons with
      mgmt := { s.takeHead.commons.mgmt with malformed := satInc s.commons.mgmt.malformed } } }) ∧
  ∀ (s : State) (f : RxFrame), Takes s f →
    let c := readCommand f
    let refusal : Byte → Reply := fun k =>
      { status := k, detail := 0#8, session := none, body := [], restart := none }
    (Fresh s c → (c.code = 0#8 ∨ 16 ≤ c.code.toNat) →
      exec .unknownCommand s = .next (answered s s.takeHead c (refusal 10#8))) ∧
    (c.version ≠ 1#8 → ∀ i : Instr, isCommandRow i = true →
      exec i s =
        .next (if rowTakes i c = true then s.takeHead.respond c (refusal 11#8) else s))

/-! ### The commands -/

/-- DISCOVER, READ_STATUS with the whole of its body, OPEN_SESSION, CLOSE_SESSION and RESTART. The model's
own, not the manual's: DISCOVER has no field for the ports (log 22); an event that the command posts is
claimed for before its response (log 20); absent positions and the absent listener (log 18); the counts of
READ_STATUS are those after the command frame's release (log 19); an OPEN_SESSION with the session's number
is recorded (log 16); a RESTART of an unknown kind belongs to both rows (log 15); RESTART_FULL reads the
straps State holds, where FULL_RESTART carries them (log 8). -/
def Obligations.SessionCommands : Prop :=
  ∀ (s : State) (f : RxFrame), Takes s f →
    let c := readCommand f
    let t := s.takeHead
    let ok : List Byte → Reply := fun body =>
      { status := 0#8, detail := 0#8, session := none, body := body, restart := none }
    let session : Byte := if s.endpoint.session.isSome then 1#8 else 0#8
    let owner : List Byte :=
      match s.endpoint.session with
      | some o => word16Bytes o.node ++ [if o.port = .a then 1#8 else 2#8]
      | none => [0xFF#8, 0xFF#8, 0xFF#8]
    Fresh s c →
    (c.code = 1#8 → exec .discover s = .next (answered s t c (ok
      ([0x0C#8, 0x5D#8, 0x00#8, 0x26#8, 0x01#8, 0x01#8, 0x02#8, 0x00#8] ++
        word16Bytes s.endpoint.nodeAddress ++ word16Bytes s.tables.generation ++
        [modeCode s.classifier.mode, ctlCode s.tables.state, session] ++ owner)))) ∧
    (c.code = 12#8 →
      let flag : Bool → Byte := fun x => if x then 1#8 else 0#8
      let place : Option RecordRef → List Byte := fun r =>
        match r with
        | some r => [tableCode r.table] ++ beBytes 2 r.index
        | none => [0#8, 0#8, 0#8]
      let port : Port → List Byte := fun p =>
        [flag (s.port p).enabled, flag (decide ((s.port p).link = .up)),
          match (s.port p).oper with | .disabled => 0#8 | .down => 1#8 | .up => 2#8]
      let egress : Port → List Byte := fun p =>
        ((List.finRange 4).flatMap fun k =>
          beBytes 2 (((s.port p).queue k).entries.map (·.cells)).sum) ++
        ((List.finRange 4).flatMap fun k => beBytes 2 ((s.port p).queue k).limit) ++
        beBytes 1 (t.commons.mgmtOut p).length ++ [flag (s.port p).tx.isSome]
      let listener : List Byte :=
        match s.commons.events.listener with
        | some l => word16Bytes l.node ++ [if l.port = .a then 1#8 else 2#8]
        | none => [0xFF#8, 0xFF#8, 0xFF#8]
      let body : List Byte :=
        word16Bytes s.tables.generation ++ word32Bytes s.tables.signature ++
        [match s.tables.state with | .editing => 0#8 | .signing _ _ => 1#8 | .copying _ => 2#8,
          flag s.tables.dirty] ++
        place (match s.tables.state with
          | .editing => none | .signing r _ => r | .copying r => r) ++
        word16Bytes (s.tables.origin.getD 0xFFFF#16) ++
        [match s.classifier.mode with | .unloaded => 0#8 | .normal => 1#8 | .faulted => 2#8,
          match s.verify.state with
          | .waiting _ => 0#8 | .sweeping _ _ => 1#8 | .stopped => 2#8] ++
        place (match s.verify.state with | .sweeping r _ => r | _ => none) ++
        port .a ++ port .b ++ beBytes 2 t.commons.pool.freeGeneral ++
        beBytes 1 t.commons.pool.freeReserve ++ [flag t.commons.pool.low] ++ egress .a ++ egress .b ++
        [1#8, session] ++ owner ++ word32Bytes s.endpoint.uptime ++ listener ++
        beBytes 1 t.commons.events.queue.length ++
        [flag (decide (t.commons.events.sender ≠ .idle))] ++
        beBytes 1 t.commons.events.puntQueue.length
      body.length = 79 ∧ exec .readStatus s = .next (answered s t c (ok body))) ∧
    (c.code = 2#8 →
      (s.endpoint.session = none →
        let number : Byte :=
          if s.endpoint.lastNumber = 255#8 then 1#8 else s.endpoint.lastNumber + 1#8
        let opened : Session :=
          { node := c.src, port := c.port, number := number, lastSeq := none, replay := none
            cursor := none, timer := 100 * s.endpoint.sessionTimeout }
        let u : State := { t with
          endpoint := { t.endpoint with session := some opened, lastNumber := number } }
        exec .openSession s = .next ((u.post (.sessionOpened c.src c.port number)).respond c
          { ok ([number] ++ beBytes 2 s.endpoint.sessionTimeout) with session := some number })) ∧
      (∀ o : Session, s.endpoint.session = some o → (c.src = o.node ∧ c.port = o.port) →
        exec .openSession s = .next (answered s t.restartIdle c
          { ok ([o.number] ++ beBytes 2 s.endpoint.sessionTimeout) with session := some o.number })) ∧
      (∀ o : Session, s.endpoint.session = some o → ¬(c.src = o.node ∧ c.port = o.port) →
        exec .openSession s = .next (t.respond c
          { status := 2#8, detail := if o.port = .a then 1#8 else 2#8, session := none
            body := owner, restart := none }))) ∧
    (∀ o : Session, s.endpoint.session = some o → s.isOwner c = true → c.code = 3#8 →
      let u : State := { t with endpoint := { t.endpoint with session := none } }
      exec .closeSession s =
        .next ((u.post (.sessionEnded .closed o.node o.number)).respond c (ok []))) ∧
    (s.isOwner c = true → c.code = 15#8 → 1 ≤ c.params.length →
      (byteAt c.params 0 = 1#8 →
        ((s.port c.port).oper = .up ∨ t.commons.pool.freeReserve = 0 →
          exec .restartLight s = .next (answered s t c { ok [] with restart := some .light })) ∧
        ((s.port c.port).oper ≠ .up → 1 ≤ t.commons.pool.freeReserve →
          ∃ u, exec .restartLight s = .next u ∧ exec (.lightRestart .lostAtOnce) s = .next u ∧
            u.tables.state = .editing ∧ u.commons.output = .idle ∧ u.commons.frames = [] ∧
            u.endpoint = { s.endpoint with commands := [], session := none } ∧
            u.commons.mgmt.respLost = satInc s.commons.mgmt.respLost)) ∧
      (byteAt c.params 0 = 2#8 →
        ((s.port c.port).oper = .up ∨ t.commons.pool.freeReserve = 0 →
          exec .restartFull s = .next (answered s t c { ok [] with restart := some .full })) ∧
        ((s.port c.port).oper ≠ .up → 1 ≤ t.commons.pool.freeReserve →
          let after : Straps → State := fun straps =>
            { State.afterReset straps s.portA.link s.portB.link .full with pending := s.pending }
          exec .restartFull s = .next (after s.straps) ∧
            ∀ straps, exec (.fullRestart .lostAtOnce straps) s = .next (after straps))) ∧
      (byteAt c.params 0 ≠ 1#8 → byteAt c.params 0 ≠ 2#8 →
        exec .restartLight s = .next (answered s t c { ok [] with status := 8#8 }) ∧
        exec .restartFull s = .next (answered s t c { ok [] with status := 8#8 }))) ∧
    (s.isOwner c = true → c.code = 15#8 → c.params = [] →
      exec .restartLight s = .next (answered s t c { ok [] with status := 7#8 }) ∧
      exec .restartFull s = .next (answered s t c { ok [] with status := 7#8 }))

/-- GET_SETTING and the eight rows of SET_SETTING: the value a setting holds or takes, BAD_VALUE for an
unknown setting, a qualifier out of range and a value out of range, BAD_LENGTH for a payload that ends
early; and the POOL_LOW or POOL_OK that a new mark posts. What a change of port_enable does to the port
(`State.changePort`) is said by LinkPinMovesThePort. That a response comes after what the event unit
claims for the command's own events, as in SET_PORT_ENABLE and the two marks, is the model's choice
(log 20); so is that an unknown setting belongs to every row (log 15). That a short payload is BAD_LENGTH
whatever its bytes hold is its inference (log 27). -/
def Obligations.SettingCommands : Prop :=
  ∀ (s : State) (f : RxFrame), Takes s f →
    let c := readCommand f
    let t := s.takeHead
    let code := byteAt c.params 0
    let q := byteAt c.params 1
    let v := (u16At c.params 2).toNat
    let value : Nat → Reply := fun n =>
      { status := 0#8, detail := 0#8, session := none, body := [code, q] ++ beBytes 2 n
        restart := none }
    let badValue : Reply :=
      { status := 8#8, detail := 0#8, session := none, body := [], restart := none }
    let badLength : Reply := { badValue with status := 7#8 }
    let badQualifier : Prop :=
      ((code = 1#8 ∨ code = 2#8 ∨ code = 3#8 ∨ code = 7#8 ∨ code = 8#8) ∧ q ≠ 0#8) ∨
      ((code = 4#8 ∨ code = 5#8) ∧ q ≠ 0x10#8 ∧ q ≠ 0x20#8) ∨
      (code = 6#8 ∧ ∀ k : Fin 4, q ≠ 0x10#8 + BitVec.ofNat 8 k.val ∧
        q ≠ 0x20#8 + BitVec.ofNat 8 k.val)
    let portByte : Port → Byte := fun p => if p = .a then 0x10#8 else 0x20#8
    Fresh s c →
    (c.code = 4#8 → 2 ≤ c.params.length →
      (code = 1#8 → q = 0#8 →
        exec .getSetting s = .next (answered s t c (value s.endpoint.nodeAddress.toNat))) ∧
      (code = 2#8 → q = 0#8 →
        exec .getSetting s = .next (answered s t c (value s.endpoint.sessionTimeout))) ∧
      (code = 3#8 → q = 0#8 →
        exec .getSetting s = .next (answered s t c (value s.verify.period))) ∧
      (∀ p : Port, code = 4#8 → q = portByte p →
        exec .getSetting s = .next (answered s t c
          (value (if s.classifier.fallback p = .block then 1 else 0)))) ∧
      (∀ p : Port, code = 5#8 → q = portByte p →
        exec .getSetting s = .next (answered s t c
          (value (if (s.port p).enabled then 1 else 0)))) ∧
      (∀ (p : Port) (k : Fin 4), code = 6#8 → q = portByte p + BitVec.ofNat 8 k.val →
        exec .getSetting s = .next (answered s t c (value ((s.port p).queue k).limit))) ∧
      (code = 7#8 → q = 0#8 →
        exec .getSetting s = .next (answered s t c (value s.commons.pool.lowMark))) ∧
      (code = 8#8 → q = 0#8 →
        exec .getSetting s = .next (answered s t c (value s.commons.pool.highMark))) ∧
      (code = 0#8 ∨ 9 ≤ code.toNat ∨ badQualifier →
        exec .getSetting s = .next (answered s t c badValue))) ∧
    (c.code = 4#8 → c.params.length < 2 →
      exec .getSetting s = .next (answered s t c badLength)) ∧
    (∀ i ∈ [Instr.setNodeAddress, .setSessionTimeout, .setVerifyPeriod, .setFallback, .setPortEnable,
        .setQueueLimit, .setPoolLowMark, .setPoolHighMark],
      s.isOwner c = true → rowTakes i c = true →
      (c.params.length < 4 → exec i s = .next (answered s t c badLength)) ∧
      (4 ≤ c.params.length → (code = 0#8 ∨ 9 ≤ code.toNat ∨ badQualifier) →
        exec i s = .next (answered s t c badValue))) ∧
    (s.isOwner c = true → c.code = 5#8 → 4 ≤ c.params.length →
      (code = 1#8 → q = 0#8 → exec .setNodeAddress s = .next (
        if 1 ≤ v ∧ v ≤ 0xFFFD then
          answered s { t with endpoint := { t.endpoint with nodeAddress := BitVec.ofNat 16 v } } c
            (value v)
        else answered s t c badValue)) ∧
      (code = 2#8 → q = 0#8 → exec .setSessionTimeout s = .next (
        if 1 ≤ v ∧ v ≤ 600 then
          answered s { t with endpoint := { t.endpoint with sessionTimeout := v } } c (value v)
        else answered s t c badValue)) ∧
      (code = 3#8 → q = 0#8 →
        ((v = 0 ∨ (10 ≤ v ∧ v ≤ 60000)) → ∃ st : VerifyState,
          exec .setVerifyPeriod s = .next (answered s
            { t with verify := { t.verify with period := v, state := st } } c (value v)) ∧
          (v = 0 → st = .stopped) ∧
          (v ≠ 0 →
            (∀ n : Nat, s.verify.state = .waiting n → st = .waiting v) ∧
            (∀ pos check, s.verify.state = .sweeping pos check → st = .sweeping pos check) ∧
            (s.verify.state = .stopped →
              st = if s.classifier.mode = .normal then .waiting v else .stopped))) ∧
        (¬(v = 0 ∨ (10 ≤ v ∧ v ≤ 60000)) →
          exec .setVerifyPeriod s = .next (answered s t c badValue))) ∧
      (∀ p : Port, code = 4#8 → q = portByte p → exec .setFallback s = .next (
        if v ≤ 1 then
          let k := t.classifier.setFallback p (if v = 1 then .block else .pass)
          answered s { t with classifier := k } c (value v)
        else answered s t c badValue)) ∧
      (∀ p : Port, code = 5#8 → q = portByte p → exec .setPortEnable s = .next (
        if v ≤ 1 then
          answered s (t.changePort p { t.port p with enabled := decide (v = 1) }) c (value v)
        else answered s t c badValue)) ∧
      (∀ (p : Port) (k : Fin 4), code = 6#8 → q = portByte p + BitVec.ofNat 8 k.val →
        exec .setQueueLimit s = .next (
          if v ≤ 512 then
            answered s (t.setPort p ((t.port p).setQueue k { (t.port p).queue k with limit := v })) c
              (value v)
          else answered s t c badValue)) ∧
      (code = 7#8 → q = 0#8 →
        (v < s.commons.pool.highMark → v ≤ 511 → ∃ u : State,
          exec .setPoolLowMark s = .next (answered s u c (value v)) ∧
          PoolEvaluated t { t.commons with pool := { t.commons.pool with lowMark := v } } u.commons ∧
          { u with commons := t.commons } = t) ∧
        (s.commons.pool.highMark ≤ v ∨ 512 ≤ v →
          exec .setPoolLowMark s = .next (answered s t c badValue))) ∧
      (code = 8#8 → q = 0#8 →
        (s.commons.pool.lowMark < v → v ≤ 512 → ∃ u : State,
          exec .setPoolHighMark s = .next (answered s u c (value v)) ∧
          PoolEvaluated t { t.commons with pool := { t.commons.pool with highMark := v } } u.commons ∧
          { u with commons := t.commons } = t) ∧
        (v ≤ s.commons.pool.lowMark ∨ 512 < v →
          exec .setPoolHighMark s = .next (answered s t c badValue))))

/-- READ_TABLE, READ_NEXT, WRITE_TABLE, COMMIT and ABORT_EDIT: what each reads, writes or begins, and the
refusals in the order of the checks. The order among BAD_TABLE, BAD_VALUE and BAD_INDEX of a READ_TABLE is
the model's inference (log 26), and so is that a short payload is BAD_LENGTH whatever its bytes hold (log
27). The response comes after what the release of the command frame made the
event unit claim: the model's choice (log 20). -/
def Obligations.TableCommands : Prop :=
  ∀ (s : State) (f : RxFrame), Takes s f →
    let c := readCommand f
    let t := s.takeHead
    let ok : List Byte → Reply := fun body =>
      { status := 0#8, detail := 0#8, session := none, body := body, restart := none }
    let refusal : Byte → Reply := fun k => { ok [] with status := k }
    let read : Bank → Table → Nat → Nat → Reply := fun b tb start n =>
      ok (beBytes 2 (start + n) ++ beBytes 1 n ++
        b.readBytes (recordOffset tb start) (n * recordSize tb))
    Fresh s c →
    (c.code = 6#8 → c.params.length < 6 →
      exec .readTable s = .next (answered s t c (refusal 7#8))) ∧
    (c.code = 8#8 → s.isOwner c = true → c.params.length < 3 →
      exec .writeTable s = .next (answered s t c (refusal 7#8))) ∧
    (c.code = 6#8 → 6 ≤ c.params.length →
      let role := byteAt c.params 1
      let start := (u16At c.params 2).toNat
      let count := (u16At c.params 4).toNat
      (tableOfCode (byteAt c.params 0) = none →
        exec .readTable s = .next (answered s t c (refusal 5#8))) ∧
      ∀ tb : Table, tableOfCode (byteAt c.params 0) = some tb →
        (2 ≤ role.toNat ∨ count = 0 → exec .readTable s = .next (answered s t c (refusal 8#8))) ∧
        (role.toNat ≤ 1 → count ≠ 0 →
          recordCount tb ≤ start ∨ recordCount tb < start + count →
          exec .readTable s = .next (answered s t c (refusal 6#8))) ∧
        (role.toNat ≤ 1 → count ≠ 0 → start < recordCount tb → start + count ≤ recordCount tb →
          let n := min count (237 / recordSize tb)
          let b := if role = 0#8 then s.tables.activeBank else s.tables.shadowBank
          let r : Role := if role = 0#8 then .active else .shadow
          let cur : Cursor := { table := tb, role := r, next := start + n }
          (s.isOwner c = false → exec .readTable s = .next (answered s t c (read b tb start n))) ∧
          (s.isOwner c = true → exec .readTable s = .next (answered s
            (t.withSession fun o => { o with cursor := some cur }) c (read b tb start n))))) ∧
    (c.code = 7#8 → ∀ o : Session, s.endpoint.session = some o → s.isOwner c = true →
      (o.cursor = none → exec .readNext s = .next (answered s t c (refusal 8#8))) ∧
      ∀ cur : Cursor, o.cursor = some cur →
        let n := min (recordCount cur.table - cur.next) (237 / recordSize cur.table)
        let b := if cur.role = .active then s.tables.activeBank else s.tables.shadowBank
        exec .readNext s = .next (answered s
          (t.withSession fun o => { o with cursor := some { cur with next := cur.next + n } }) c
          (read b cur.table cur.next n))) ∧
    (c.code = 8#8 → s.isOwner c = true → 3 ≤ c.params.length →
      let start := (u16At c.params 1).toNat
      let body := c.params.drop 3
      (s.tables.state ≠ .editing → exec .writeTable s = .next (answered s t c (refusal 2#8))) ∧
      (s.tables.state = .editing → tableOfCode (byteAt c.params 0) = none →
        exec .writeTable s = .next (answered s t c (refusal 5#8))) ∧
      ∀ tb : Table, s.tables.state = .editing → tableOfCode (byteAt c.params 0) = some tb →
        (body = [] ∨ body.length % recordSize tb ≠ 0 →
          exec .writeTable s = .next (answered s t c (refusal 7#8))) ∧
        (body ≠ [] → body.length % recordSize tb = 0 →
          recordCount tb < start + body.length / recordSize tb →
          exec .writeTable s = .next (answered s t c (refusal 6#8))) ∧
        (body ≠ [] → body.length % recordSize tb = 0 →
          start + body.length / recordSize tb ≤ recordCount tb → BanksCanonical s →
          ∃ u : Controller, exec .writeTable s = .next (answered s { t with tables := u } c (ok [])) ∧
            u.dirty = true ∧ u.activeBank = s.tables.activeBank ∧
            (∀ k < body.length,
              u.shadowBank.read (recordOffset tb start + k) = byteAt body k) ∧
            (∀ a : Nat, (a < recordOffset tb start ∨ recordOffset tb start + body.length ≤ a) →
              u.shadowBank.read a = s.tables.shadowBank.read a) ∧
            { u with dirty := s.tables.dirty, bank0 := s.tables.bank0, bank1 := s.tables.bank1 } =
              s.tables)) ∧
    (c.code = 9#8 → s.isOwner c = true →
      let pending : Word16 :=
        if s.tables.generation = 65535#16 then 1#16 else s.tables.generation + 1#16
      exec .commit s = .next (
        if s.tables.state = .editing then
          answered s { t with tables := { t.tables with
            state := .signing (some { table := .policy, index := 0 }) 0xFFFFFFFF#32
            origin := some c.src } } c { ok (word16Bytes pending) with status := 1#8 }
        else answered s t c (refusal 2#8))) ∧
    (c.code = 10#8 → s.isOwner c = true →
      (∀ pos, s.tables.state = .copying pos → exec .abortEdit s = .next (answered s t c (ok []))) ∧
      ((∀ pos, s.tables.state ≠ .copying pos) →
        exec .abortEdit s = .next (
          if s.classifier.mode = .faulted then answered s t c (refusal 9#8)
          else answered s { t with tables := { t.tables with
            state := .copying (some { table := .policy, index := 0 }) } } c (refusal 1#8))))

/-- The six groups of READ_COUNTERS: the values read, and the counts that the owner's read with clear sets
to zero, which are those it returns; and the refusals: permission of a read with clear first, then group,
length, clear byte, selector and range. The order of those after the permission is the model's inference
(log 14), so is BAD_LENGTH first for a payload that ends before its clear byte (log 27), and so is that a read
naming no group belongs to every row (log 15). The response comes after what
the release of the command frame made the event unit claim: the model's choice (log 20). -/
def Obligations.CounterCommands : Prop :=
  ∀ (s : State) (f : RxFrame), Takes s f →
    let c := readCommand f
    let t := s.takeHead
    let group := byteAt c.params 0
    let sel := byteAt c.params 1
    let clear := byteAt c.params 2
    let first := (u16At c.params 3).toNat
    let count := (u16At c.params 5).toNat
    let ok : List Byte → Reply := fun body =>
      { status := 0#8, detail := 0#8, session := none, body := body, restart := none }
    let refused : Instr → Byte → Prop := fun i k =>
      exec i s = .next (answered s t c { ok [] with status := k })
    Fresh s c → c.code = 11#8 →
    (∀ i ∈ [Instr.readCountersHits, .readCountersPort, .readCountersMeter, .readCountersPrefilter,
        .readCountersMgmt, .readCountersIntegrity], rowTakes i c = true →
      (c.params.length < 3 → refused i 7#8) ∧
      (3 ≤ c.params.length → clear ≠ 0#8 → s.isOwner c = false →
        refused i (if s.endpoint.session.isSome then 3#8 else 4#8)) ∧
      (3 ≤ c.params.length → clear = 0#8 ∨ s.isOwner c = true →
        (group = 0#8 ∨ 7 ≤ group.toNat → refused i 8#8) ∧
        (group = 1#8 ∨ group = 3#8 → c.params.length < 7 → refused i 7#8) ∧
        (1 ≤ group.toNat → group.toNat ≤ 6 →
          (group = 1#8 ∨ group = 3#8 → 7 ≤ c.params.length) →
          (2 ≤ clear.toNat → refused i 8#8) ∧
          (clear.toNat ≤ 1 →
            (group = 1#8 → 2 ≤ sel.toNat → refused i 8#8) ∧
            (group = 2#8 → sel ≠ 1#8 → sel ≠ 2#8 → refused i 8#8) ∧
            (group = 1#8 → sel.toNat ≤ 1 → clear = 0#8 ∨ sel = 0#8 →
              (count = 0 → refused i 8#8) ∧
              (count ≠ 0 → 512 < first + count → refused i 6#8)) ∧
            (group = 3#8 →
              (count = 0 → refused i 8#8) ∧
              (count ≠ 0 → 64 < first + count → refused i 6#8)))))) ∧
    (3 ≤ c.params.length →
    (group = 1#8 → 7 ≤ c.params.length → count ≠ 0 → first + count ≤ 512 →
      let n := min count 21
      let body : Vector HitCounter 512 → List Byte := fun hits =>
        word16Bytes s.tables.generation ++ [sel] ++ beBytes 2 first ++ beBytes 1 n ++
          ((hits.toList.drop first).take n).flatMap fun h =>
            beBytes 5 h.frames.toNat ++ beBytes 6 h.bytes.toNat
      (clear = 0#8 →
        (sel = 0#8 →
          exec .readCountersHits s = .next (answered s t c (ok (body s.classifier.current)))) ∧
        (sel = 1#8 →
          exec .readCountersHits s = .next (answered s t c (ok (body s.classifier.previous))))) ∧
      (clear = 1#8 → s.isOwner c = true →
        (sel = 0#8 → ∃ hits : Vector HitCounter 512,
          exec .readCountersHits s = .next (answered s
            { t with classifier := { t.classifier with current := hits } } c
            (ok (body s.classifier.current))) ∧
          ∀ k : Fin 512, hits[k] = if first ≤ k.val ∧ k.val < first + n then
            { frames := 0#40, bytes := 0#48 } else s.classifier.current[k]) ∧
        (sel = 1#8 →
          exec .readCountersHits s = .next (answered s t c { ok [] with status := 8#8 })))) ∧
    (∀ p : Port, group = 2#8 → sel = (if p = .a then 1#8 else 2#8) →
      let body := (s.port p).counters.toList.flatMap word32Bytes
      (clear = 0#8 → exec .readCountersPort s = .next (answered s t c (ok body))) ∧
      (clear = 1#8 → s.isOwner c = true →
        exec .readCountersPort s = .next (answered s
          (t.setPort p { t.port p with counters := Vector.replicate 38 0#32 }) c (ok body)))) ∧
    (group = 3#8 → 7 ≤ c.params.length → count ≠ 0 → first + count ≤ 64 →
      let n := min count 19
      let body := beBytes 1 first ++ beBytes 1 n ++
        ((s.meters.toList.drop first).take n).flatMap fun m =>
          beBytes 4 m.tokens ++ word32Bytes m.green ++ word32Bytes m.red
      (clear = 0#8 → exec .readCountersMeter s = .next (answered s t c (ok body))) ∧
      (clear = 1#8 → s.isOwner c = true → ∃ ms : Vector Meter 64,
        exec .readCountersMeter s = .next (answered s { t with meters := ms } c (ok body)) ∧
        ∀ k : Fin 64, ms[k] = if first ≤ k.val ∧ k.val < first + n then
          { s.meters[k] with green := 0#32, red := 0#32 } else s.meters[k])) ∧
    (group = 4#8 →
      let body := word32Bytes s.prefilter.hits ++ word32Bytes s.prefilter.misses ++
        word32Bytes s.prefilter.bypasses
      (clear = 0#8 → exec .readCountersPrefilter s = .next (answered s t c (ok body))) ∧
      (clear = 1#8 → s.isOwner c = true →
        exec .readCountersPrefilter s = .next (answered s
          { t with prefilter := { hits := 0#32, misses := 0#32, bypasses := 0#32 } } c
          (ok body)))) ∧
    (group = 5#8 →
      let m := t.commons.mgmt
      let body := word32Bytes m.overrun ++ word32Bytes m.malformed ++ word32Bytes m.respLost ++
        word32Bytes m.eventsLost ++ word32Bytes m.puntsSent
      let zero : MgmtCounters :=
        { overrun := 0#32, malformed := 0#32, respLost := 0#32, eventsLost := 0#32
          puntsSent := 0#32 }
      (clear = 0#8 → exec .readCountersMgmt s = .next (answered s t c (ok body))) ∧
      (clear = 1#8 → s.isOwner c = true →
        exec .readCountersMgmt s = .next (answered s
          { t with commons := { t.commons with mgmt := zero } } c (ok body)))) ∧
    (group = 6#8 →
      let fault : List Byte :=
        match s.verify.lastFault with
        | some x => word16Bytes x.generation ++ word32Bytes x.stored ++ word32Bytes x.computed
        | none => [0#8, 0#8, 0#8, 0#8, 0#8, 0#8, 0#8, 0#8, 0#8, 0#8]
      let body := word32Bytes s.verify.passes ++ word32Bytes s.verify.faults ++
        [match s.verify.lastResult with | .none => 0#8 | .pass => 1#8 | .fail => 2#8] ++ fault
      (clear = 0#8 → exec .readCountersIntegrity s = .next (answered s t c (ok body))) ∧
      (clear = 1#8 → s.isOwner c = true →
        exec .readCountersIntegrity s = .next (answered s
          { t with verify := { t.verify with passes := 0#32, faults := 0#32 } } c (ok body)))))

/-- SET_LISTENER gives the event unit its new listener; a head that waited is sent to it from retry count 0
with its captured value, and an idle sender begins a send, if its port is UP. None stops the sender and
flushes the punt queue, each entry counted at its frame's ingress port and its holder released. ACK_EVENT
from the listener removes the head it names, takes its captured value off the lost count and begins the next
send. That the punt side is idle after SET_LISTENER rests on two inferences of the model: PUNT_TAKE is a
happening of its own (log 7), and what remains waiting is looked at in the happening itself (log 17); that a
short SET_LISTENER is BAD_LENGTH whatever its bytes hold is one too (log 27); that
the response comes after what the event unit claims is its choice (log 20). -/
def Obligations.ListenerCommands : Prop :=
  ∀ (s : State) (f : RxFrame), Takes s f →
    let c := readCommand f
    let t := s.takeHead
    let ok : Reply := { status := 0#8, detail := 0#8, session := none, body := [], restart := none }
    Fresh s c →
    (s.isOwner c = true → c.code = 13#8 → 3 ≤ c.params.length →
      let node := u16At c.params 0
      (∀ p : Port, byteAt c.params 2 = (if p = .a then 1#8 else 2#8) →
        (1 ≤ node.toNat → node.toNat ≤ 0xFFFD →
          ∃ u : State, exec .setListener s = .next (answered s u c ok) ∧
            { u with commons := t.commons } = t ∧
            u.commons.events.listener = some { node := node, port := p } ∧
            u.commons.events.queue = t.commons.events.queue ∧
            u.commons.events.lost = t.commons.events.lost ∧
            u.commons.events.nextSeq = t.commons.events.nextSeq ∧
            u.commons.events.puntQueue = t.commons.events.puntQueue ∧
            u.commons.events.punt = .idle ∧ u.commons.frames = t.commons.frames ∧
            u.commons.mgmtOut (otherPort p) = t.commons.mgmtOut (otherPort p) ∧
            (∀ w : Awaiting, t.commons.events.sender = .awaiting w →
              ∃ x : Awaiting, u.commons.events.sender = .awaiting x ∧ x.retry = 0 ∧
                x.captured = w.captured) ∧
            ((s.port p).oper = .up → (t.commons.mgmtOut p).length < 4 →
              1 ≤ t.commons.pool.freeReserve →
              ∀ (r : EventRecord) (rest : List EventRecord), t.commons.events.queue = r :: rest →
              let captured := match t.commons.events.sender with
                | .awaiting w => w.captured
                | .idle => t.commons.events.lost
              u.commons.events.sender = .awaiting
                { retry := 0, captured := captured, timer := true, flight := .queued } ∧
              u.commons.mgmtOut p = t.commons.mgmtOut p ++
                [eventReport { node := node, port := p } s.endpoint.nodeAddress r captured]) ∧
            ((s.port p).oper ≠ .up →
              u.commons.mgmtOut p = t.commons.mgmtOut p ∧
              u.commons.events.sender =
                match t.commons.events.sender with
                | .awaiting w =>
                  .awaiting { retry := 0, captured := w.captured, timer := false, flight := .none }
                | .idle => .idle)) ∧
        (node = 0#16 ∨ 0xFFFE ≤ node.toNat →
          exec .setListener s = .next (answered s t c { ok with status := 8#8 }))) ∧
      (3 ≤ (byteAt c.params 2).toNat →
        exec .setListener s = .next (answered s t c { ok with status := 8#8 })) ∧
      (byteAt c.params 2 = 0#8 →
        ∃ (u : State) (more : List EventRecord),
          exec .setListenerNone s = .next (answered s u c ok) ∧
          u.commons.events.listener = none ∧ u.commons.events.sender = .idle ∧
          u.commons.events.puntQueue = [] ∧ u.commons.events.punt = .idle ∧
          u.commons.events.queue = t.commons.events.queue ++ more ∧
          { u with commons := t.commons, portA := t.portA, portB := t.portB } = t ∧
          (∀ (p : Port) (k : PortCounter), k ≠ .puntNoListener →
            (u.port p).counter k = (t.port p).counter k) ∧
          u.commons.frames = t.commons.events.puntQueue.foldl
            (fun frames id => (Commons.dropHolder id frames).1) t.commons.frames ∧
          (HoldersCounted s → ∀ p : Port,
            (u.port p).counter .puntNoListener =
              Nat.repeat satInc
                (t.commons.events.puntQueue.filter fun id => decide
                  ((t.commons.frame? id).map (·.record.ingress) = some p)).length
                ((t.port p).counter .puntNoListener)) ∧
          (t.commons.events.puntQueue = [] → u.portA = t.portA ∧ u.portB = t.portB ∧
            u.commons.frames = t.commons.frames))) ∧
    (s.isOwner c = true → c.code = 13#8 → c.params.length < 3 →
      exec .setListener s = .next (answered s t c { ok with status := 7#8 })) ∧
    (c.code = 14#8 → c.params.length < 2 →
      exec .ackEvent s = .next (answered s t c
        { ok with status := if s.isListener c then 7#8 else 3#8 })) ∧
    (c.code = 14#8 → 2 ≤ c.params.length →
      (s.isListener c = false →
        exec .ackEvent s = .next (answered s t c { ok with status := 3#8 })) ∧
      (s.isListener c = true → t.commons.events.sender = .idle →
        exec .ackEvent s = .next (answered s t c { ok with status := 8#8 })) ∧
      ∀ (w : Awaiting) (r : EventRecord) (rest : List EventRecord), s.isListener c = true →
        t.commons.events.sender = .awaiting w → t.commons.events.queue = r :: rest →
        (r.seq ≠ u16At c.params 0 →
          exec .ackEvent s = .next (answered s t c { ok with status := 8#8 })) ∧
        (r.seq = u16At c.params 0 → t.commons.events.punt ≠ .claiming →
          ∃ u : State, exec .ackEvent s = .next (answered s u c ok) ∧
            { u with commons := t.commons } = t ∧ u.commons.events.queue = rest ∧
            u.commons.events.listener = t.commons.events.listener ∧
            u.commons.events.nextSeq = t.commons.events.nextSeq ∧
            u.commons.events.lost =
              (if w.captured ≤ t.commons.events.lost then t.commons.events.lost - w.captured
                else 0#16) ∧
            ((rest = [] ∨ ∀ l : Listener, t.commons.events.listener = some l →
                (s.port l.port).oper ≠ .up) → u.commons.events.sender = .idle) ∧
            ∀ (l : Listener) (r2 : EventRecord) (more : List EventRecord),
              t.commons.events.listener = some l → rest = r2 :: more →
              (s.port l.port).oper = .up → t.commons.events.punt = .idle →
              (t.commons.mgmtOut l.port).length < 4 → 1 ≤ t.commons.pool.freeReserve →
              u.commons.events.sender = .awaiting
                { retry := 0, captured := u.commons.events.lost, timer := true
                  flight := .queued } ∧
              u.commons.mgmtOut l.port = t.commons.mgmtOut l.port ++
                [eventReport l s.endpoint.nodeAddress r2 u.commons.events.lost]))
end

