-- ==== Sys2Proof/Laws/State.lean ====
section
/-! SUPPORT. What each update of a part of the state leaves as it was, and what it sets: the small lemmas
that later proofs use instead of unfolding a record update. -/

namespace Sys2Proof.Machine

set_option Elab.async false

/-! ### The part -/

@[simp] theorem State.onCommons_pending (g : Env → Commons → Commons) (s : State) :
    (s.onCommons g).pending = s.pending := rfl
@[simp] theorem State.onCommons_straps (g : Env → Commons → Commons) (s : State) :
    (s.onCommons g).straps = s.straps := rfl
@[simp] theorem State.onCommons_portA (g : Env → Commons → Commons) (s : State) :
    (s.onCommons g).portA = s.portA := rfl
@[simp] theorem State.onCommons_portB (g : Env → Commons → Commons) (s : State) :
    (s.onCommons g).portB = s.portB := rfl
@[simp] theorem State.onCommons_endpoint (g : Env → Commons → Commons) (s : State) :
    (s.onCommons g).endpoint = s.endpoint := rfl
@[simp] theorem State.onCommons_classifier (g : Env → Commons → Commons) (s : State) :
    (s.onCommons g).classifier = s.classifier := rfl
@[simp] theorem State.onCommons_prefilter (g : Env → Commons → Commons) (s : State) :
    (s.onCommons g).prefilter = s.prefilter := rfl
@[simp] theorem State.onCommons_meters (g : Env → Commons → Commons) (s : State) :
    (s.onCommons g).meters = s.meters := rfl
@[simp] theorem State.onCommons_tables (g : Env → Commons → Commons) (s : State) :
    (s.onCommons g).tables = s.tables := rfl
@[simp] theorem State.onCommons_verify (g : Env → Commons → Commons) (s : State) :
    (s.onCommons g).verify = s.verify := rfl
@[simp] theorem State.onCommons_commons (g : Env → Commons → Commons) (s : State) :
    (s.onCommons g).commons = g s.env s.commons := rfl
@[simp] theorem State.onCommons_port (g : Env → Commons → Commons) (s : State) (p : Port) :
    (s.onCommons g).port p = s.port p := by
  cases p <;> rfl
@[simp] theorem State.onCommons_env (g : Env → Commons → Commons) (s : State) :
    (s.onCommons g).env = s.env := rfl

@[simp] theorem State.setPort_pending (s : State) (p : Port) (u : PortUnit) :
    (s.setPort p u).pending = s.pending := by
  cases p <;> rfl
@[simp] theorem State.setPort_straps (s : State) (p : Port) (u : PortUnit) :
    (s.setPort p u).straps = s.straps := by
  cases p <;> rfl
@[simp] theorem State.setPort_commons (s : State) (p : Port) (u : PortUnit) :
    (s.setPort p u).commons = s.commons := by
  cases p <;> rfl
@[simp] theorem State.setPort_endpoint (s : State) (p : Port) (u : PortUnit) :
    (s.setPort p u).endpoint = s.endpoint := by
  cases p <;> rfl
@[simp] theorem State.setPort_classifier (s : State) (p : Port) (u : PortUnit) :
    (s.setPort p u).classifier = s.classifier := by
  cases p <;> rfl
@[simp] theorem State.setPort_prefilter (s : State) (p : Port) (u : PortUnit) :
    (s.setPort p u).prefilter = s.prefilter := by
  cases p <;> rfl
@[simp] theorem State.setPort_meters (s : State) (p : Port) (u : PortUnit) :
    (s.setPort p u).meters = s.meters := by
  cases p <;> rfl
@[simp] theorem State.setPort_tables (s : State) (p : Port) (u : PortUnit) :
    (s.setPort p u).tables = s.tables := by
  cases p <;> rfl
@[simp] theorem State.setPort_verify (s : State) (p : Port) (u : PortUnit) :
    (s.setPort p u).verify = s.verify := by
  cases p <;> rfl
@[simp] theorem State.setPort_port (s : State) (p : Port) (u : PortUnit) :
    (s.setPort p u).port p = u := by
  cases p <;> rfl
@[simp] theorem State.setPort_port_other (s : State) (p : Port) (u : PortUnit) :
    (s.setPort p u).port (otherPort p) = s.port (otherPort p) := by
  cases p <;> rfl
@[simp] theorem State.setPort_same (s : State) (p : Port) :
    s.setPort p (s.port p) = s := by
  cases p <;> rfl
@[simp] theorem State.setPort_setPort (s : State) (p : Port) (u v : PortUnit) :
    (s.setPort p u).setPort p v = s.setPort p v := by
  cases p <;> rfl

@[simp] theorem State.withSession_pending (s : State) (g : Session → Session) :
    (s.withSession g).pending = s.pending := rfl
@[simp] theorem State.withSession_straps (s : State) (g : Session → Session) :
    (s.withSession g).straps = s.straps := rfl
@[simp] theorem State.withSession_portA (s : State) (g : Session → Session) :
    (s.withSession g).portA = s.portA := rfl
@[simp] theorem State.withSession_portB (s : State) (g : Session → Session) :
    (s.withSession g).portB = s.portB := rfl
@[simp] theorem State.withSession_commons (s : State) (g : Session → Session) :
    (s.withSession g).commons = s.commons := rfl
@[simp] theorem State.withSession_classifier (s : State) (g : Session → Session) :
    (s.withSession g).classifier = s.classifier := rfl
@[simp] theorem State.withSession_prefilter (s : State) (g : Session → Session) :
    (s.withSession g).prefilter = s.prefilter := rfl
@[simp] theorem State.withSession_meters (s : State) (g : Session → Session) :
    (s.withSession g).meters = s.meters := rfl
@[simp] theorem State.withSession_tables (s : State) (g : Session → Session) :
    (s.withSession g).tables = s.tables := rfl
@[simp] theorem State.withSession_verify (s : State) (g : Session → Session) :
    (s.withSession g).verify = s.verify := rfl
@[simp] theorem State.withSession_nodeAddress (s : State) (g : Session → Session) :
    (s.withSession g).endpoint.nodeAddress = s.endpoint.nodeAddress := rfl
@[simp] theorem State.withSession_uptime (s : State) (g : Session → Session) :
    (s.withSession g).endpoint.uptime = s.endpoint.uptime := rfl
@[simp] theorem State.withSession_commands (s : State) (g : Session → Session) :
    (s.withSession g).endpoint.commands = s.endpoint.commands := rfl
@[simp] theorem State.withSession_lastNumber (s : State) (g : Session → Session) :
    (s.withSession g).endpoint.lastNumber = s.endpoint.lastNumber := rfl
@[simp] theorem State.withSession_sessionTimeout (s : State) (g : Session → Session) :
    (s.withSession g).endpoint.sessionTimeout = s.endpoint.sessionTimeout := rfl
@[simp] theorem State.withSession_session (s : State) (g : Session → Session) :
    (s.withSession g).endpoint.session = s.endpoint.session.map g := rfl
@[simp] theorem State.restartIdle_pending (s : State) : s.restartIdle.pending = s.pending := rfl
@[simp] theorem State.restartIdle_straps (s : State) : s.restartIdle.straps = s.straps := rfl
@[simp] theorem State.restartIdle_portA (s : State) : s.restartIdle.portA = s.portA := rfl
@[simp] theorem State.restartIdle_portB (s : State) : s.restartIdle.portB = s.portB := rfl
@[simp] theorem State.restartIdle_commons (s : State) : s.restartIdle.commons = s.commons := rfl
@[simp] theorem State.restartIdle_classifier (s : State) :
    s.restartIdle.classifier = s.classifier := rfl
@[simp] theorem State.restartIdle_prefilter (s : State) :
    s.restartIdle.prefilter = s.prefilter := rfl
@[simp] theorem State.restartIdle_meters (s : State) : s.restartIdle.meters = s.meters := rfl
@[simp] theorem State.restartIdle_tables (s : State) : s.restartIdle.tables = s.tables := rfl
@[simp] theorem State.restartIdle_verify (s : State) : s.restartIdle.verify = s.verify := rfl

/-! ### A port -/

@[simp] theorem PortUnit.count_enabled (u : PortUnit) (k : PortCounter) :
    (u.count k).enabled = u.enabled := rfl
@[simp] theorem PortUnit.count_link (u : PortUnit) (k : PortCounter) :
    (u.count k).link = u.link := rfl
@[simp] theorem PortUnit.count_reception (u : PortUnit) (k : PortCounter) :
    (u.count k).reception = u.reception := rfl
@[simp] theorem PortUnit.count_queues (u : PortUnit) (k : PortCounter) :
    (u.count k).queues = u.queues := rfl
@[simp] theorem PortUnit.count_tx (u : PortUnit) (k : PortCounter) : (u.count k).tx = u.tx := rfl
@[simp] theorem PortUnit.count_oper (u : PortUnit) (k : PortCounter) :
    (u.count k).oper = u.oper := rfl
@[simp] theorem PortUnit.setQueue_enabled (u : PortUnit) (c : Fin 4) (q : ClassQueue) :
    (u.setQueue c q).enabled = u.enabled := rfl
@[simp] theorem PortUnit.setQueue_link (u : PortUnit) (c : Fin 4) (q : ClassQueue) :
    (u.setQueue c q).link = u.link := rfl
@[simp] theorem PortUnit.setQueue_reception (u : PortUnit) (c : Fin 4) (q : ClassQueue) :
    (u.setQueue c q).reception = u.reception := rfl
@[simp] theorem PortUnit.setQueue_counters (u : PortUnit) (c : Fin 4) (q : ClassQueue) :
    (u.setQueue c q).counters = u.counters := rfl
@[simp] theorem PortUnit.setQueue_tx (u : PortUnit) (c : Fin 4) (q : ClassQueue) :
    (u.setQueue c q).tx = u.tx := rfl

/-- A queue just set is read back. -/
@[simp] theorem PortUnit.setQueue_queue (u : PortUnit) (c : Fin 4) (q : ClassQueue) :
    (u.setQueue c q).queue c = q := by
  simp [PortUnit.setQueue, PortUnit.queue]

/-- Setting a queue leaves the others. -/
theorem PortUnit.setQueue_queue_ne (u : PortUnit) (c d : Fin 4) (q : ClassQueue) (h : d ≠ c) :
    (u.setQueue c q).queue d = u.queue d := by
  have hv : c.val ≠ d.val := fun e => h (Fin.ext e.symm)
  simp [PortUnit.setQueue, PortUnit.queue, hv]

/-- The counter at a place of R129's table. -/
def counterAt (n : Nat) : PortCounter :=
  if h : 16 ≤ n ∧ n < 32 then .code ⟨n - 16, by omega⟩
  else if n < 16 then
    [.receivedGood, .transmitted, .transmittedMgmt, .runt, .malformed, .oversize, .checkFail, .noBuffer,
      .lineAbort, .linkDown, .ingressFull, .fallbackBlock, .prefilterMiss, .ruleDrop, .hopExpired,
      .noDestination].getD n .noMatch
  else
    [.puntNoListener, .puntFull, .queueFull, .mirrorDrop, .txAbort, .noMatch].getD (n - 32) .noMatch

/-- The place of a counter names it. -/
theorem counterAt_index (k : PortCounter) : counterAt (counterIndex k).val = k := by
  cases k with
  | code c =>
    have h : 16 ≤ 16 + c.val ∧ 16 + c.val < 32 := by omega
    simp [counterAt, counterIndex, h.2]
  | _ => rfl

/-- Counters keep their places in R129's table apart. -/
theorem counterIndex_ne {j k : PortCounter} (h : j ≠ k) : counterIndex j ≠ counterIndex k := by
  intro e
  exact h (by rw [← counterAt_index j, ← counterAt_index k, e])

/-- Counting raises the counter it names. -/
@[simp] theorem PortUnit.count_counter (u : PortUnit) (k : PortCounter) :
    (u.count k).counter k = satInc (u.counter k) := by
  simp [PortUnit.count, PortUnit.counter]

/-- Counting leaves the other counters. -/
theorem PortUnit.count_counter_ne (u : PortUnit) {j k : PortCounter} (h : j ≠ k) :
    (u.count k).counter j = u.counter j := by
  have hv : (counterIndex k).val ≠ (counterIndex j).val :=
    fun e => counterIndex_ne h (Fin.ext e.symm)
  simp [PortUnit.count, PortUnit.counter, hv]

/-! ### Pool, builders and event unit -/

@[simp] theorem Commons.setSender_pool (x : Commons) (a : Sender) :
    (x.setSender a).pool = x.pool := rfl
@[simp] theorem Commons.setSender_frames (x : Commons) (a : Sender) :
    (x.setSender a).frames = x.frames := rfl
@[simp] theorem Commons.setSender_nextFrame (x : Commons) (a : Sender) :
    (x.setSender a).nextFrame = x.nextFrame := rfl
@[simp] theorem Commons.setSender_mgmtOutA (x : Commons) (a : Sender) :
    (x.setSender a).mgmtOutA = x.mgmtOutA := rfl
@[simp] theorem Commons.setSender_mgmtOutB (x : Commons) (a : Sender) :
    (x.setSender a).mgmtOutB = x.mgmtOutB := rfl
@[simp] theorem Commons.setSender_output (x : Commons) (a : Sender) :
    (x.setSender a).output = x.output := rfl
@[simp] theorem Commons.setSender_mgmt (x : Commons) (a : Sender) :
    (x.setSender a).mgmt = x.mgmt := rfl
@[simp] theorem Commons.setSender_listener (x : Commons) (a : Sender) :
    (x.setSender a).events.listener = x.events.listener := rfl
@[simp] theorem Commons.setSender_queue_ev (x : Commons) (a : Sender) :
    (x.setSender a).events.queue = x.events.queue := rfl
@[simp] theorem Commons.setSender_nextSeq (x : Commons) (a : Sender) :
    (x.setSender a).events.nextSeq = x.events.nextSeq := rfl
@[simp] theorem Commons.setSender_lost (x : Commons) (a : Sender) :
    (x.setSender a).events.lost = x.events.lost := rfl
@[simp] theorem Commons.setSender_puntQueue (x : Commons) (a : Sender) :
    (x.setSender a).events.puntQueue = x.events.puntQueue := rfl
@[simp] theorem Commons.setSender_punt (x : Commons) (a : Sender) :
    (x.setSender a).events.punt = x.events.punt := rfl
@[simp] theorem Commons.setSender_sender (x : Commons) (a : Sender) :
    (x.setSender a).events.sender = a := rfl
@[simp] theorem Commons.setPunt_pool (x : Commons) (a : PuntStage) :
    (x.setPunt a).pool = x.pool := rfl
@[simp] theorem Commons.setPunt_frames (x : Commons) (a : PuntStage) :
    (x.setPunt a).frames = x.frames := rfl
@[simp] theorem Commons.setPunt_nextFrame (x : Commons) (a : PuntStage) :
    (x.setPunt a).nextFrame = x.nextFrame := rfl
@[simp] theorem Commons.setPunt_mgmtOutA (x : Commons) (a : PuntStage) :
    (x.setPunt a).mgmtOutA = x.mgmtOutA := rfl
@[simp] theorem Commons.setPunt_mgmtOutB (x : Commons) (a : PuntStage) :
    (x.setPunt a).mgmtOutB = x.mgmtOutB := rfl
@[simp] theorem Commons.setPunt_output (x : Commons) (a : PuntStage) :
    (x.setPunt a).output = x.output := rfl
@[simp] theorem Commons.setPunt_mgmt (x : Commons) (a : PuntStage) :
    (x.setPunt a).mgmt = x.mgmt := rfl
@[simp] theorem Commons.setPunt_listener (x : Commons) (a : PuntStage) :
    (x.setPunt a).events.listener = x.events.listener := rfl
@[simp] theorem Commons.setPunt_queue (x : Commons) (a : PuntStage) :
    (x.setPunt a).events.queue = x.events.queue := rfl
@[simp] theorem Commons.setPunt_nextSeq (x : Commons) (a : PuntStage) :
    (x.setPunt a).events.nextSeq = x.events.nextSeq := rfl
@[simp] theorem Commons.setPunt_lost (x : Commons) (a : PuntStage) :
    (x.setPunt a).events.lost = x.events.lost := rfl
@[simp] theorem Commons.setPunt_sender (x : Commons) (a : PuntStage) :
    (x.setPunt a).events.sender = x.events.sender := rfl
@[simp] theorem Commons.setPunt_puntQueue (x : Commons) (a : PuntStage) :
    (x.setPunt a).events.puntQueue = x.events.puntQueue := rfl
@[simp] theorem Commons.setPunt_punt (x : Commons) (a : PuntStage) :
    (x.setPunt a).events.punt = a := rfl
@[simp] theorem Commons.takeReserve_frames (x : Commons) (n : Nat) :
    (x.takeReserve n).frames = x.frames := rfl
@[simp] theorem Commons.takeReserve_nextFrame (x : Commons) (n : Nat) :
    (x.takeReserve n).nextFrame = x.nextFrame := rfl
@[simp] theorem Commons.takeReserve_mgmtOutA (x : Commons) (n : Nat) :
    (x.takeReserve n).mgmtOutA = x.mgmtOutA := rfl
@[simp] theorem Commons.takeReserve_mgmtOutB (x : Commons) (n : Nat) :
    (x.takeReserve n).mgmtOutB = x.mgmtOutB := rfl
@[simp] theorem Commons.takeReserve_output (x : Commons) (n : Nat) :
    (x.takeReserve n).output = x.output := rfl
@[simp] theorem Commons.takeReserve_mgmt (x : Commons) (n : Nat) :
    (x.takeReserve n).mgmt = x.mgmt := rfl
@[simp] theorem Commons.takeReserve_events (x : Commons) (n : Nat) :
    (x.takeReserve n).events = x.events := rfl
@[simp] theorem Commons.takeReserve_free (x : Commons) (n : Nat) :
    (x.takeReserve n).pool.free = x.pool.free := rfl
@[simp] theorem Commons.takeReserve_low (x : Commons) (n : Nat) :
    (x.takeReserve n).pool.low = x.pool.low := rfl
@[simp] theorem Commons.takeReserve_lowMark (x : Commons) (n : Nat) :
    (x.takeReserve n).pool.lowMark = x.pool.lowMark := rfl
@[simp] theorem Commons.takeReserve_highMark (x : Commons) (n : Nat) :
    (x.takeReserve n).pool.highMark = x.pool.highMark := rfl
@[simp] theorem Commons.giveReserve_frames (x : Commons) (n : Nat) :
    (x.giveReserve n).frames = x.frames := rfl
@[simp] theorem Commons.giveReserve_nextFrame (x : Commons) (n : Nat) :
    (x.giveReserve n).nextFrame = x.nextFrame := rfl
@[simp] theorem Commons.giveReserve_mgmtOutA (x : Commons) (n : Nat) :
    (x.giveReserve n).mgmtOutA = x.mgmtOutA := rfl
@[simp] theorem Commons.giveReserve_mgmtOutB (x : Commons) (n : Nat) :
    (x.giveReserve n).mgmtOutB = x.mgmtOutB := rfl
@[simp] theorem Commons.giveReserve_output (x : Commons) (n : Nat) :
    (x.giveReserve n).output = x.output := rfl
@[simp] theorem Commons.giveReserve_mgmt (x : Commons) (n : Nat) :
    (x.giveReserve n).mgmt = x.mgmt := rfl
@[simp] theorem Commons.giveReserve_events (x : Commons) (n : Nat) :
    (x.giveReserve n).events = x.events := rfl
@[simp] theorem Commons.giveReserve_free (x : Commons) (n : Nat) :
    (x.giveReserve n).pool.free = x.pool.free := rfl
@[simp] theorem Commons.giveReserve_low (x : Commons) (n : Nat) :
    (x.giveReserve n).pool.low = x.pool.low := rfl
@[simp] theorem Commons.giveReserve_lowMark (x : Commons) (n : Nat) :
    (x.giveReserve n).pool.lowMark = x.pool.lowMark := rfl
@[simp] theorem Commons.giveReserve_highMark (x : Commons) (n : Nat) :
    (x.giveReserve n).pool.highMark = x.pool.highMark := rfl
@[simp] theorem Commons.takeReserve_freeReserve (x : Commons) (n : Nat) :
    (x.takeReserve n).pool.freeReserve = x.pool.freeReserve - n := rfl
@[simp] theorem Commons.giveReserve_freeReserve (x : Commons) (n : Nat) :
    (x.giveReserve n).pool.freeReserve = x.pool.freeReserve + n := rfl
@[simp] theorem Commons.setMgmtOut_pool (x : Commons) (p : Port) (q : List Built) :
    (x.setMgmtOut p q).pool = x.pool := by
  cases p <;> rfl
@[simp] theorem Commons.setMgmtOut_frames (x : Commons) (p : Port) (q : List Built) :
    (x.setMgmtOut p q).frames = x.frames := by
  cases p <;> rfl
@[simp] theorem Commons.setMgmtOut_nextFrame (x : Commons) (p : Port) (q : List Built) :
    (x.setMgmtOut p q).nextFrame = x.nextFrame := by
  cases p <;> rfl
@[simp] theorem Commons.setMgmtOut_output (x : Commons) (p : Port) (q : List Built) :
    (x.setMgmtOut p q).output = x.output := by
  cases p <;> rfl
@[simp] theorem Commons.setMgmtOut_mgmt (x : Commons) (p : Port) (q : List Built) :
    (x.setMgmtOut p q).mgmt = x.mgmt := by
  cases p <;> rfl
@[simp] theorem Commons.setMgmtOut_events (x : Commons) (p : Port) (q : List Built) :
    (x.setMgmtOut p q).events = x.events := by
  cases p <;> rfl
@[simp] theorem Commons.setMgmtOut_mgmtOut (x : Commons) (p : Port) (q : List Built) :
    (x.setMgmtOut p q).mgmtOut p = q := by
  cases p <;> rfl
@[simp] theorem Commons.setMgmtOut_other (x : Commons) (p : Port) (q : List Built) :
    (x.setMgmtOut p q).mgmtOut (otherPort p) = x.mgmtOut (otherPort p) := by
  cases p <;> rfl
@[simp] theorem Commons.pushMgmtOut_pool (x : Commons) (b : Built) :
    (x.pushMgmtOut b).pool = x.pool := by
  simp [Commons.pushMgmtOut]
@[simp] theorem Commons.pushMgmtOut_frames (x : Commons) (b : Built) :
    (x.pushMgmtOut b).frames = x.frames := by
  simp [Commons.pushMgmtOut]
@[simp] theorem Commons.pushMgmtOut_nextFrame (x : Commons) (b : Built) :
    (x.pushMgmtOut b).nextFrame = x.nextFrame := by
  simp [Commons.pushMgmtOut]
@[simp] theorem Commons.pushMgmtOut_output (x : Commons) (b : Built) :
    (x.pushMgmtOut b).output = x.output := by
  simp [Commons.pushMgmtOut]
@[simp] theorem Commons.pushMgmtOut_mgmt (x : Commons) (b : Built) :
    (x.pushMgmtOut b).mgmt = x.mgmt := by
  simp [Commons.pushMgmtOut]
@[simp] theorem Commons.pushMgmtOut_events (x : Commons) (b : Built) :
    (x.pushMgmtOut b).events = x.events := by
  simp [Commons.pushMgmtOut]
@[simp] theorem Commons.pushMgmtOut_mgmtOut (x : Commons) (b : Built) :
    (x.pushMgmtOut b).mgmtOut b.port = x.mgmtOut b.port ++ [b] := by
  simp [Commons.pushMgmtOut]

/-! ### Classifier and controller -/

@[simp] theorem Classifier.setIngress_mode (c : Classifier) (p : Port) (q : List Nat) :
    (c.setIngress p q).mode = c.mode := by
  cases p <;> rfl
@[simp] theorem Classifier.setIngress_fallbackA (c : Classifier) (p : Port) (q : List Nat) :
    (c.setIngress p q).fallbackA = c.fallbackA := by
  cases p <;> rfl
@[simp] theorem Classifier.setIngress_fallbackB (c : Classifier) (p : Port) (q : List Nat) :
    (c.setIngress p q).fallbackB = c.fallbackB := by
  cases p <;> rfl
@[simp] theorem Classifier.setIngress_lastServed (c : Classifier) (p : Port) (q : List Nat) :
    (c.setIngress p q).lastServed = c.lastServed := by
  cases p <;> rfl
@[simp] theorem Classifier.setIngress_current (c : Classifier) (p : Port) (q : List Nat) :
    (c.setIngress p q).current = c.current := by
  cases p <;> rfl
@[simp] theorem Classifier.setIngress_previous (c : Classifier) (p : Port) (q : List Nat) :
    (c.setIngress p q).previous = c.previous := by
  cases p <;> rfl
@[simp] theorem Classifier.setIngress_ingress (c : Classifier) (p : Port) (q : List Nat) :
    (c.setIngress p q).ingress p = q := by
  cases p <;> rfl
@[simp] theorem Classifier.setIngress_other (c : Classifier) (p : Port) (q : List Nat) :
    (c.setIngress p q).ingress (otherPort p) = c.ingress (otherPort p) := by
  cases p <;> rfl
@[simp] theorem Controller.setBank_active (c : Controller) (i : BankId) (b : Bank) :
    (c.setBank i b).active = c.active := by
  cases i <;> rfl
@[simp] theorem Controller.setShadow_active (c : Controller) (b : Bank) :
    (c.setShadow b).active = c.active := by
  simp [Controller.setShadow]
@[simp] theorem Controller.setBank_generation (c : Controller) (i : BankId) (b : Bank) :
    (c.setBank i b).generation = c.generation := by
  cases i <;> rfl
@[simp] theorem Controller.setShadow_generation (c : Controller) (b : Bank) :
    (c.setShadow b).generation = c.generation := by
  simp [Controller.setShadow]
@[simp] theorem Controller.setBank_signature (c : Controller) (i : BankId) (b : Bank) :
    (c.setBank i b).signature = c.signature := by
  cases i <;> rfl
@[simp] theorem Controller.setShadow_signature (c : Controller) (b : Bank) :
    (c.setShadow b).signature = c.signature := by
  simp [Controller.setShadow]
@[simp] theorem Controller.setBank_state (c : Controller) (i : BankId) (b : Bank) :
    (c.setBank i b).state = c.state := by
  cases i <;> rfl
@[simp] theorem Controller.setShadow_state (c : Controller) (b : Bank) :
    (c.setShadow b).state = c.state := by
  simp [Controller.setShadow]
@[simp] theorem Controller.setBank_dirty (c : Controller) (i : BankId) (b : Bank) :
    (c.setBank i b).dirty = c.dirty := by
  cases i <;> rfl
@[simp] theorem Controller.setShadow_dirty (c : Controller) (b : Bank) :
    (c.setShadow b).dirty = c.dirty := by
  simp [Controller.setShadow]
@[simp] theorem Controller.setBank_origin (c : Controller) (i : BankId) (b : Bank) :
    (c.setBank i b).origin = c.origin := by
  cases i <;> rfl
@[simp] theorem Controller.setShadow_origin (c : Controller) (b : Bank) :
    (c.setShadow b).origin = c.origin := by
  simp [Controller.setShadow]
@[simp] theorem Controller.setBank_bank (c : Controller) (i : BankId) (b : Bank) :
    (c.setBank i b).bank i = b := by
  cases i <;> rfl
@[simp] theorem Controller.setBank_other (c : Controller) (i : BankId) (b : Bank) :
    (c.setBank i b).bank (otherBank i) = c.bank (otherBank i) := by
  cases i <;> rfl
@[simp] theorem Controller.setShadow_shadowBank (c : Controller) (b : Bank) :
    (c.setShadow b).shadowBank = b := by
  simp [Controller.shadowBank, Controller.setShadow]
@[simp] theorem Controller.setShadow_activeBank (c : Controller) (b : Bank) :
    (c.setShadow b).activeBank = c.activeBank := by
  obtain ⟨b0, b1, a, g, sg, st, d, o⟩ := c
  cases a <;> rfl

end Sys2Proof.Machine
end

