-- ==== Sys2Proof/Laws/Ops.lean ====
section
/-! SUPPORT. What each shared operation over the pool, the frames, the queues and the event unit leaves as it
was: one lemma per operation, in the order of the layers of Machine/Ops.lean. -/

namespace Sys2Proof.Machine.Commons

set_option Elab.async false

/-- An event report that joins the queue changes the queue and the sender alone (R172). -/
@[simp] theorem admitEvent_frame (x : Commons) (w : Awaiting) (b : Built) :
    (x.admitEvent w b).pool = x.pool ∧ (x.admitEvent w b).frames = x.frames ∧
      (x.admitEvent w b).nextFrame = x.nextFrame ∧ (x.admitEvent w b).output = x.output ∧
      (x.admitEvent w b).mgmt = x.mgmt ∧ (x.admitEvent w b).events.listener = x.events.listener ∧
      (x.admitEvent w b).events.queue = x.events.queue ∧
      (x.admitEvent w b).events.nextSeq = x.events.nextSeq ∧
      (x.admitEvent w b).events.lost = x.events.lost ∧
      (x.admitEvent w b).events.puntQueue = x.events.puntQueue ∧
      (x.admitEvent w b).events.punt = x.events.punt := by
  simp [admitEvent]

/-- An offer of an event report changes the sender, the queues and free reserve cells alone
(R172). -/
@[simp] theorem offerEvent_frame (e : Env) (w : Awaiting) (b : Built) (x : Commons) :
    (offerEvent e w b x).pool.free = x.pool.free ∧
      (offerEvent e w b x).pool.low = x.pool.low ∧
      (offerEvent e w b x).pool.lowMark = x.pool.lowMark ∧
      (offerEvent e w b x).pool.highMark = x.pool.highMark ∧
      (offerEvent e w b x).frames = x.frames ∧ (offerEvent e w b x).nextFrame = x.nextFrame ∧
      (offerEvent e w b x).output = x.output ∧ (offerEvent e w b x).mgmt = x.mgmt ∧
      (offerEvent e w b x).events.listener = x.events.listener ∧
      (offerEvent e w b x).events.queue = x.events.queue ∧
      (offerEvent e w b x).events.nextSeq = x.events.nextSeq ∧
      (offerEvent e w b x).events.lost = x.events.lost ∧
      (offerEvent e w b x).events.puntQueue = x.events.puntQueue ∧
      (offerEvent e w b x).events.punt = x.events.punt := by
  unfold offerEvent
  repeat' (split <;> try dsimp only)
  all_goals simp

/-- A grant to the sender changes the sender, the queues and free reserve cells alone (R131). -/
@[simp] theorem grantEvent_frame (e : Env) (x : Commons) :
    (grantEvent e x).pool.free = x.pool.free ∧
      (grantEvent e x).pool.low = x.pool.low ∧ (grantEvent e x).pool.lowMark = x.pool.lowMark ∧
      (grantEvent e x).pool.highMark = x.pool.highMark ∧ (grantEvent e x).frames = x.frames ∧
      (grantEvent e x).nextFrame = x.nextFrame ∧ (grantEvent e x).output = x.output ∧
      (grantEvent e x).mgmt = x.mgmt ∧ (grantEvent e x).events.listener = x.events.listener ∧
      (grantEvent e x).events.queue = x.events.queue ∧
      (grantEvent e x).events.nextSeq = x.events.nextSeq ∧
      (grantEvent e x).events.lost = x.events.lost ∧
      (grantEvent e x).events.puntQueue = x.events.puntQueue ∧
      (grantEvent e x).events.punt = x.events.punt := by
  unfold grantEvent
  repeat' (split <;> try dsimp only)
  all_goals simp

/-- A claim of the sender changes the sender, the queues and free reserve cells alone (R131). -/
@[simp] theorem claimEvent_frame (e : Env) (x : Commons) :
    (claimEvent e x).pool.free = x.pool.free ∧
      (claimEvent e x).pool.low = x.pool.low ∧ (claimEvent e x).pool.lowMark = x.pool.lowMark ∧
      (claimEvent e x).pool.highMark = x.pool.highMark ∧ (claimEvent e x).frames = x.frames ∧
      (claimEvent e x).nextFrame = x.nextFrame ∧ (claimEvent e x).output = x.output ∧
      (claimEvent e x).mgmt = x.mgmt ∧ (claimEvent e x).events.listener = x.events.listener ∧
      (claimEvent e x).events.queue = x.events.queue ∧
      (claimEvent e x).events.nextSeq = x.events.nextSeq ∧
      (claimEvent e x).events.lost = x.events.lost ∧
      (claimEvent e x).events.puntQueue = x.events.puntQueue ∧
      (claimEvent e x).events.punt = x.events.punt := by
  unfold claimEvent
  split <;> simp

/-- A send changes the sender, the queues and free reserve cells alone (R172). -/
@[simp] theorem trySend_frame (e : Env) (x : Commons) :
    (trySend e x).pool.free = x.pool.free ∧ (trySend e x).pool.low = x.pool.low ∧
      (trySend e x).pool.lowMark = x.pool.lowMark ∧
      (trySend e x).pool.highMark = x.pool.highMark ∧ (trySend e x).frames = x.frames ∧
      (trySend e x).nextFrame = x.nextFrame ∧ (trySend e x).output = x.output ∧
      (trySend e x).mgmt = x.mgmt ∧ (trySend e x).events.listener = x.events.listener ∧
      (trySend e x).events.queue = x.events.queue ∧
      (trySend e x).events.nextSeq = x.events.nextSeq ∧
      (trySend e x).events.lost = x.events.lost ∧
      (trySend e x).events.puntQueue = x.events.puntQueue ∧
      (trySend e x).events.punt = x.events.punt := by
  unfold trySend
  repeat' (split <;> try dsimp only)
  all_goals simp

/-- A withdrawal of the sender changes the sender and free reserve cells alone (R175). -/
@[simp] theorem withdrawEvent_frame (x : Commons) :
    (x.withdrawEvent).pool.free = x.pool.free ∧
      (x.withdrawEvent).pool.low = x.pool.low ∧ (x.withdrawEvent).pool.lowMark = x.pool.lowMark ∧
      (x.withdrawEvent).pool.highMark = x.pool.highMark ∧ (x.withdrawEvent).frames = x.frames ∧
      (x.withdrawEvent).nextFrame = x.nextFrame ∧ (x.withdrawEvent).mgmtOutA = x.mgmtOutA ∧
      (x.withdrawEvent).mgmtOutB = x.mgmtOutB ∧ (x.withdrawEvent).output = x.output ∧
      (x.withdrawEvent).mgmt = x.mgmt ∧ (x.withdrawEvent).events.listener = x.events.listener ∧
      (x.withdrawEvent).events.queue = x.events.queue ∧
      (x.withdrawEvent).events.nextSeq = x.events.nextSeq ∧
      (x.withdrawEvent).events.lost = x.events.lost ∧
      (x.withdrawEvent).events.puntQueue = x.events.puntQueue ∧
      (x.withdrawEvent).events.punt = x.events.punt := by
  unfold withdrawEvent
  repeat' (split <;> try dsimp only)
  all_goals simp

/-- A resend changes the sender, the queues and free reserve cells alone (R174). -/
@[simp] theorem resend_frame (e : Env) (n : Nat) (x : Commons) :
    (resend e n x).pool.free = x.pool.free ∧
      (resend e n x).pool.low = x.pool.low ∧ (resend e n x).pool.lowMark = x.pool.lowMark ∧
      (resend e n x).pool.highMark = x.pool.highMark ∧ (resend e n x).frames = x.frames ∧
      (resend e n x).nextFrame = x.nextFrame ∧ (resend e n x).output = x.output ∧
      (resend e n x).mgmt = x.mgmt ∧ (resend e n x).events.listener = x.events.listener ∧
      (resend e n x).events.queue = x.events.queue ∧
      (resend e n x).events.nextSeq = x.events.nextSeq ∧
      (resend e n x).events.lost = x.events.lost ∧
      (resend e n x).events.puntQueue = x.events.puntQueue ∧
      (resend e n x).events.punt = x.events.punt := by
  unfold resend
  dsimp only
  repeat' (split <;> try dsimp only)
  all_goals simp

/-- A lost event raises the two counts of lost events alone (R169). -/
@[simp] theorem loseEvent_frame (x : Commons) :
    (x.loseEvent).pool = x.pool ∧ (x.loseEvent).frames = x.frames ∧
      (x.loseEvent).nextFrame = x.nextFrame ∧ (x.loseEvent).mgmtOutA = x.mgmtOutA ∧
      (x.loseEvent).mgmtOutB = x.mgmtOutB ∧ (x.loseEvent).output = x.output ∧
      (x.loseEvent).mgmt.overrun = x.mgmt.overrun ∧
      (x.loseEvent).mgmt.malformed = x.mgmt.malformed ∧
      (x.loseEvent).mgmt.respLost = x.mgmt.respLost ∧
      (x.loseEvent).mgmt.puntsSent = x.mgmt.puntsSent ∧
      (x.loseEvent).events.listener = x.events.listener ∧
      (x.loseEvent).events.queue = x.events.queue ∧
      (x.loseEvent).events.nextSeq = x.events.nextSeq ∧
      (x.loseEvent).events.sender = x.events.sender ∧
      (x.loseEvent).events.puntQueue = x.events.puntQueue ∧
      (x.loseEvent).events.punt = x.events.punt := by
  simp [loseEvent]

/-- An accepted post changes the event queue, or the two counts of lost events, alone (R169). -/
@[simp] theorem accept_frame (e : Env) (k : EventKind) (x : Commons) :
    (accept e k x).pool = x.pool ∧ (accept e k x).frames = x.frames ∧
      (accept e k x).nextFrame = x.nextFrame ∧ (accept e k x).mgmtOutA = x.mgmtOutA ∧
      (accept e k x).mgmtOutB = x.mgmtOutB ∧ (accept e k x).output = x.output ∧
      (accept e k x).mgmt.overrun = x.mgmt.overrun ∧
      (accept e k x).mgmt.malformed = x.mgmt.malformed ∧
      (accept e k x).mgmt.respLost = x.mgmt.respLost ∧
      (accept e k x).mgmt.puntsSent = x.mgmt.puntsSent ∧
      (accept e k x).events.listener = x.events.listener ∧
      (accept e k x).events.sender = x.events.sender ∧
      (accept e k x).events.puntQueue = x.events.puntQueue ∧
      (accept e k x).events.punt = x.events.punt := by
  unfold accept
  repeat' (split <;> try dsimp only)
  all_goals simp

/-- A post changes what its acceptance and the send it may begin change (R169, R172). -/
@[simp] theorem post_frame (e : Env) (k : EventKind) (x : Commons) :
    (post e k x).pool.free = x.pool.free ∧ (post e k x).pool.low = x.pool.low ∧
      (post e k x).pool.lowMark = x.pool.lowMark ∧ (post e k x).pool.highMark = x.pool.highMark ∧
      (post e k x).frames = x.frames ∧ (post e k x).nextFrame = x.nextFrame ∧
      (post e k x).output = x.output ∧ (post e k x).mgmt.overrun = x.mgmt.overrun ∧
      (post e k x).mgmt.malformed = x.mgmt.malformed ∧
      (post e k x).mgmt.respLost = x.mgmt.respLost ∧
      (post e k x).mgmt.puntsSent = x.mgmt.puntsSent ∧
      (post e k x).events.listener = x.events.listener ∧
      (post e k x).events.puntQueue = x.events.puntQueue ∧
      (post e k x).events.punt = x.events.punt := by
  simp [post]

/-- An evaluation of the pool changes its state and what its post changes (R133). -/
@[simp] theorem evalPool_frame (e : Env) (x : Commons) :
    (evalPool e x).pool.free = x.pool.free ∧
      (evalPool e x).pool.lowMark = x.pool.lowMark ∧
      (evalPool e x).pool.highMark = x.pool.highMark ∧ (evalPool e x).frames = x.frames ∧
      (evalPool e x).nextFrame = x.nextFrame ∧ (evalPool e x).output = x.output ∧
      (evalPool e x).mgmt.overrun = x.mgmt.overrun ∧
      (evalPool e x).mgmt.malformed = x.mgmt.malformed ∧
      (evalPool e x).mgmt.respLost = x.mgmt.respLost ∧
      (evalPool e x).mgmt.puntsSent = x.mgmt.puntsSent ∧
      (evalPool e x).events.listener = x.events.listener ∧
      (evalPool e x).events.puntQueue = x.events.puntQueue ∧
      (evalPool e x).events.punt = x.events.punt := by
  unfold evalPool
  repeat' (split <;> try dsimp only)
  all_goals simp

/-- A return of general cells frees them and changes what the evaluation changes (R133). -/
@[simp] theorem giveGeneral_frame (e : Env) (n : List GeneralCell) (x : Commons) :
    (giveGeneral e n x).pool.free = x.pool.free ++ n ∧
      (giveGeneral e n x).pool.lowMark = x.pool.lowMark ∧
      (giveGeneral e n x).pool.highMark = x.pool.highMark ∧
      (giveGeneral e n x).frames = x.frames ∧ (giveGeneral e n x).nextFrame = x.nextFrame ∧
      (giveGeneral e n x).output = x.output ∧ (giveGeneral e n x).mgmt.overrun = x.mgmt.overrun ∧
      (giveGeneral e n x).mgmt.malformed = x.mgmt.malformed ∧
      (giveGeneral e n x).mgmt.respLost = x.mgmt.respLost ∧
      (giveGeneral e n x).mgmt.puntsSent = x.mgmt.puntsSent ∧
      (giveGeneral e n x).events.listener = x.events.listener ∧
      (giveGeneral e n x).events.puntQueue = x.events.puntQueue ∧
      (giveGeneral e n x).events.punt = x.events.punt := by
  simp [giveGeneral]

/-- A claim of a general cell takes one and changes what the evaluation changes (R133). -/
@[simp] theorem takeGeneral_frame (e : Env) (x : Commons) :
    (takeGeneral e x).pool.free = x.pool.free.tail ∧
      (takeGeneral e x).pool.lowMark = x.pool.lowMark ∧
      (takeGeneral e x).pool.highMark = x.pool.highMark ∧ (takeGeneral e x).frames = x.frames ∧
      (takeGeneral e x).nextFrame = x.nextFrame ∧ (takeGeneral e x).output = x.output ∧
      (takeGeneral e x).mgmt.overrun = x.mgmt.overrun ∧
      (takeGeneral e x).mgmt.malformed = x.mgmt.malformed ∧
      (takeGeneral e x).mgmt.respLost = x.mgmt.respLost ∧
      (takeGeneral e x).mgmt.puntsSent = x.mgmt.puntsSent ∧
      (takeGeneral e x).events.listener = x.events.listener ∧
      (takeGeneral e x).events.puntQueue = x.events.puntQueue ∧
      (takeGeneral e x).events.punt = x.events.punt := by
  simp [takeGeneral]

/-- A release of a holder drops it, frees the cells of a frame that lost its last one, and changes what
that return of cells changes (R132). -/
@[simp] theorem release_frame (e : Env) (id : Nat) (x : Commons) :
    (release e id x).frames = (dropHolder id x.frames).1 ∧
      (release e id x).pool.free = x.pool.free ++ (dropHolder id x.frames).2 ∧
      (release e id x).pool.lowMark = x.pool.lowMark ∧
      (release e id x).pool.highMark = x.pool.highMark ∧
      (release e id x).nextFrame = x.nextFrame ∧ (release e id x).output = x.output ∧
      (release e id x).mgmt.overrun = x.mgmt.overrun ∧
      (release e id x).mgmt.malformed = x.mgmt.malformed ∧
      (release e id x).mgmt.respLost = x.mgmt.respLost ∧
      (release e id x).mgmt.puntsSent = x.mgmt.puntsSent ∧
      (release e id x).events.listener = x.events.listener ∧
      (release e id x).events.puntQueue = x.events.puntQueue ∧
      (release e id x).events.punt = x.events.punt := by
  unfold release
  repeat' (split <;> try dsimp only)
  all_goals simp_all

/-- A new holder changes the frames alone (R132). -/
@[simp] theorem hold_frame (id : Nat) (x : Commons) :
    (hold id x).pool = x.pool ∧ (hold id x).nextFrame = x.nextFrame ∧
      (hold id x).mgmtOutA = x.mgmtOutA ∧ (hold id x).mgmtOutB = x.mgmtOutB ∧
      (hold id x).output = x.output ∧ (hold id x).mgmt = x.mgmt ∧
      (hold id x).events = x.events := by
  simp [hold, updateFrame]

/-- A lost response changes the endpoint and its count alone (R153). -/
@[simp] theorem loseResponse_frame (x : Commons) (b : Built) :
    (x.loseResponse b).pool = x.pool ∧ (x.loseResponse b).frames = x.frames ∧
      (x.loseResponse b).nextFrame = x.nextFrame ∧ (x.loseResponse b).mgmtOutA = x.mgmtOutA ∧
      (x.loseResponse b).mgmtOutB = x.mgmtOutB ∧
      (x.loseResponse b).mgmt.overrun = x.mgmt.overrun ∧
      (x.loseResponse b).mgmt.malformed = x.mgmt.malformed ∧
      (x.loseResponse b).mgmt.eventsLost = x.mgmt.eventsLost ∧
      (x.loseResponse b).mgmt.puntsSent = x.mgmt.puntsSent ∧
      (x.loseResponse b).events = x.events := by
  simp [loseResponse, countRespLost]

/-- A response that joins its queue changes the queue and the endpoint alone (R153). -/
@[simp] theorem admitResponse_frame (x : Commons) (b : Built) :
    (x.admitResponse b).pool = x.pool ∧ (x.admitResponse b).frames = x.frames ∧
      (x.admitResponse b).nextFrame = x.nextFrame ∧ (x.admitResponse b).mgmt = x.mgmt ∧
      (x.admitResponse b).events = x.events := by
  simp [admitResponse]

/-- An offer of a response changes the endpoint, the queues, its count and free reserve cells
alone. -/
@[simp] theorem offerResponse_frame (e : Env) (b : Built) (x : Commons) :
    (offerResponse e b x).pool.free = x.pool.free ∧
      (offerResponse e b x).pool.low = x.pool.low ∧
      (offerResponse e b x).pool.lowMark = x.pool.lowMark ∧
      (offerResponse e b x).pool.highMark = x.pool.highMark ∧
      (offerResponse e b x).frames = x.frames ∧ (offerResponse e b x).nextFrame = x.nextFrame ∧
      (offerResponse e b x).mgmt.overrun = x.mgmt.overrun ∧
      (offerResponse e b x).mgmt.malformed = x.mgmt.malformed ∧
      (offerResponse e b x).mgmt.eventsLost = x.mgmt.eventsLost ∧
      (offerResponse e b x).mgmt.puntsSent = x.mgmt.puntsSent ∧
      (offerResponse e b x).events = x.events := by
  unfold offerResponse
  repeat' (split <;> try dsimp only)
  all_goals simp

/-- A grant to the endpoint changes what the offer of its response changes (R131). -/
@[simp] theorem grantResponse_frame (e : Env) (x : Commons) :
    (grantResponse e x).pool.free = x.pool.free ∧
      (grantResponse e x).pool.low = x.pool.low ∧
      (grantResponse e x).pool.lowMark = x.pool.lowMark ∧
      (grantResponse e x).pool.highMark = x.pool.highMark ∧
      (grantResponse e x).frames = x.frames ∧ (grantResponse e x).nextFrame = x.nextFrame ∧
      (grantResponse e x).mgmt.overrun = x.mgmt.overrun ∧
      (grantResponse e x).mgmt.malformed = x.mgmt.malformed ∧
      (grantResponse e x).mgmt.eventsLost = x.mgmt.eventsLost ∧
      (grantResponse e x).mgmt.puntsSent = x.mgmt.puntsSent ∧
      (grantResponse e x).events = x.events := by
  unfold grantResponse
  repeat' (split <;> try dsimp only)
  all_goals simp

/-- A withdrawal of the punt side changes its stage and free reserve cells alone (R179). -/
@[simp] theorem withdrawPunt_frame (x : Commons) :
    (x.withdrawPunt).pool.free = x.pool.free ∧
      (x.withdrawPunt).pool.low = x.pool.low ∧ (x.withdrawPunt).pool.lowMark = x.pool.lowMark ∧
      (x.withdrawPunt).pool.highMark = x.pool.highMark ∧ (x.withdrawPunt).frames = x.frames ∧
      (x.withdrawPunt).nextFrame = x.nextFrame ∧ (x.withdrawPunt).mgmtOutA = x.mgmtOutA ∧
      (x.withdrawPunt).mgmtOutB = x.mgmtOutB ∧ (x.withdrawPunt).output = x.output ∧
      (x.withdrawPunt).mgmt = x.mgmt ∧ (x.withdrawPunt).events.listener = x.events.listener ∧
      (x.withdrawPunt).events.queue = x.events.queue ∧
      (x.withdrawPunt).events.nextSeq = x.events.nextSeq ∧
      (x.withdrawPunt).events.lost = x.events.lost ∧
      (x.withdrawPunt).events.sender = x.events.sender ∧
      (x.withdrawPunt).events.puntQueue = x.events.puntQueue := by
  unfold withdrawPunt
  repeat' (split <;> try dsimp only)
  all_goals simp

/-- A punt report that joins the queue changes the queue and the stage alone (R179). -/
@[simp] theorem admitPunt_frame (x : Commons) (b : Built) :
    (x.admitPunt b).pool = x.pool ∧ (x.admitPunt b).frames = x.frames ∧
      (x.admitPunt b).nextFrame = x.nextFrame ∧ (x.admitPunt b).output = x.output ∧
      (x.admitPunt b).mgmt = x.mgmt ∧ (x.admitPunt b).events.listener = x.events.listener ∧
      (x.admitPunt b).events.queue = x.events.queue ∧
      (x.admitPunt b).events.nextSeq = x.events.nextSeq ∧
      (x.admitPunt b).events.lost = x.events.lost ∧
      (x.admitPunt b).events.sender = x.events.sender ∧
      (x.admitPunt b).events.puntQueue = x.events.puntQueue := by
  simp [admitPunt]

/-- An offer of a punt report changes the stage, the queues and free reserve cells alone (R179).
-/
@[simp] theorem offerPunt_frame (e : Env) (b : Built) (x : Commons) :
    (offerPunt e b x).pool.free = x.pool.free ∧
      (offerPunt e b x).pool.low = x.pool.low ∧ (offerPunt e b x).pool.lowMark = x.pool.lowMark ∧
      (offerPunt e b x).pool.highMark = x.pool.highMark ∧ (offerPunt e b x).frames = x.frames ∧
      (offerPunt e b x).nextFrame = x.nextFrame ∧ (offerPunt e b x).output = x.output ∧
      (offerPunt e b x).mgmt = x.mgmt ∧ (offerPunt e b x).events.listener = x.events.listener ∧
      (offerPunt e b x).events.queue = x.events.queue ∧
      (offerPunt e b x).events.nextSeq = x.events.nextSeq ∧
      (offerPunt e b x).events.lost = x.events.lost ∧
      (offerPunt e b x).events.sender = x.events.sender ∧
      (offerPunt e b x).events.puntQueue = x.events.puntQueue := by
  unfold offerPunt
  repeat' (split <;> try dsimp only)
  all_goals simp

/-- A grant to the punt side changes what the release of its frame and the offer change (R179). -/
@[simp] theorem grantPunt_frame (e : Env) (x : Commons) :
    (grantPunt e x).pool.lowMark = x.pool.lowMark ∧
      (grantPunt e x).pool.highMark = x.pool.highMark ∧ (grantPunt e x).nextFrame = x.nextFrame ∧
      (grantPunt e x).output = x.output ∧ (grantPunt e x).mgmt.overrun = x.mgmt.overrun ∧
      (grantPunt e x).mgmt.malformed = x.mgmt.malformed ∧
      (grantPunt e x).mgmt.respLost = x.mgmt.respLost ∧
      (grantPunt e x).mgmt.puntsSent = x.mgmt.puntsSent ∧
      (grantPunt e x).events.listener = x.events.listener := by
  unfold grantPunt
  repeat' (split <;> try dsimp only)
  all_goals simp

/-- A claim of the punt side changes what its grant changes (R131). -/
@[simp] theorem claimPunt_frame (e : Env) (x : Commons) :
    (claimPunt e x).pool.lowMark = x.pool.lowMark ∧
      (claimPunt e x).pool.highMark = x.pool.highMark ∧ (claimPunt e x).nextFrame = x.nextFrame ∧
      (claimPunt e x).output = x.output ∧ (claimPunt e x).mgmt.overrun = x.mgmt.overrun ∧
      (claimPunt e x).mgmt.malformed = x.mgmt.malformed ∧
      (claimPunt e x).mgmt.respLost = x.mgmt.respLost ∧
      (claimPunt e x).mgmt.puntsSent = x.mgmt.puntsSent ∧
      (claimPunt e x).events.listener = x.events.listener := by
  unfold claimPunt
  split <;> simp

/-- The arbiter changes what the grants change (R131). -/
@[simp] theorem arbiter_frame (e : Env) (x : Commons) :
    (arbiter e x).pool.lowMark = x.pool.lowMark ∧
      (arbiter e x).pool.highMark = x.pool.highMark ∧ (arbiter e x).nextFrame = x.nextFrame ∧
      (arbiter e x).mgmt.overrun = x.mgmt.overrun ∧
      (arbiter e x).mgmt.malformed = x.mgmt.malformed ∧
      (arbiter e x).mgmt.puntsSent = x.mgmt.puntsSent ∧
      (arbiter e x).events.listener = x.events.listener := by
  unfold arbiter
  dsimp only
  repeat' split
  all_goals simp

/-- Room for a waiting response changes the queue and the endpoint alone (R140). -/
@[simp] theorem admitWaitingResponse_frame (e : Env) (p : Port) (x : Commons) :
    (admitWaitingResponse e p x).pool = x.pool ∧
      (admitWaitingResponse e p x).frames = x.frames ∧
      (admitWaitingResponse e p x).nextFrame = x.nextFrame ∧
      (admitWaitingResponse e p x).mgmt = x.mgmt ∧
      (admitWaitingResponse e p x).events = x.events := by
  unfold admitWaitingResponse
  repeat' (split <;> try dsimp only)
  all_goals simp

/-- Room for a waiting event report changes the queue and the sender alone (R140). -/
@[simp] theorem admitWaitingEvent_frame (e : Env) (p : Port) (x : Commons) :
    (admitWaitingEvent e p x).pool = x.pool ∧ (admitWaitingEvent e p x).frames = x.frames ∧
      (admitWaitingEvent e p x).nextFrame = x.nextFrame ∧
      (admitWaitingEvent e p x).output = x.output ∧ (admitWaitingEvent e p x).mgmt = x.mgmt ∧
      (admitWaitingEvent e p x).events.listener = x.events.listener ∧
      (admitWaitingEvent e p x).events.queue = x.events.queue ∧
      (admitWaitingEvent e p x).events.nextSeq = x.events.nextSeq ∧
      (admitWaitingEvent e p x).events.lost = x.events.lost ∧
      (admitWaitingEvent e p x).events.puntQueue = x.events.puntQueue ∧
      (admitWaitingEvent e p x).events.punt = x.events.punt := by
  unfold admitWaitingEvent
  repeat' (split <;> try dsimp only)
  all_goals simp

/-- Room for a waiting punt report changes the queue and the stage alone (R140). -/
@[simp] theorem admitWaitingPunt_frame (e : Env) (p : Port) (x : Commons) :
    (admitWaitingPunt e p x).pool = x.pool ∧ (admitWaitingPunt e p x).frames = x.frames ∧
      (admitWaitingPunt e p x).nextFrame = x.nextFrame ∧
      (admitWaitingPunt e p x).output = x.output ∧ (admitWaitingPunt e p x).mgmt = x.mgmt ∧
      (admitWaitingPunt e p x).events.listener = x.events.listener ∧
      (admitWaitingPunt e p x).events.queue = x.events.queue ∧
      (admitWaitingPunt e p x).events.nextSeq = x.events.nextSeq ∧
      (admitWaitingPunt e p x).events.lost = x.events.lost ∧
      (admitWaitingPunt e p x).events.sender = x.events.sender ∧
      (admitWaitingPunt e p x).events.puntQueue = x.events.puntQueue := by
  unfold admitWaitingPunt
  repeat' (split <;> try dsimp only)
  all_goals simp

/-- A queue that admits waiting offers changes itself and their builders alone (R140). -/
@[simp] theorem admitOffers_frame (e : Env) (p : Port) (x : Commons) :
    (admitOffers e p x).pool = x.pool ∧ (admitOffers e p x).frames = x.frames ∧
      (admitOffers e p x).nextFrame = x.nextFrame ∧ (admitOffers e p x).mgmt = x.mgmt ∧
      (admitOffers e p x).events.listener = x.events.listener ∧
      (admitOffers e p x).events.queue = x.events.queue ∧
      (admitOffers e p x).events.nextSeq = x.events.nextSeq ∧
      (admitOffers e p x).events.lost = x.events.lost ∧
      (admitOffers e p x).events.puntQueue = x.events.puntQueue := by
  simp [admitOffers]

/-- A reported fate changes a waiting restart and the punts-sent counter alone (R143). -/
@[simp] theorem reportFate_frame (f : Fate) (b : Built) (x : Commons) :
    (reportFate f b x).pool = x.pool ∧ (reportFate f b x).frames = x.frames ∧
      (reportFate f b x).nextFrame = x.nextFrame ∧ (reportFate f b x).mgmtOutA = x.mgmtOutA ∧
      (reportFate f b x).mgmtOutB = x.mgmtOutB ∧
      (reportFate f b x).mgmt.overrun = x.mgmt.overrun ∧
      (reportFate f b x).mgmt.malformed = x.mgmt.malformed ∧
      (reportFate f b x).mgmt.respLost = x.mgmt.respLost ∧
      (reportFate f b x).mgmt.eventsLost = x.mgmt.eventsLost ∧
      (reportFate f b x).events = x.events := by
  unfold reportFate
  repeat' (split <;> try dsimp only)
  all_goals simp

end Sys2Proof.Machine.Commons
end

