-- ==== Sys2Proof/Laws/Commands.lean ====
section
/-! SUPPORT. How a command row runs: what taking a command leaves as it was, and what the order of tests
comes to in each case, so that later proofs need not unfold `takeCommand`. -/

namespace Sys2Proof.Machine

open Sys2Proof.Safety

/-! ### Taking the head -/

/-- Taking the head changes the command queue and what the release of a holder changes. -/
theorem State.takeHead_frame (s : State) :
    s.takeHead.pending = s.pending ∧ s.takeHead.straps = s.straps ∧ s.takeHead.portA = s.portA ∧
      s.takeHead.portB = s.portB ∧ s.takeHead.classifier = s.classifier ∧
      s.takeHead.prefilter = s.prefilter ∧ s.takeHead.meters = s.meters ∧
      s.takeHead.tables = s.tables ∧ s.takeHead.verify = s.verify := by
  unfold State.takeHead
  split <;> simp [State.release]

/-- Taking the head removes one entry of the command queue and leaves the rest of the endpoint. -/
theorem State.takeHead_endpoint (s : State) :
    s.takeHead.endpoint = { s.endpoint with commands := s.endpoint.commands.tail } := by
  unfold State.takeHead
  split
  · rename_i h
    simp [State.release, h]
  · rename_i h
    rw [h, List.tail_nil, ← h]

/-- Taking the head leaves the endpoint's output and the listener. -/
theorem State.takeHead_commons (s : State) :
    s.takeHead.commons.output = s.commons.output ∧
      s.takeHead.commons.events.listener = s.commons.events.listener := by
  unfold State.takeHead
  split <;> simp [State.release]

/-- Taking the head changes nobody's ownership. -/
@[simp] theorem State.takeHead_isOwner (s : State) (c : Command) :
    s.takeHead.isOwner c = s.isOwner c := by
  simp [State.isOwner, State.takeHead_endpoint]

/-- Taking the head leaves the replay copy. -/
@[simp] theorem State.takeHead_replayOf (s : State) (c : Command) :
    s.takeHead.replayOf c = s.replayOf c := by
  simp [State.replayOf, State.takeHead_endpoint]

/-- Taking the head leaves the listener. -/
@[simp] theorem State.takeHead_isListener (s : State) (c : Command) :
    s.takeHead.isListener c = s.isListener c := by
  simp [State.isListener, (State.takeHead_commons s).2]

/-- Taking the head leaves every permission as it was. -/
@[simp] theorem State.takeHead_permissionFails (s : State) (p : Permission) (c : Command) :
    s.takeHead.permissionFails p c = s.permissionFails p c := by
  cases p <;> simp [State.permissionFails, State.takeHead_endpoint]

/-! ### A row that does not take the head -/

/-- Without a command at the head a command row changes nothing. -/
theorem State.takeCommand_none {s : State} (takes : Command → Bool) (perm : Command → Permission)
    (run : Run) (h : s.headFrame = none) : s.takeCommand takes perm run = s := by
  simp [State.takeCommand, h]

/-- A command of another row is not taken. -/
theorem State.takeCommand_other {s : State} {f : RxFrame} (takes : Command → Bool)
    (perm : Command → Permission) (run : Run) (h : s.headFrame = some f)
    (ht : takes (readCommand f) = false) : s.takeCommand takes perm run = s := by
  simp [State.takeCommand, h, ht]

/-! ### The order of tests (R152) -/

/-- A row takes its command from the head and judges it. -/
theorem State.takeCommand_judge {s : State} {f : RxFrame} (takes : Command → Bool)
    (perm : Command → Permission) (run : Run) (h : Takes s f) (ht : takes (readCommand f) = true) :
    s.takeCommand takes perm run = s.takeHead.judge perm run (readCommand f) := by
  simp [State.takeCommand, h.1, h.2, ht]

/-- A foreign version is answered BAD_VERSION. -/
theorem State.judge_version (s : State) (perm : Command → Permission) (run : Run) {c : Command}
    (h : c.version ≠ 1#8) : s.judge perm run c = s.respond c (refuse .badVersion) := by
  simp [State.judge, h]

/-- A command that is refused its permission executes nothing. -/
theorem State.judge_refused {s : State} (perm : Command → Permission) (run : Run) {c : Command}
    {st : Status} (h : Fresh s c) (hp : s.permissionFails (perm c) c = some st) :
    s.judge perm run c = answered s s c (refuse st) := by
  simp [State.judge, h.1, h.2, State.runPermitted, hp, answered]

/-- A permitted command runs, and its answer goes out. -/
theorem State.judge_permitted {s : State} (perm : Command → Permission) (run : Run) {c : Command}
    (h : Fresh s c) (hp : s.permissionFails (perm c) c = none) :
    s.judge perm run c = answered s (run c s).1 c (run c s).2 := by
  simp [State.judge, h.1, h.2, State.runPermitted, hp, answered]

/-- A command row on a fresh command that it takes and permits. -/
theorem State.takeCommand_permitted {s : State} {f : RxFrame} {takes : Command → Bool}
    {perm : Command → Permission} (run : Run) (h : Takes s f) (hf : Fresh s (readCommand f))
    (ht : takes (readCommand f) = true)
    (hp : s.permissionFails (perm (readCommand f)) (readCommand f) = none) :
    s.takeCommand takes perm run =
      answered s (run (readCommand f) s.takeHead).1 (readCommand f)
        (run (readCommand f) s.takeHead).2 := by
  have hf' : Fresh s.takeHead (readCommand f) := by simpa [Fresh] using hf
  rw [State.takeCommand_judge takes perm run h ht,
    State.judge_permitted perm run hf' (by simpa using hp)]
  simp [answered]

/-! ### Restarts -/

/-- Where no restart is due none takes effect. -/
theorem State.settleRestart_none {s : State} (straps : Straps) (h : NoRestartDue s) :
    s.settleRestart straps = s := by
  unfold State.settleRestart
  split
  · rename_i e; exact absurd e h.1
  · rename_i e; exact absurd e h.2
  · rfl

/-- A due LIGHT restart takes effect. -/
theorem State.settleRestart_light {s : State} (straps : Straps)
    (h : s.commons.output = .restartDue .light) : s.settleRestart straps = s.lightRestart := by
  simp [State.settleRestart, h]

/-- A due FULL restart takes effect, on the straps as they stand. -/
theorem State.settleRestart_full {s : State} (straps : Straps)
    (h : s.commons.output = .restartDue .full) :
    s.settleRestart straps = s.fullRestart straps := by
  simp [State.settleRestart, h]

/-- A LIGHT restart changes beyond what each block does of itself only what its events and the send that
follows them change (R149, R177). -/
theorem State.lightRestart_frame (s : State) :
    { s.lightRestart with commons := s.lightBlocks.commons } = s.lightBlocks := rfl

/-- Accepting events one after another leaves the pool, the frames, the management-out queues, the
endpoint's output, the listener, the sender and the punt side alone (R169). -/
theorem Commons.acceptAll_frame (e : Env) (ks : List EventKind) (x : Commons) :
    let y := ks.foldl (fun z k => Commons.accept e k z) x
    y.pool = x.pool ∧ y.frames = x.frames ∧ y.nextFrame = x.nextFrame ∧ y.mgmtOutA = x.mgmtOutA ∧
      y.mgmtOutB = x.mgmtOutB ∧ y.output = x.output ∧ y.events.listener = x.events.listener ∧
      y.events.sender = x.events.sender ∧ y.events.puntQueue = x.events.puntQueue ∧
      y.events.punt = x.events.punt := by
  induction ks generalizing x with
  | nil => simp
  | cons k ks ih => simpa using ih (Commons.accept e k x)

/-- A response changes what the endpoint's claim changes and nothing else of the part (R153). -/
theorem State.respond_frame (s : State) (c : Command) (r : Reply) :
    { s.respond c r with commons := s.commons } = s := rfl

end Sys2Proof.Machine
end

