-- ==== Sys2Proof/Laws/Conservation.lean ====
section
/-! SUPPORT. How the conservation of the general cells is shown of a state whose cells stand in order:
one comparison of lists in place of a count for each of the 512 cells. -/

namespace Sys2Proof.Laws

open Sys2Proof.Machine Sys2Proof.Safety

/-- A state whose held cells followed by its free ones are cells 0 to 511 in order conserves them. -/
theorem generalConserved_of_range (s : State)
    (h : (heldCells s ++ s.commons.pool.free).map Fin.val = List.range 512) : GeneralConserved s := by
  have all : heldCells s ++ s.commons.pool.free = List.finRange 512 :=
    List.map_injective_iff.mpr Fin.val_injective (h.trans List.map_coe_finRange_eq_range.symm)
  refine ⟨fun c => ?_, ?_⟩
  · rw [Nat.add_comm, ← List.count_append, all]
    exact List.count_eq_one_of_mem (List.nodup_finRange 512) (List.mem_finRange c)
  · simpa [Pool.freeGeneral, Nat.add_comm] using congrArg List.length all

end Sys2Proof.Laws
end

