-- ==== Sys2Proof/Laws/Memory.lean ====
section
/-! SUPPORT. The laws of a bank's storage: every operation keeps the canonical form, a read after a write
to the same byte gives what was written, a write leaves every other byte alone, and two canonical
banks that read alike are the same. -/

namespace Sys2Proof.Machine

/-- A canonical form from a higher offset on is one from a lower. -/
theorem Bank.wfFrom_le {lo hi : Nat} {b : Bank} (h : lo ≤ hi) (hb : Bank.wfFrom hi b = true) :
    Bank.wfFrom lo b = true := by
  cases b with
  | nil => rfl
  | cons c rest =>
    simp only [Bank.wfFrom, Bool.and_eq_true, decide_eq_true_eq] at hb ⊢
    exact ⟨⟨by omega, hb.1.2⟩, hb.2⟩

/-- Nothing is listed below the lowest offset. -/
theorem Bank.read_below {lo a : Nat} {b : Bank} (hb : Bank.wfFrom lo b = true) (h : a < lo) :
    b.read a = 0#8 := by
  induction b generalizing lo with
  | nil => rfl
  | cons c rest ih =>
    obtain ⟨k, w⟩ := c
    simp only [Bank.wfFrom, Bool.and_eq_true, decide_eq_true_eq] at hb
    have hk : k ≠ a := by omega
    simp only [Bank.read, hk, if_false]
    exact ih hb.2 (by omega)

/-- A write keeps the canonical form. -/
theorem Bank.wfFrom_write {lo a : Nat} {b : Bank} (v : Byte) (hb : Bank.wfFrom lo b = true)
    (h : lo ≤ a) : Bank.wfFrom lo (b.write a v) = true := by
  induction b generalizing lo with
  | nil =>
    by_cases hv : v = 0#8 <;> simp [Bank.write, Bank.wfFrom, hv, h]
  | cons c rest ih =>
    obtain ⟨k, w⟩ := c
    simp only [Bank.wfFrom, Bool.and_eq_true, decide_eq_true_eq] at hb
    obtain ⟨⟨hlk, hw⟩, hr⟩ := hb
    simp only [Bank.write]
    split
    · rename_i hak
      by_cases hv : v = 0#8
      · simp [hv, Bank.wfFrom, hlk, hw, hr]
      · have : a + 1 ≤ k := hak
        simp [hv, Bank.wfFrom, h, this, hw, hr]
    · split
      · rename_i hak
        subst hak
        by_cases hv : v = 0#8
        · simpa [hv] using Bank.wfFrom_le (by omega) hr
        · simp [hv, Bank.wfFrom, h, hr]
      · simp only [Bank.wfFrom, Bool.and_eq_true, decide_eq_true_eq]
        exact ⟨⟨hlk, hw⟩, ih hr (by omega)⟩

/-- The byte written is read back. -/
theorem Bank.read_write_same {lo a : Nat} {b : Bank} (v : Byte) (hb : Bank.wfFrom lo b = true) :
    (b.write a v).read a = v := by
  induction b generalizing lo with
  | nil =>
    by_cases hv : v = 0#8 <;> simp [Bank.write, Bank.read, hv]
  | cons c rest ih =>
    obtain ⟨k, w⟩ := c
    simp only [Bank.wfFrom, Bool.and_eq_true, decide_eq_true_eq] at hb
    obtain ⟨⟨hlk, hw⟩, hr⟩ := hb
    simp only [Bank.write]
    split
    · rename_i hak
      by_cases hv : v = 0#8
      · have hk : k ≠ a := by omega
        simp [hv, Bank.read, hk, Bank.read_below hr (show a < k + 1 by omega)]
      · simp [hv, Bank.read]
    · split
      · rename_i hak
        subst hak
        by_cases hv : v = 0#8
        · simp [hv, Bank.read_below hr (show a < a + 1 by omega)]
        · simp [hv, Bank.read]
      · rename_i hak
        have hk : k ≠ a := by omega
        simp only [Bank.read, hk, if_false]
        exact ih hr

/-- A write leaves every other byte alone. -/
theorem Bank.read_write_other {a c : Nat} (b : Bank) (v : Byte) (h : c ≠ a) :
    (b.write a v).read c = b.read c := by
  induction b with
  | nil =>
    by_cases hv : v = 0#8 <;> simp [Bank.write, Bank.read, hv, h.symm]
  | cons x rest ih =>
    obtain ⟨k, w⟩ := x
    simp only [Bank.write]
    split
    · by_cases hv : v = 0#8 <;> simp [hv, Bank.read, h.symm]
    · split
      · rename_i hak
        subst hak
        by_cases hv : v = 0#8 <;> simp [hv, Bank.read, h.symm]
      · simp only [Bank.read, ih]

/-- A write keeps the canonical form of a bank. -/
theorem Bank.wf_write {b : Bank} (a : Nat) (v : Byte) (hb : b.wf = true) : (b.write a v).wf = true :=
  Bank.wfFrom_write v hb (Nat.zero_le a)

/-- A run of bytes keeps the canonical form of a bank. -/
theorem Bank.wf_writeBytes {b : Bank} (a : Nat) (vs : List Byte) (hb : b.wf = true) :
    (b.writeBytes a vs).wf = true := by
  induction vs generalizing b a with
  | nil => exact hb
  | cons v vs ih => exact ih (a + 1) (Bank.wf_write a v hb)

/-- A run of records keeps the canonical form of a bank. -/
theorem Bank.wf_setRecords {b : Bank} (t : Table) (i : Nat) (body : List Byte) (hb : b.wf = true) :
    (b.setRecords t i body).wf = true := Bank.wf_writeBytes _ body hb

/-- A run of bytes leaves every byte outside it alone. -/
theorem Bank.read_writeBytes_outside {a c : Nat} (b : Bank) (vs : List Byte)
    (h : c < a ∨ a + vs.length ≤ c) : (b.writeBytes a vs).read c = b.read c := by
  induction vs generalizing b a with
  | nil => rfl
  | cons v vs ih =>
    simp only [List.length_cons] at h
    simp only [Bank.writeBytes]
    rw [ih (b.write a v) (a := a + 1) (by omega), Bank.read_write_other b v (by omega)]

/-- A run of bytes is read back. -/
theorem Bank.read_writeBytes {b : Bank} (a k : Nat) (vs : List Byte) (hb : b.wf = true)
    (h : k < vs.length) : (b.writeBytes a vs).read (a + k) = byteAt vs k := by
  induction vs generalizing b a k with
  | nil => simp at h
  | cons v vs ih =>
    simp only [Bank.writeBytes]
    cases k with
    | zero =>
      rw [Bank.read_writeBytes_outside _ vs (Or.inl (by omega))]
      simpa [byteAt] using Bank.read_write_same (a := a) v hb
    | succ k =>
      have hk : k < vs.length := by simpa using h
      have := ih (a + 1) k (Bank.wf_write a v hb) hk
      rw [show a + (k + 1) = a + 1 + k by omega, this]
      simp [byteAt]

/-- `n` stored bytes are `n` bytes. -/
@[simp] theorem Bank.length_readBytes (b : Bank) (a n : Nat) : (b.readBytes a n).length = n := by
  simp [Bank.readBytes]

/-- A record has its table's size. -/
@[simp] theorem Bank.length_record (b : Bank) (t : Table) (i : Nat) :
    (b.record t i).length = recordSize t := Bank.length_readBytes b _ _

/-- A run of bytes just stored is read back whole. -/
theorem Bank.readBytes_writeBytes {b : Bank} (a : Nat) (vs : List Byte) (hb : b.wf = true) :
    (b.writeBytes a vs).readBytes a vs.length = vs := by
  apply List.ext_getElem (by simp)
  intro k h1 h2
  simp only [Bank.readBytes, List.getElem_map, List.getElem_range]
  rw [Bank.read_writeBytes a k vs hb h2]
  simp [byteAt, h2]

/-- A record just stored is read back. -/
theorem Bank.record_setRecords {b : Bank} (t : Table) (i : Nat) (content : List Byte)
    (hb : b.wf = true) (h : content.length = recordSize t) :
    (b.setRecords t i content).record t i = content := by
  rw [Bank.record, Bank.setRecords, ← h]
  exact Bank.readBytes_writeBytes _ content hb

/-- Two canonical banks that read alike are the same data. -/
theorem Bank.eq_of_read {lo : Nat} {b c : Bank} (hb : Bank.wfFrom lo b = true)
    (hc : Bank.wfFrom lo c = true) (h : ∀ a, b.read a = c.read a) : b = c := by
  induction b generalizing lo c with
  | nil =>
    cases c with
    | nil => rfl
    | cons y rest =>
      obtain ⟨k, w⟩ := y
      simp only [Bank.wfFrom, Bool.and_eq_true, bne_iff_ne] at hc
      have := h k
      simp only [Bank.read, if_true] at this
      exact absurd this.symm hc.1.2
  | cons x rest ih =>
    obtain ⟨j, v⟩ := x
    cases c with
    | nil =>
      simp only [Bank.wfFrom, Bool.and_eq_true, bne_iff_ne] at hb
      have := h j
      simp only [Bank.read, if_true] at this
      exact absurd this hb.1.2
    | cons y rest' =>
      obtain ⟨k, w⟩ := y
      simp only [Bank.wfFrom, Bool.and_eq_true, decide_eq_true_eq, bne_iff_ne] at hb hc
      have hjk : j = k := by
        rcases Nat.lt_trichotomy j k with hlt | heq | hgt
        · have := h j
          have hne : k ≠ j := by omega
          simp only [Bank.read, if_true, hne, if_false] at this
          rw [Bank.read_below hc.2 (show j < k + 1 by omega)] at this
          exact absurd this hb.1.2
        · exact heq
        · have := h k
          have hne : j ≠ k := by omega
          simp only [Bank.read, if_true, hne, if_false] at this
          rw [Bank.read_below hb.2 (show k < j + 1 by omega)] at this
          exact absurd this.symm hc.1.2
      subst hjk
      have hv : v = w := by simpa [Bank.read] using h j
      subst hv
      have : rest = rest' := ih hb.2 hc.2 fun a => by
        by_cases ha : j = a
        · subst ha
          rw [Bank.read_below hb.2 (show j < j + 1 by omega),
            Bank.read_below hc.2 (show j < j + 1 by omega)]
        · simpa [Bank.read, ha] using h a
      rw [this]

/-- Both banks are canonical after reset. -/
theorem State.reset_banks_wf :
    State.reset.tables.bank0.wf = true ∧ State.reset.tables.bank1.wf = true := ⟨rfl, rfl⟩

end Sys2Proof.Machine
end

