-- ==== Sys2Proof/Laws/PerInstr.lean ====
section
/-! SUPPORT. Statements made of every command, one lemma per constructor. -/

namespace Sys2Proof.Laws.CarriedBytes

/-- The bytes a command carries: those that arrive at a port, or the content of an upset. -/
def carried : Instr → List Byte
  | .receptionCellClaim _ bytes => bytes
  | .oversizeCutoff _ bytes => bytes
  | .frameEnd _ bytes => bytes
  | .storageUpset _ _ _ content => content
  | .pinReset _ => []
  | .linkPinChange _ _ => []
  | .frameStart _ => []
  | .lineAbort _ => []
  | .classify => []
  | .refill => []
  | .malformedCommand => []
  | .unknownCommand => []
  | .discover => []
  | .openSession => []
  | .closeSession => []
  | .getSetting => []
  | .setNodeAddress => []
  | .setSessionTimeout => []
  | .setVerifyPeriod => []
  | .setFallback => []
  | .setPortEnable => []
  | .setQueueLimit => []
  | .setPoolLowMark => []
  | .setPoolHighMark => []
  | .readTable => []
  | .readNext => []
  | .writeTable => []
  | .commit => []
  | .abortEdit => []
  | .readCountersHits => []
  | .readCountersPort => []
  | .readCountersMeter => []
  | .readCountersPrefilter => []
  | .readCountersMgmt => []
  | .readCountersIntegrity => []
  | .readStatus => []
  | .setListener => []
  | .setListenerNone => []
  | .ackEvent => []
  | .restartLight => []
  | .restartFull => []
  | .lightRestart _ => []
  | .fullRestart _ _ => []
  | .sessionIdleExpiry => []
  | .signingStep => []
  | .swap => []
  | .copyingStep => []
  | .endOfCopying => []
  | .verifyPeriodExpiry => []
  | .sweepStep => []
  | .verdictPass => []
  | .verdictFail => []
  | .reserveGrant => []
  | .mgmtOutAdmit _ => []
  | .transmissionStart _ => []
  | .transmissionEnd _ => []
  | .eventSend => []
  | .retryTimerExpiry => []
  | .puntTake => []
  | .uptimeCount => []

/-- A well-formed command carries at most the 1042 bytes that a reception can tell apart (R125). -/
def Statement (i : Instr) : Prop := i.wellFormed = true → (carried i).length ≤ 1042

theorem pinReset (a : Pins) : Statement (.pinReset a) := fun _ => Nat.zero_le _
theorem linkPinChange (p : Port) (l : LinkState) : Statement (.linkPinChange p l) :=
  fun _ => Nat.zero_le _
theorem frameStart (p : Port) : Statement (.frameStart p) := fun _ => Nat.zero_le _
theorem receptionCellClaim (p : Port) (bytes : List Byte) : Statement (.receptionCellClaim p bytes) := by
  intro h
  simp only [Instr.wellFormed, Bool.and_eq_true, decide_eq_true_eq] at h
  have hm : Config.maxFrameBytes = 1041 := rfl
  simp only [carried]
  omega
theorem oversizeCutoff (p : Port) (bytes : List Byte) : Statement (.oversizeCutoff p bytes) := by
  intro h
  simp only [Instr.wellFormed, Bool.and_eq_true, decide_eq_true_eq] at h
  have hm : Config.maxFrameBytes = 1041 := rfl
  simp only [carried]
  omega
theorem lineAbort (p : Port) : Statement (.lineAbort p) := fun _ => Nat.zero_le _
theorem frameEnd (p : Port) (bytes : List Byte) : Statement (.frameEnd p bytes) := by
  intro h
  simp only [Instr.wellFormed, decide_eq_true_eq] at h
  have hm : Config.maxFrameBytes = 1041 := rfl
  simp only [carried]
  omega
theorem classify : Statement .classify := fun _ => Nat.zero_le _
theorem refill : Statement .refill := fun _ => Nat.zero_le _
theorem malformedCommand : Statement .malformedCommand := fun _ => Nat.zero_le _
theorem unknownCommand : Statement .unknownCommand := fun _ => Nat.zero_le _
theorem discover : Statement .discover := fun _ => Nat.zero_le _
theorem openSession : Statement .openSession := fun _ => Nat.zero_le _
theorem closeSession : Statement .closeSession := fun _ => Nat.zero_le _
theorem getSetting : Statement .getSetting := fun _ => Nat.zero_le _
theorem setNodeAddress : Statement .setNodeAddress := fun _ => Nat.zero_le _
theorem setSessionTimeout : Statement .setSessionTimeout := fun _ => Nat.zero_le _
theorem setVerifyPeriod : Statement .setVerifyPeriod := fun _ => Nat.zero_le _
theorem setFallback : Statement .setFallback := fun _ => Nat.zero_le _
theorem setPortEnable : Statement .setPortEnable := fun _ => Nat.zero_le _
theorem setQueueLimit : Statement .setQueueLimit := fun _ => Nat.zero_le _
theorem setPoolLowMark : Statement .setPoolLowMark := fun _ => Nat.zero_le _
theorem setPoolHighMark : Statement .setPoolHighMark := fun _ => Nat.zero_le _
theorem readTable : Statement .readTable := fun _ => Nat.zero_le _
theorem readNext : Statement .readNext := fun _ => Nat.zero_le _
theorem writeTable : Statement .writeTable := fun _ => Nat.zero_le _
theorem commit : Statement .commit := fun _ => Nat.zero_le _
theorem abortEdit : Statement .abortEdit := fun _ => Nat.zero_le _
theorem readCountersHits : Statement .readCountersHits := fun _ => Nat.zero_le _
theorem readCountersPort : Statement .readCountersPort := fun _ => Nat.zero_le _
theorem readCountersMeter : Statement .readCountersMeter := fun _ => Nat.zero_le _
theorem readCountersPrefilter : Statement .readCountersPrefilter := fun _ => Nat.zero_le _
theorem readCountersMgmt : Statement .readCountersMgmt := fun _ => Nat.zero_le _
theorem readCountersIntegrity : Statement .readCountersIntegrity := fun _ => Nat.zero_le _
theorem readStatus : Statement .readStatus := fun _ => Nat.zero_le _
theorem setListener : Statement .setListener := fun _ => Nat.zero_le _
theorem setListenerNone : Statement .setListenerNone := fun _ => Nat.zero_le _
theorem ackEvent : Statement .ackEvent := fun _ => Nat.zero_le _
theorem restartLight : Statement .restartLight := fun _ => Nat.zero_le _
theorem restartFull : Statement .restartFull := fun _ => Nat.zero_le _
theorem lightRestart (by_ : SettledBy) : Statement (.lightRestart by_) := fun _ => Nat.zero_le _
theorem fullRestart (by_ : SettledBy) (x : Straps) : Statement (.fullRestart by_ x) :=
  fun _ => Nat.zero_le _
theorem sessionIdleExpiry : Statement .sessionIdleExpiry := fun _ => Nat.zero_le _
theorem signingStep : Statement .signingStep := fun _ => Nat.zero_le _
theorem swap : Statement .swap := fun _ => Nat.zero_le _
theorem copyingStep : Statement .copyingStep := fun _ => Nat.zero_le _
theorem endOfCopying : Statement .endOfCopying := fun _ => Nat.zero_le _
theorem verifyPeriodExpiry : Statement .verifyPeriodExpiry := fun _ => Nat.zero_le _
theorem sweepStep : Statement .sweepStep := fun _ => Nat.zero_le _
theorem verdictPass : Statement .verdictPass := fun _ => Nat.zero_le _
theorem verdictFail : Statement .verdictFail := fun _ => Nat.zero_le _
theorem storageUpset (b : BankId) (t : Table) (n : Nat) (content : List Byte) :
    Statement (.storageUpset b t n content) := by
  intro h
  simp only [Instr.wellFormed, upsetFits, Bool.and_eq_true, decide_eq_true_eq] at h
  simp only [carried, h.2]
  cases t <;> decide
theorem reserveGrant : Statement .reserveGrant := fun _ => Nat.zero_le _
theorem mgmtOutAdmit (p : Port) : Statement (.mgmtOutAdmit p) := fun _ => Nat.zero_le _
theorem transmissionStart (p : Port) : Statement (.transmissionStart p) := fun _ => Nat.zero_le _
theorem transmissionEnd (p : Port) : Statement (.transmissionEnd p) := fun _ => Nat.zero_le _
theorem eventSend : Statement .eventSend := fun _ => Nat.zero_le _
theorem retryTimerExpiry : Statement .retryTimerExpiry := fun _ => Nat.zero_le _
theorem puntTake : Statement .puntTake := fun _ => Nat.zero_le _
theorem uptimeCount : Statement .uptimeCount := fun _ => Nat.zero_le _

end Sys2Proof.Laws.CarriedBytes
end

