-- ==== Sys2Proof/Laws/Posts.lean ====
section
/-! SUPPORT. What a post and an evaluation of the pool come to, said once in the terms the statements use. -/

namespace Sys2Proof.Machine

open Sys2Proof.Safety

namespace Commons

/-- The detail of every event is at most 8 bytes, so every event report takes one reserve cell (R172). -/
theorem eventReport_cells (l : Listener) (n : Word16) (r : EventRecord) (w : Word16) :
    (eventReport l n r w).cells = 1 := by
  have h : (eventPayload r w).length = 22 := by
    simp [eventPayload, padTo, word16Bytes, word32Bytes, beBytes]
  simp [Built.cells, eventReport, h, cellsForPayload, ceilDiv, Config.cellBytes]

/-- What the environment of a part says of a port. -/
theorem env_up (v : State) (p : Port) : v.env.up p = decide ((v.port p).oper = .up) := by
  cases p <;> rfl

/-- The event unit accepts a post as R169 says. -/
theorem accept_accepted (v : State) (k : EventKind) (x : Commons) :
    Accepted v x (accept v.env k x) k := by
  unfold Accepted accept
  simp only [Config.eventDepth]
  by_cases h : x.events.queue.length < 16 <;> simp [h, State.env, seqAfter, loseEvent]

/-- An acceptance changes the queue, its numbers and the counts of what is lost. -/
theorem accept_eq (e : Env) (k : EventKind) (x : Commons) :
    accept e k x = { x with
      events := { x.events with
        queue := (accept e k x).events.queue, nextSeq := (accept e k x).events.nextSeq
        lost := (accept e k x).events.lost }
      mgmt := { x.mgmt with eventsLost := (accept e k x).mgmt.eventsLost } } := by
  unfold accept
  split <;> rfl

/-- Without an idle sender and a listener on an UP port no send begins (R172). -/
theorem trySend_stays (v : State) (x : Commons)
    (h : x.events.sender ≠ .idle ∨
      ∀ l : Listener, x.events.listener = some l → (v.port l.port).oper ≠ .up) :
    trySend v.env x = x := by
  unfold trySend
  split
  · rename_i l h1 h2
    have := h.resolve_left (fun hn => hn h1) l h2
    simp [env_up, this]
  · rfl

/-- The grant of a waiting claim of an event report (R131, R172). -/
theorem grantEvent_claiming (v : State) (x : Commons) (w : Awaiting) (l : Listener) (r : EventRecord)
    (rest : List EventRecord) (h1 : x.events.sender = .awaiting w) (h2 : w.flight = .claiming)
    (h3 : x.events.listener = some l) (h4 : x.events.queue = r :: rest) :
    grantEvent v.env x =
      if 1 ≤ x.pool.freeReserve then
        offerEvent v.env w (eventReport l v.endpoint.nodeAddress r w.captured) (x.takeReserve 1)
      else x := by
  unfold grantEvent
  rw [h1, h3, h4]
  simp [h2, eventReport_cells, State.env]

/-- The offer of an event report to an UP port (R140, R172). -/
theorem offerEvent_up (v : State) (w : Awaiting) (b : Built) (x : Commons)
    (h : (v.port b.port).oper = .up) :
    offerEvent v.env w b x =
      if x.hasRoom b.port && !x.responseOfferWaits b.port then x.admitEvent w b
      else x.setSender (.awaiting { w with flight := .offering b }) := by
  simp [offerEvent, env_up, h]

/-- An event report that joins its queue (R172). -/
theorem admitEvent_eq (x : Commons) (w : Awaiting) (b : Built) :
    x.admitEvent w b = { x with
      mgmtOutA := if b.port = .a then x.mgmtOutA ++ [b] else x.mgmtOutA
      mgmtOutB := if b.port = .b then x.mgmtOutB ++ [b] else x.mgmtOutB
      events := { x.events with sender := .awaiting { w with timer := true, flight := .queued } } } := by
  cases hb : b.port <;> simp [admitEvent, pushMgmtOut, setMgmtOut, mgmtOut, setSender, hb]

/-- The send that an idle sender of a listener on an UP port begins (R131, R140, R172). -/
theorem trySend_begins (v : State) (x : Commons) (l : Listener) (r : EventRecord)
    (rest : List EventRecord) (h1 : x.events.sender = .idle) (h2 : x.events.listener = some l)
    (h3 : (v.port l.port).oper = .up) (h4 : x.events.queue = r :: rest) :
    let w : Awaiting := { retry := 0, captured := x.events.lost, timer := false, flight := .claiming }
    let report := eventReport l v.endpoint.nodeAddress r x.events.lost
    trySend v.env x =
      if x.responseClaimWaits ∨ x.pool.freeReserve = 0 then x.setSender (.awaiting w)
      else if x.hasRoom l.port ∧ x.responseOfferWaits l.port = false then
        ((x.takeReserve 1).setSender (.awaiting w)).admitEvent w report
      else (x.takeReserve 1).setSender (.awaiting { w with flight := .offering report }) := by
  have hup : v.env.up l.port = true := by simp [env_up, h3]
  intro w report
  have hsend : trySend v.env x = claimEvent v.env (x.setSender (.awaiting w)) := by
    simp [trySend, h1, h2, hup, h4, w]
  rw [hsend, claimEvent, grantEvent_claiming v (x.setSender (.awaiting w)) w l r rest rfl rfl h2 h4,
    offerEvent_up v w report _ h3]
  have hclaim : (x.setSender (.awaiting w)).responseClaimWaits = x.responseClaimWaits := rfl
  have hroom : ((x.setSender (.awaiting w)).takeReserve 1).hasRoom report.port = x.hasRoom l.port := by
    show Commons.hasRoom _ l.port = _
    cases l.port <;> rfl
  have hwait : ((x.setSender (.awaiting w)).takeReserve 1).responseOfferWaits report.port =
      x.responseOfferWaits l.port := rfl
  rw [hclaim, hroom, hwait]
  cases x.responseClaimWaits <;> by_cases hb : x.pool.freeReserve = 0 <;>
    cases x.hasRoom l.port <;> cases x.responseOfferWaits l.port <;>
    simp [hb, Nat.one_le_iff_ne_zero] <;> rfl

/-- A post is an acceptance and the send it begins, and nothing else. -/
theorem post_postedOn (v : State) (k : EventKind) (x : Commons) :
    PostedOn v x (post v.env k x) k := by
  have ha := accept_accepted v k x
  have hz := accept_eq v.env k x
  unfold post
  generalize accept v.env k x = z at ha hz ⊢
  have hsnd : z.events.sender = x.events.sender := by rw [hz]
  have hlis : z.events.listener = x.events.listener := by rw [hz]
  have hout : z.output = x.output := by rw [hz]
  have hpool : z.pool = x.pool := by rw [hz]
  have hA : z.mgmtOutA = x.mgmtOutA := by rw [hz]
  have hB : z.mgmtOutB = x.mgmtOutB := by rw [hz]
  have hq : ∀ p, z.mgmtOut p = x.mgmtOut p := fun p => by cases p <;> assumption
  by_cases hs : x.events.sender ≠ .idle ∨
      ∀ l : Listener, x.events.listener = some l → (v.port l.port).oper ≠ .up
  · rw [trySend_stays v z (by rw [hsnd, hlis]; exact hs)]
    refine ⟨ha, ?_, fun _ => ⟨hsnd, hA, hB, by rw [hpool]⟩, fun l _ _ h1 h2 h3 => ?_⟩
    · rw [hz]
    · exact absurd h3 ((hs.resolve_left fun h => h h1) l h2)
  · push Not at hs
    obtain ⟨h1, l, h2, h3⟩ := hs
    have hne : ∃ r rest, z.events.queue = r :: rest := by
      have : z.events.queue ≠ [] := by
        intro hn
        unfold Accepted at ha
        rw [hn] at ha
        split at ha
        · simp at ha
        · rename_i hn; exact hn (by rw [← ha.1]; decide)
      exact List.exists_cons_of_ne_nil this
    obtain ⟨r, rest, h4⟩ := hne
    have ht := trySend_begins v z l r rest (by rw [hsnd]; exact h1) (by rw [hlis]; exact h2) h3 h4
    dsimp only at ht
    have hclaims : (∃ b, x.output = .claiming b) ↔ z.responseClaimWaits = true := by
      unfold responseClaimWaits
      rw [hout]
      cases x.output <;> simp
    have hoffers : (∃ b : Built, x.output = .offering b ∧ b.port = l.port) ↔
        z.responseOfferWaits l.port = true := by
      unfold responseOfferWaits
      rw [hout]
      cases x.output <;> simp
    have hroom : 4 ≤ (x.mgmtOut l.port).length ↔ z.hasRoom l.port = false := by
      simp [hasRoom, Config.mgmtOutDepth, hq]
    have hnot : (∀ b, x.output ≠ .claiming b) ↔ ¬z.responseClaimWaits = true := by
      rw [← hclaims]; simp
    have hany : ∀ y : Commons, y.events.queue = z.events.queue → y.events.lost = z.events.lost →
        y.events.nextSeq = z.events.nextSeq → y.mgmt = z.mgmt → Accepted v x y k := by
      intro y e1 e2 e3 e4
      unfold Accepted at ha ⊢
      rw [e1, e2, e3, e4]
      exact ha
    have hfalse : ¬(x.events.sender ≠ .idle ∨
        ∀ l : Listener, x.events.listener = some l → (v.port l.port).oper ≠ .up) := by
      push Not
      exact ⟨h1, l, h2, h3⟩
    by_cases c1 : z.responseClaimWaits = true ∨ z.pool.freeReserve = 0
    · rw [if_pos c1] at ht
      rw [ht]
      refine ⟨hany _ rfl rfl rfl rfl, ?_, fun h => absurd h hfalse, fun l' r' rest' _ h2' _ h4' => ?_⟩
      · rw [hz]; simp [setSender]
      · obtain rfl : l = l' := by simpa [h2] using h2'
        obtain ⟨rfl, -⟩ : r = r' ∧ rest = rest' := by simpa [h4] using h4'
        refine ⟨?_, fun _ => ⟨rfl, ?_, by rw [← hpool]; rfl⟩, fun hc hr => ?_⟩
        · rw [← hq]; cases otherPort l.port <;> rfl
        · rw [← hq]; cases l.port <;> rfl
        · rw [hnot, ← hpool] at *
          exact absurd c1 (by push Not; exact ⟨hc, by omega⟩)
    · rw [if_neg c1] at ht
      have hr : x.pool.freeReserve ≠ 0 := fun h => c1 (.inr (by rw [hpool]; exact h))
      have hidle : (∃ b, x.output = .claiming b) ∨ x.pool.freeReserve = 0 → False := fun h =>
        h.elim (fun h => c1 (.inl (hclaims.mp h))) hr
      by_cases c2 : z.hasRoom l.port = true ∧ z.responseOfferWaits l.port = false
      · rw [if_pos c2] at ht
        rw [ht, admitEvent_eq]
        refine ⟨hany _ rfl rfl rfl rfl, ?_, fun h => absurd h hfalse, fun l' r' rest' _ h2' _ h4' => ?_⟩
        · rw [hz]; simp [setSender, takeReserve]
        · obtain rfl : l = l' := by simpa [h2] using h2'
          obtain ⟨rfl, -⟩ : r = r' ∧ rest = rest' := by simpa [h4] using h4'
          refine ⟨?_, fun h => (hidle h).elim, fun _ _ => ⟨?_, fun h => ?_, fun _ => ⟨rfl, ?_⟩⟩⟩
          · cases hp : l.port <;> simp [mgmtOut, otherPort, eventReport, hp, setSender, takeReserve, hA, hB]
          · show z.pool.freeReserve - 1 + 1 = _
            rw [hpool]; omega
          · rw [hroom, hoffers] at h
            exact absurd c2 (by rcases h with h | h <;> simp [h])
          · cases hp : l.port <;> simp [mgmtOut, eventReport, hp, setSender, takeReserve, hA, hB]
      · rw [if_neg c2] at ht
        rw [ht]
        refine ⟨hany _ rfl rfl rfl rfl, ?_, fun h => absurd h hfalse, fun l' r' rest' _ h2' _ h4' => ?_⟩
        · rw [hz]; simp [setSender, takeReserve]
        · obtain rfl : l = l' := by simpa [h2] using h2'
          obtain ⟨rfl, -⟩ : r = r' ∧ rest = rest' := by simpa [h4] using h4'
          refine ⟨?_, fun h => (hidle h).elim, fun _ _ => ⟨?_, fun _ => ⟨rfl, ?_⟩, fun h => ?_⟩⟩
          · rw [← hq]; cases otherPort l.port <;> rfl
          · show z.pool.freeReserve - 1 + 1 = _
            rw [hpool]; omega
          · rw [← hq]; cases l.port <;> rfl
          · rw [hroom, hoffers] at h
            exact absurd (by simpa using h) c2

/-- The pool evaluates its state as R133 says. -/
theorem evalPool_evaluated (v : State) (x : Commons) : PoolEvaluated v x (evalPool v.env x) := by
  unfold evalPool PoolEvaluated
  cases hl : x.pool.low
  · by_cases hm : x.pool.freeGeneral < x.pool.lowMark
    · simp only [hm, if_true, Bool.false_eq_true, if_false]
      exact ⟨fun _ _ => post_postedOn v _ _, nofun, fun h => absurd (h trivial) (by omega)⟩
    · simp [hm]
  · by_cases hm : x.pool.highMark < x.pool.freeGeneral
    · simp only [hm, if_true]
      exact ⟨nofun, fun _ _ => post_postedOn v _ _, fun _ h => absurd (h trivial) (by omega)⟩
    · simp [hm]

end Commons

end Sys2Proof.Machine
end

