-- ==== Sys2Proof/Tests/Slice0.lean ====
section
/-! SUPPORT. Small tests of the model against the manual's own worked examples and tables, the refusals of
the well-formedness checks, and for every statement with hypotheses a witness: a concrete state and
operands that meet them. -/

namespace Sys2Proof.Tests

open Sys2Proof.Machine Sys2Proof.Safety

set_option Elab.async false

/-! ### Helpers -/

/-- The state a command leads to. -/
def nextOf : Host.Outcome State Fault Refusal → State
  | .next t => t
  | _ => State.reset

/-- The part after a pin reset that finds both links UP and node strap 3, so node address 0xFE03. -/
def fresh : State :=
  State.afterReset { nodeAddr := 3#4, fallbackActive := false } .up .up .power

/-- `n` general cells from cell `first` on. -/
def cellsFrom (first n : Nat) : List GeneralCell := ((List.finRange 512).drop first).take n

/-- A received frame with name 7, one cell and one holder. -/
def stored (p : Port) (dest src : Word16) (kind hop : Byte) (tags : TagStack) (payload : List Byte) :
    RxFrame :=
  let bytes := segmentFrame dest src kind hop tags payload
  { id := 7, holders := 1, bytes := bytes, record := makeRecord p bytes (cellsFrom 0 1) }

/-- A state that holds the one stored frame `f`. -/
def holding (f : RxFrame) (s : State) : State :=
  { s with commons := { s.commons with
      frames := [f], nextFrame := 8
      pool := { s.commons.pool with free := cellsFrom f.cells 512 } } }

/-- A management command from node 0x0233 on Port A at the head of the command queue. -/
def commanded (s : State) (code session seq : Byte) (params : List Byte) : State :=
  { holding (stored .a 0xFFFE#16 0x0233#16 2#8 255#8 .empty ([1#8, code, session, seq] ++ params)) s with
    endpoint := { s.endpoint with commands := [7] } }

/-- The session of the manual's example: number 7, owner 0x0233 on Port A (10.8). -/
def owned (s : State) : State :=
  { s with endpoint := { s.endpoint with
      session := some { node := 0x0233#16, port := .a, number := 7#8, lastSeq := none, replay := none
                        cursor := none, timer := 5000 }
      lastNumber := 7#8 } }

/-- The listener of the manual's example: node 0x0233 on Port A (11.7). -/
def listened (s : State) : State :=
  { s with commons := { s.commons with
      events := { s.commons.events with listener := some { node := 0x0233#16, port := .a } } } }

/-- An owner's command. -/
def asked (code : Byte) (params : List Byte) : State := commanded (owned fresh) code 7#8 10#8 params

/-- The payload of the last frame of the management-out queue of Port A. -/
def lastOut (s : State) : List Byte := ((s.commons.mgmtOutA.getLast?).map (·.payload)).getD []

/-- The status of the response a command row gives. -/
def statusOf (i : Instr) (s : State) : Byte := byteAt (lastOut (nextOf (exec i s))) 4

/-- The body of the response a command row gives. -/
def bodyOf (i : Instr) (s : State) : List Byte := (lastOut (nextOf (exec i s))).drop 6

/-- The head is a fresh command with this code and these parameters. -/
def ready (s : State) (code : Byte) (params : List Byte) : Bool :=
  match s.headFrame with
  | some f =>
    decide (Takes s f ∧ Fresh s (readCommand f) ∧ (readCommand f).code = code ∧
      (readCommand f).params = params)
  | none => false

/-! ### Well-formedness -/

theorem test_wf_refuses_empty_cell_claim : Instr.wellFormed (.receptionCellClaim .a []) = false := rfl

theorem test_wf_refuses_long_cell_claim :
    Instr.wellFormed (.receptionCellClaim .a (List.replicate 1042 0#8)) = false := by decide +kernel

theorem test_wf_refuses_empty_cutoff : Instr.wellFormed (.oversizeCutoff .b []) = false := rfl

theorem test_wf_refuses_long_cutoff :
    Instr.wellFormed (.oversizeCutoff .b (List.replicate 1043 0#8)) = false := by decide +kernel

theorem test_wf_refuses_long_frame_end :
    Instr.wellFormed (.frameEnd .a (List.replicate 1042 0#8)) = false := by decide +kernel

theorem test_wf_refuses_upset_index :
    Instr.wellFormed (.storageUpset .bank0 .meters 64 (List.replicate 6 1#8)) = false := by
  decide +kernel

theorem test_wf_refuses_upset_size :
    Instr.wellFormed (.storageUpset .bank0 .rules 0 (List.replicate 19 1#8)) = false := by
  decide +kernel

/-! ### Frames and the check function (chapter 1) -/

/-- The check value of the nine ASCII digits (R5). -/
theorem test_check_value :
    checkValue [0x31#8, 0x32#8, 0x33#8, 0x34#8, 0x35#8, 0x36#8, 0x37#8, 0x38#8, 0x39#8] =
      0xCBF43926#32 := by decide +kernel

/-- The first frame of 1.7: tag 0x5123, len 100, 115 received bytes, 2 cells. -/
def frame17 : List Byte :=
  segmentFrame 0x0412#16 0x0233#16 1#8 6#8 (.one 0x5123#16)
    ([0x7A#8, 0x01#8, 0x00#8, 0x3C#8] ++ List.replicate 96 0#8)

/-- The record of 1.7's first frame, in the first two general cells. -/
def record17 : FrameRecord := makeRecord .a frame17 (cellsFrom 0 2)

/-- The values of 1.7's first frame after intake. -/
theorem test_intake_record :
    cellsForImage frame17 = 2 ∧ record17.rxLen = 115 ∧ record17.len = 100 ∧
      record17.peek = 0x7A01003C#32 ∧ record17.tags = .one 0x5123#16 ∧
      record17.flags = 0x0100#16 ∧ record17.cellList.length = 2 := by
  decide +kernel

/-- The second cell is claimed when the image passes 64 bytes: 61 received bytes of an untagged frame
make 65 (R7). -/
theorem test_cells_at_a_boundary :
    cellsForImage (List.replicate 60 0#8) = 1 ∧ cellsForImage (List.replicate 61 0#8) = 2 := by
  decide +kernel

/-! ### Prefilter, lookup and lists (chapters 2 to 5) -/

/-- The buckets of 4.6: 0x123 and 0x02B in 43, 0x456 in 118, 0x5123 in 169, 0x5456 in 244. -/
theorem test_buckets :
    bucketOf 0x0123#16 = 43#8 ∧ bucketOf 0x002B#16 = 43#8 ∧ bucketOf 0x0456#16 = 118#8 ∧
      bucketOf 0x5123#16 = 169#8 ∧ bucketOf 0x5456#16 = 244#8 := by decide +kernel

/-- The PREFILTER record of 4.6: ENABLED, width 12, OUTER, KEY_ZERO, classes 2 and 5, buckets 43 and
118. -/
def screen46 : Bank :=
  Bank.setRecords [] .prefilter 0
    ([1#8, 0#8, 0#8, 1#8, 0x00#8, 0x24#8] ++ List.replicate 5 0#8 ++ [0x08#8] ++
      List.replicate 8 0#8 ++ [0x40#8] ++ List.replicate 17 0#8)

/-- The five frames of 4.6. -/
theorem test_prefilter_example :
    [TagStack.one 0x5123#16, .one 0x7123#16, .empty, .one 0x202B#16, .two 0x5456#16 0x7001#16].map
      (prefilterOutcome screen46) = [.hit, .bypass, .miss, .hit, .hit] := by decide +kernel

/-- A RULES slot that is STANDARD or a head: width marker and port match, kind and outer tag. -/
def slotHead (first kind kmask : Byte) (outer omask : Word16) (list : Byte) : List Byte :=
  [first, kind, kmask] ++ List.replicate 12 0#8 ++ word16Bytes outer ++ word16Bytes omask ++ [list]

/-- The tables of 2.10 and 3.7: slots 0, 2 with 3, 4 and 6, default lists 3 and 4, list 20, and meter 7
with rate 50 and burst 1000. -/
def tables210 : Bank :=
  let rules := slotHead 0x12#8 1#8 0xFF#8 0#16 0#16 9#8 ++ List.replicate 20 0#8 ++
    slotHead 0x20#8 1#8 0xFF#8 0x0123#16 0x0FFF#16 20#8 ++
    ([0x30#8, 0#8, 0#8, 0#8, 0#8, 0x7A#8, 0#8, 0#8, 0#8, 0xFF#8, 0#8, 0#8, 0#8, 0#8, 0#8] ++
      word16Bytes 64#16 ++ word16Bytes 512#16 ++ [0#8]) ++
    slotHead 0x10#8 1#8 0xFF#8 0x0123#16 0x0FFF#16 21#8 ++ List.replicate 20 0#8 ++
    slotHead 0x11#8 1#8 0xFF#8 0#16 0#16 30#8
  let step (verb : Byte) (required forbidden : Word16) (operand : Byte) (value mask : Word16) :
      List Byte :=
    [verb] ++ word16Bytes required ++ word16Bytes forbidden ++ [operand] ++ word16Bytes value ++
      word16Bytes mask
  let list20 := [8#8] ++ step 4#8 0#16 0#16 0#8 0#16 0#16 ++
    step 5#8 0#16 0#16 4#8 0x5000#16 0xF000#16 ++ step 3#8 0x1000#16 0#16 4#8 0x0456#16 0x0FFF#16 ++
    step 10#8 0#16 0#16 7#8 0#16 0#16 ++ step 2#8 0#16 0x4000#16 2#8 0#16 0#16 ++
    step 12#8 0x4000#16 0#16 0#8 0#16 0#16 ++ step 1#8 0#16 0#16 3#8 0#16 0#16 ++
    step 11#8 0#16 0#16 2#8 0#16 0#16
  Bank.setRecords (Bank.setRecords (Bank.setRecords (Bank.setRecords [] .rules 0 rules) .actions 20
    list20) .meters 7 (word16Bytes 50#16 ++ word32Bytes 1000#32)) .policy 0
    [3#8, 0#8, 0#8, 4#8, 0#8, 0#8]

/-- A record with the fields the examples name. -/
def record210 (p : Port) (kind : Byte) (tags : TagStack) (len : Nat) (peek : Word32) (rxLen : Nat) :
    FrameRecord :=
  { makeRecord p [] [] with
    kind := kind, hop := 6#8, tags := tags, len := len, peek := peek, rxLen := rxLen
    flags := intakeFlags tags }

/-- Frames 1 to 4 of 2.10: slots 2, 4, none and 0. -/
theorem test_lookup_example :
    lookup tables210 (record210 .a 1#8 (.one 0x5123#16) 100 0x7A01003C#32 115) = some 2 ∧
      lookup tables210 (record210 .a 1#8 (.one 0x2123#16) 40 0x7A110000#32 55) = some 4 ∧
      lookup tables210 (record210 .b 7#8 .empty 0 0#32 13) = none ∧
      lookup tables210 (record210 .b 1#8 (.one 0x5123#16) 200 0x7A000000#32 215) = some 0 := by
  decide +kernel

/-- Sixty-four meters, meter 7 holding `tokens`. -/
def meters7 (tokens : Nat) : Vector Meter 64 :=
  (Vector.replicate 64 Meter.zero).set 7 { tokens := tokens, green := 0#32, red := 0#32 }

/-- List 20 run on the frame of 3.7 with `tokens` in meter 7. -/
def run20 (tokens : Nat) : FrameRecord × Vector Meter 64 :=
  runList tables210 20 (record210 .a 1#8 (.one 0x5123#16) 100 0x7A01003C#32 115) (meters7 tokens)

/-- List 20 on frame 1 of 3.7: GREEN, class 2, no punt. -/
theorem test_list_green :
    (run20 1000).1.hop = 5#8 ∧ (run20 1000).1.tags = .one 0x5456#16 ∧
      (run20 1000).1.flags = 0x1100#16 ∧
      (run20 1000).1.disp = { dest := { a := true, b := true }, cls := 2, mirror := some .b
                              punt := false, drop := none } ∧
      (run20 1000).2[7] = { tokens := 885, green := 1#32, red := 0#32 } := by decide +kernel

/-- List 20 on frame 2 of 3.7: RED, class 0, punted. -/
theorem test_list_red :
    (run20 60).1.flags = 0x5100#16 ∧ (run20 60).1.disp.cls = 0 ∧ (run20 60).1.disp.punt = true ∧
      (run20 60).2[7] = { tokens := 60, green := 0#32, red := 1#32 } := by decide +kernel

/-- The part of the examples: generation 12 in NORMAL, the first frame of 1.7 in the ingress queue. -/
def classifying : State :=
  let f : RxFrame :=
    { id := 7, holders := 1, bytes := frame17, record := record17 }
  let s := holding f fresh
  { s with
    classifier := { s.classifier with mode := .normal, ingressA := [7] }
    tables := { s.tables with bank0 := tables210, generation := 12#16 }
    meters := meters7 1000
    verify := { s.verify with state := .waiting 1000 } }

/-- The part after its classification. -/
def classified : State := nextOf (exec .classify classifying)

/-- CLASSIFY: a hit at slot 2 of 115 bytes, and class 2 copies at both ports (3.7). -/
theorem test_classify :
    classified.classifier.current[2] = { frames := 1#40, bytes := 115#48 } ∧
      classified.classifier.ingressA = [] ∧
      (classified.portA.queue 2).entries = [{ frame := 7, cells := 2 }] ∧
      (classified.portB.queue 2).entries = [{ frame := 7, cells := 2 }] ∧
      classified.commons.frames.map (·.holders) = [2] := by decide +kernel

/-- REFILL of the meter example: 470 to 520, and no higher than the burst (5.7). -/
theorem test_refill :
    ((nextOf (exec .refill { classifying with meters := meters7 470 })).meters[7]).tokens = 520 ∧
      ((nextOf (exec .refill { classifying with meters := meters7 980 })).meters[7]).tokens = 1000 := by
  decide +kernel

/-! ### The commands (chapters 10 and 12) -/

/-- DISCOVER: 18 bytes, the identity record first (12.4). -/
theorem test_discover :
    bodyOf .discover (asked 1#8 []) =
      [0x0C#8, 0x5D#8, 0x00#8, 0x26#8, 0x01#8, 0x01#8, 0x02#8, 0x00#8, 0xFE#8, 0x03#8, 0#8, 0#8, 0#8,
        0#8, 1#8, 0x02#8, 0x33#8, 1#8] := by decide +kernel

/-- READ_STATUS: a body of 79 bytes (12.4). -/
theorem test_read_status : (bodyOf .readStatus (asked 12#8 [])).length = 79 := by decide +kernel

/-- OPEN_SESSION with no session open: OK with session number 1 after reset, timeout 50 (10.8). -/
theorem test_open_session :
    lastOut (nextOf (exec .openSession (commanded fresh 2#8 0#8 1#8 []))) =
      [1#8, 2#8, 1#8, 1#8, 0#8, 0#8, 1#8, 0#8, 50#8] := by decide +kernel

/-- CLOSE_SESSION: OK, and the session is NONE. -/
theorem test_close_session :
    statusOf .closeSession (asked 3#8 []) = 0#8 ∧
      (nextOf (exec .closeSession (asked 3#8 []))).endpoint.session = none := by decide +kernel

/-- RESTART: OK, RESTART_PENDING once the response has joined its queue; another kind is BAD_VALUE. -/
theorem test_restart :
    (nextOf (exec .restartLight (asked 15#8 [1#8]))).commons.output = .restartPending .light ∧
      (nextOf (exec .restartFull (asked 15#8 [2#8]))).commons.output = .restartPending .full ∧
      statusOf .restartLight (asked 15#8 [3#8]) = 8#8 := by decide +kernel

/-- GET_SETTING of node_address and of the queue limit of Port B, class 3; setting 9 is BAD_VALUE. -/
theorem test_get_setting :
    bodyOf .getSetting (asked 4#8 [1#8, 0#8]) = [1#8, 0#8, 0xFE#8, 0x03#8] ∧
      bodyOf .getSetting (asked 4#8 [6#8, 0x23#8]) = [6#8, 0x23#8, 0#8, 128#8] ∧
      statusOf .getSetting (asked 4#8 [9#8, 0#8]) = 8#8 := by decide +kernel

/-- Each SET_SETTING at the edges of its range: the last value taken and the first refused. -/
theorem test_set_settings :
    [(Instr.setNodeAddress, [1#8, 0#8, 0xFF#8, 0xFD#8]), (.setNodeAddress, [1#8, 0#8, 0xFF#8, 0xFE#8]),
      (.setSessionTimeout, [2#8, 0#8, 0x02#8, 0x58#8]), (.setSessionTimeout, [2#8, 0#8, 0x02#8, 0x59#8]),
      (.setVerifyPeriod, [3#8, 0#8, 0xEA#8, 0x60#8]), (.setVerifyPeriod, [3#8, 0#8, 0#8, 9#8]),
      (.setFallback, [4#8, 0x20#8, 0#8, 1#8]), (.setFallback, [4#8, 0x20#8, 0#8, 2#8]),
      (.setPortEnable, [5#8, 0x20#8, 0#8, 0#8]), (.setPortEnable, [5#8, 0x30#8, 0#8, 0#8]),
      (.setQueueLimit, [6#8, 0x13#8, 2#8, 0#8]), (.setQueueLimit, [6#8, 0x13#8, 2#8, 1#8]),
      (.setPoolLowMark, [7#8, 0#8, 0#8, 127#8]), (.setPoolLowMark, [7#8, 0#8, 0#8, 128#8]),
      (.setPoolHighMark, [8#8, 0#8, 2#8, 0#8]), (.setPoolHighMark, [8#8, 0#8, 2#8, 1#8])].map
      (fun (x : Instr × List Byte) => statusOf x.1 (asked 5#8 x.2)) =
      [0#8, 8#8, 0#8, 8#8, 0#8, 8#8, 0#8, 8#8, 0#8, 8#8, 0#8, 8#8, 0#8, 8#8, 0#8, 8#8] := by
  decide +kernel

/-- READ_TABLE of 13 RULES slots from slot 0 returns 11 and sets the cursor to 11; READ_TABLE past the
end is BAD_INDEX, of table 6 BAD_TABLE, of 0 records BAD_VALUE (R161). -/
theorem test_read_table :
    (bodyOf .readTable (asked 6#8 [5#8, 0#8, 0#8, 0#8, 0#8, 13#8])).take 3 = [0#8, 11#8, 11#8] ∧
      ((nextOf (exec .readTable (asked 6#8 [5#8, 0#8, 0#8, 0#8, 0#8, 13#8]))).cursor.map (·.next)) =
        some 11 ∧
      statusOf .readTable (asked 6#8 [5#8, 1#8, 0x01#8, 0xFF#8, 0#8, 2#8]) = 6#8 ∧
      statusOf .readTable (asked 6#8 [6#8, 0#8, 0#8, 0#8, 0#8, 1#8]) = 5#8 ∧
      statusOf .readTable (asked 6#8 [5#8, 0#8, 0#8, 0#8, 0#8, 0#8]) = 8#8 := by decide +kernel

/-- The owner's session with a read cursor. -/
def cursored (next : Nat) (s : State) : State :=
  s.withSession fun o => { o with cursor := some { table := .meters, role := .active, next := next } }

/-- READ_NEXT near and at the end of METERS, and without a cursor (R161). -/
theorem test_read_next :
    (bodyOf .readNext (cursored 62 (asked 7#8 []))).take 3 = [0#8, 64#8, 2#8] ∧
      (bodyOf .readNext (cursored 64 (asked 7#8 []))).take 3 = [0#8, 64#8, 0#8] ∧
      statusOf .readNext (asked 7#8 []) = 8#8 := by decide +kernel

/-- WRITE_TABLE of meter 63 is written to the shadow and marks it dirty; of meter 64 it is BAD_INDEX
(R94, R95). -/
theorem test_write_table :
    statusOf .writeTable (asked 8#8 [3#8, 0#8, 63#8, 0#8, 50#8, 0#8, 0#8, 3#8, 0xE8#8]) = 0#8 ∧
      (nextOf (exec .writeTable
        (asked 8#8 [3#8, 0#8, 63#8, 0#8, 50#8, 0#8, 0#8, 3#8, 0xE8#8]))).tables.bank1 =
        [(423, 50#8), (426, 3#8), (427, 0xE8#8)] ∧
      statusOf .writeTable (asked 8#8 [3#8, 0#8, 64#8, 0#8, 50#8, 0#8, 0#8, 3#8, 0xE8#8]) = 6#8 := by
  decide +kernel

/-- COMMIT: ACCEPTED with pending generation 1 after reset, and SIGNING; a second is BUSY (R96). -/
theorem test_commit :
    lastOut (nextOf (exec .commit (asked 9#8 []))) =
        [1#8, 9#8, 7#8, 10#8, 1#8, 0#8, 0#8, 1#8] ∧
      statusOf .commit { asked 9#8 [] with tables := { Controller.afterReset with
        state := .signing (some firstRecord) checkInit } } = 2#8 := by decide +kernel

/-- ABORT_EDIT: ACCEPTED in EDITING, OK in COPYING, FAULTED in FAULTED mode (R105). -/
theorem test_abort_edit :
    statusOf .abortEdit (asked 10#8 []) = 1#8 ∧
      statusOf .abortEdit { asked 10#8 [] with tables := { Controller.afterReset with
        state := .copying none } } = 0#8 ∧
      statusOf .abortEdit { asked 10#8 [] with classifier :=
        { (asked 10#8 []).classifier with mode := .faulted } } = 9#8 := by decide +kernel

/-- READ_COUNTERS of every group: the length of its body, at the last slot and meter (R163). -/
theorem test_read_counters :
    (bodyOf .readCountersHits (asked 11#8 [1#8, 0#8, 1#8, 0x01#8, 0xFF#8, 0#8, 1#8])).length = 17 ∧
      (bodyOf .readCountersPort (asked 11#8 [2#8, 2#8, 1#8])).length = 152 ∧
      (bodyOf .readCountersMeter (asked 11#8 [3#8, 0#8, 1#8, 0#8, 63#8, 0#8, 1#8])).length = 14 ∧
      (bodyOf .readCountersPrefilter (asked 11#8 [4#8, 0#8, 1#8])).length = 12 ∧
      (bodyOf .readCountersMgmt (asked 11#8 [5#8, 0#8, 1#8])).length = 20 ∧
      (bodyOf .readCountersIntegrity (asked 11#8 [6#8, 0#8, 1#8])).length = 19 := by decide +kernel

/-- READ_COUNTERS past the 512 slots is BAD_INDEX, a clear of PREVIOUS BAD_VALUE (R163). -/
theorem test_read_counters_refused :
    statusOf .readCountersHits (asked 11#8 [1#8, 0#8, 0#8, 0x01#8, 0xFF#8, 0#8, 2#8]) = 6#8 ∧
      statusOf .readCountersHits (asked 11#8 [1#8, 1#8, 1#8, 0#8, 0#8, 0#8, 1#8]) = 8#8 := by
  decide +kernel

/-- SET_LISTENER replaces the listener, and none clears it (R164). -/
theorem test_set_listener :
    (nextOf (exec .setListener (asked 13#8 [0xFF#8, 0xFD#8, 2#8]))).commons.events.listener =
        some { node := 0xFFFD#16, port := .b } ∧
      (nextOf (exec .setListenerNone
        (listened (asked 13#8 [0#8, 0#8, 0#8])))).commons.events.listener = none ∧
      statusOf .setListener (asked 13#8 [0xFF#8, 0xFE#8, 2#8]) = 8#8 := by decide +kernel

/-- The sender waits for the acknowledgement of its head, which carried lost value 2 (11.7). -/
def awaitingAck (retry : Nat) (s : State) : State :=
  { listened s with commons := { (listened s).commons with
      events := { (listened s).commons.events with
        queue := [{ seq := 41#16, uptime := 0#32, generation := 14#16
                    kind := .commitDone 14#16 0#32 none }]
        nextSeq := 42#16, lost := 2#16
        sender := .awaiting { retry := retry, captured := 2#16, timer := true, flight := .queued } } } }

/-- ACK_EVENT 41: OK, the head is gone and the lost count is 0; ACK_EVENT 40 is BAD_VALUE (11.7). -/
theorem test_ack_event :
    (nextOf (exec .ackEvent (awaitingAck 0 (asked 14#8 [0#8, 41#8])))).commons.events.queue = [] ∧
      (nextOf (exec .ackEvent (awaitingAck 0 (asked 14#8 [0#8, 41#8])))).commons.events.lost = 0#16 ∧
      statusOf .ackEvent (awaitingAck 0 (asked 14#8 [0#8, 40#8])) = 8#8 := by decide +kernel

/-- An unassigned code, a short payload, and a command of another node (R152, R155). -/
theorem test_refused_commands :
    statusOf .unknownCommand (asked 16#8 []) = 10#8 ∧
      (nextOf (exec .malformedCommand { holding (stored .a 0xFFFE#16 0x0233#16 2#8 255#8 .empty
        [1#8, 1#8, 0#8]) fresh with endpoint := { fresh.endpoint with
          commands := [7] } })).commons.mgmt.malformed = 1#32 ∧
      statusOf .commit (commanded fresh 9#8 7#8 10#8 []) = 4#8 := by decide +kernel

/-! ### Ports, egress, tables and events -/

/-- FRAME_START claims the first cell; FRAME_END of a command frame to NEAREST stores it (R124, R127). -/
theorem test_reception :
    (nextOf (exec (.frameStart .a) fresh)).commons.pool.freeGeneral = 511 ∧
      (nextOf (exec (.frameEnd .a (segmentFrame 0xFFFE#16 0x0233#16 2#8 255#8 .empty
        [1#8, 1#8, 0#8, 0#8])) (nextOf (exec (.frameStart .a) fresh)))).endpoint.commands = [0] := by
  decide +kernel

/-- RECEPTION_CELL_CLAIM of 61 bytes takes a second cell; OVERSIZE_CUTOFF at byte 1042 returns all. -/
theorem test_reception_cells :
    (nextOf (exec (.receptionCellClaim .a (List.replicate 61 0#8))
        (nextOf (exec (.frameStart .a) fresh)))).commons.pool.freeGeneral = 510 ∧
      (nextOf (exec (.oversizeCutoff .a [0#8]) { fresh with portA := { fresh.portA with
        reception := some (.receiving (List.replicate 1041 0#8) (cellsFrom 0 17)) } })).portA.reception =
        some .discarding := by decide +kernel

/-- LINE_ABORT ends the reception and counts it. -/
theorem test_line_abort :
    (nextOf (exec (.lineAbort .a) (nextOf (exec (.frameStart .a) fresh)))).portA.counter .lineAbort =
      1#32 := by decide +kernel

/-- LINK_PIN_CHANGE to DOWN ends the owner's session through that port with reason LINK (R123). -/
theorem test_link_pin :
    ((nextOf (exec (.linkPinChange .a .down) (owned fresh))).commons.events.queue.map (·.kind)) =
      [.restarted .power, .linkDown .a .down, .sessionEnded .link 0x0233#16 7#8] := by decide +kernel

/-- TRANSMISSION_START at Port A sends the class 2 copy with hop 5 and tag 0x5456 (3.7). -/
theorem test_transmission_start :
    ((nextOf (exec (.transmissionStart .a) classified)).portA.tx.map (·.wire.take 9)) =
      some [0x04#8, 0x12#8, 0x02#8, 0x33#8, 1#8, 5#8, 1#8, 0x54#8, 0x56#8] := by decide +kernel

/-- TRANSMISSION_END counts the frame and leaves the transmitter idle (R144). -/
theorem test_transmission_end :
    (nextOf (exec (.transmissionEnd .a)
        (nextOf (exec (.transmissionStart .a) classified)))).portA.counter .transmitted = 1#32 ∧
      (nextOf (exec (.transmissionEnd .a)
        (nextOf (exec (.transmissionStart .a) classified)))).portA.tx = none := by decide +kernel

/-- EVENT_SEND sends the head to the listener in one reserve cell (R172). -/
theorem test_event_send :
    (nextOf (exec .eventSend (listened fresh))).commons.pool.freeReserve = 23 ∧
      (lastOut (nextOf (exec .eventSend (listened fresh)))).length = 22 := by decide +kernel

/-- RETRY_TIMER_EXPIRY resends below retry 3 and gives the head up at 3, the lost count then 3 (11.7). -/
theorem test_retry :
    (nextOf (exec .retryTimerExpiry (awaitingAck 2 fresh))).commons.events.sender =
        .awaiting { retry := 3, captured := 2#16, timer := true, flight := .queued } ∧
      (nextOf (exec .retryTimerExpiry (awaitingAck 3 fresh))).commons.events.lost = 3#16 := by
  decide +kernel

/-- UPTIME_COUNT wraps (R166). -/
theorem test_uptime :
    (nextOf (exec .uptimeCount { fresh with endpoint := { fresh.endpoint with
      uptime := 0xFFFFFFFF#32 } })).endpoint.uptime = 0#32 := by decide +kernel

/-- SESSION_IDLE_EXPIRY ends the session (R157). -/
theorem test_idle_expiry :
    (nextOf (exec .sessionIdleExpiry (owned fresh))).endpoint.session = none := by decide +kernel

/-- The part in SIGNING with its last record taken. -/
def signed : State :=
  { fresh with tables := { fresh.tables with
      state := .signing none 0x12345678#32, origin := some 0x0233#16 } }

/-- SWAP: generation 1, NORMAL, the other bank active, the check value stored (R101). -/
theorem test_swap :
    (nextOf (exec .swap signed)).tables.generation = 1#16 ∧
      (nextOf (exec .swap signed)).tables.active = .bank1 ∧
      (nextOf (exec .swap signed)).tables.signature = 0xEDCBA987#32 ∧
      (nextOf (exec .swap signed)).classifier.mode = .normal := by decide +kernel

/-- SIGNING_STEP on a burst of 2,000,000: COMMIT_FAILED with reason BURST (R99, R100). -/
theorem test_signing_step :
    ((nextOf (exec .signingStep { fresh with tables := { fresh.tables with
        bank1 := Bank.setRecords [] .meters 5 (word16Bytes 1#16 ++ word32Bytes 2000000#32)
        state := .signing (some { table := .meters, index := 5 }) 0#32
        origin := some 0x0233#16 } })).commons.events.queue.getLast?.map (·.kind)) =
      some (.commitFailed { table := .meters, index := 5 } none .burst (some 0x0233#16)) := by
  decide +kernel

/-- COPYING_STEP copies one record; END_OF_COPYING gives a clean EDITING (R103). -/
theorem test_copying :
    (nextOf (exec .copyingStep { classifying with tables := { classifying.tables with
        state := .copying (some { table := .policy, index := 0 }) } })).tables.bank1 =
        [(0, 3#8), (3, 4#8)] ∧
      (nextOf (exec .endOfCopying { fresh with tables := { fresh.tables with
        state := .copying none, dirty := true } })).tables.dirty = false := by decide +kernel

/-- The verify unit's rows: a sweep begins, takes a record, and its verdict follows (R112 to R115). -/
theorem test_verify :
    (nextOf (exec .verifyPeriodExpiry classifying)).verify.state =
        .sweeping (some firstRecord) 0xFFFFFFFF#32 ∧
      (nextOf (exec .sweepStep (nextOf (exec .verifyPeriodExpiry classifying)))).verify.state =
        .sweeping (some { table := .prefilter, index := 0 })
          (checkBytes 0xFFFFFFFF#32 [3#8, 0#8, 0#8, 4#8, 0#8, 0#8]) ∧
      (nextOf (exec .verdictFail { classifying with verify := { classifying.verify with
        state := .sweeping none 0#32 } })).classifier.mode = .faulted ∧
      (nextOf (exec .verdictPass { classifying with verify := { classifying.verify with
        state := .sweeping none 0xFFFFFFFF#32 } })).verify.passes = 1#32 := by decide +kernel

/-- STORAGE_UPSET of the active meter 7 lowers its tokens to the new burst (R86). -/
theorem test_upset :
    ((nextOf (exec (.storageUpset .bank0 .meters 7 (word16Bytes 50#16 ++ word32Bytes 400#32))
      classifying)).meters[7]).tokens = 400 := by decide +kernel

/-- PIN_RESET reads the straps and the link pins (R136, R149). -/
theorem test_pin_reset :
    (nextOf (exec (.pinReset { straps := { nodeAddr := 9#4, fallbackActive := true }, aLink := .up
                               bLink := .down }) classified)).endpoint.nodeAddress = 0xFE09#16 ∧
      (nextOf (exec (.pinReset { straps := { nodeAddr := 9#4, fallbackActive := true }, aLink := .up
                                 bLink := .down }) classified)).classifier.fallbackB = .block := by
  decide +kernel

/-! ### Witnesses: the machine and its laws -/

theorem witness_StepRunsFrontCommand :
    { fresh with pending := [.refill, .swap] }.pending = .refill :: [.swap] ∧ fresh.pending = [] :=
  ⟨rfl, rfl⟩

theorem witness_CommandsLeaveTheQueue : ∃ t, exec .uptimeCount fresh = .next t := ⟨_, rfl⟩

/-- A part at work: a classified frame in both class queues, a command waiting. -/
def working : State := { classified with pending := [.transmissionStart .a] }

theorem witness_BanksStayCanonical : BanksCanonical working ∧ ∃ t, step working = .next t :=
  ⟨by decide +kernel, _, rfl⟩

theorem witness_GeneralCellsConserved : GeneralConserved working ∧ ∃ t, step working = .next t :=
  ⟨Laws.generalConserved_of_range working (by decide +kernel), _, rfl⟩

theorem witness_ReserveCellsConserved : ReserveConserved working ∧ ∃ t, step working = .next t :=
  ⟨by decide +kernel, _, rfl⟩

theorem witness_HoldersStayCounted : HoldersCounted working ∧ ∃ t, step working = .next t :=
  ⟨by decide +kernel, _, rfl⟩

theorem witness_QueuesStayBounded : QueuesBounded working ∧ ∃ t, step working = .next t :=
  ⟨by decide +kernel, _, rfl⟩

theorem witness_SettingsStayInRange : SettingsInRange working ∧ ∃ t, step working = .next t :=
  ⟨by decide +kernel, _, rfl⟩

theorem witness_PoolStateAgrees : PoolAgrees working ∧ ∃ t, step working = .next t :=
  ⟨by decide +kernel, _, rfl⟩

theorem witness_ModesStayConsistent : ModesAgree working ∧ ∃ t, step working = .next t :=
  ⟨by decide +kernel, _, rfl⟩

theorem witness_MeterTokensStayBounded : MetersBounded working ∧ ∃ t, step working = .next t :=
  ⟨by decide +kernel, _, rfl⟩

theorem witness_EventsStayOrdered : EventsOrdered working ∧ ∃ t, step working = .next t :=
  ⟨by decide +kernel, _, rfl⟩

theorem witness_SessionStaysSound : SessionSound working ∧ ∃ t, step working = .next t :=
  ⟨by decide +kernel, _, rfl⟩

theorem witness_DownPortsStayEmpty : DownPortsEmpty working ∧ ∃ t, step working = .next t :=
  ⟨by decide +kernel, _, rfl⟩

theorem witness_ReceptionsStayFitted : ReceptionsFit working ∧ ∃ t, step working = .next t :=
  ⟨by decide +kernel, _, rfl⟩

theorem witness_NoRestartStaysDue : NoRestartDue working ∧ ∃ t, step working = .next t :=
  ⟨by decide +kernel, _, rfl⟩
/-! ### Witnesses: restarts and rules of the whole part -/

/-- The response of a RESTART on the line of Port A. -/
def restarting (k : RestartKind) : State :=
  let b : Built :=
    { port := .a, builder := .response (some k), dest := 0x0233#16, src := 0xFE03#16, tags := .empty
      payload := [1#8, 15#8, 7#8, 10#8, 0#8, 0#8] }
  let s := owned fresh
  { s with
    portA := { s.portA with tx := some { source := .built b, wire := b.wire } }
    commons := { s.commons with
      output := .restartPending k, pool := { s.commons.pool with freeReserve := 23 } } }

theorem witness_FullRestartTakesEffect :
    (∃ b w, ((restarting .full).port .a).tx = some { source := .built b, wire := w } ∧
      b.builder = .response (some .full)) ∧
    (restarting .full).commons.output = .restartPending .full ∧
    (nextOf (exec (.fullRestart (.sent .a) { nodeAddr := 4#4, fallbackActive := false })
      (restarting .full))).endpoint.nodeAddress = 0xFE04#16 :=
  ⟨⟨_, _, rfl, rfl⟩, rfl, by decide +kernel⟩

theorem witness_LightRestartKeepsAndClears :
    (∃ b w, ((restarting .light).port .a).tx = some { source := .built b, wire := w } ∧
      b.builder = .response (some .light)) ∧
    (restarting .light).commons.output = .restartPending .light ∧
    (restarting .light).commons.pool.lowMark ≤ 512 ∧
    (restarting .light).commons.events.punt = .idle ∧
    (restarting .light).commons.events.queue.length ≤ 13 ∧
    (nextOf (exec (.lightRestart (.sent .a)) (restarting .light))).commons.events.queue.map (·.kind) =
      [.restarted .power, .restarted .light, .sessionEnded .restart 0x0233#16 7#8] ∧
    (∀ l, (restarting .light).commons.events.listener = some l →
      ((restarting .light).port l.port).oper ≠ .up) ∧
    ((listened (restarting .light)).port .a).oper = .up ∧
    (nextOf (exec (.lightRestart (.sent .a)) (listened (restarting .light)))).commons.events.sender =
      .awaiting { retry := 0, captured := 0#16, timer := true, flight := .queued } :=
  ⟨⟨_, _, rfl, rfl⟩, rfl, by decide, rfl, by decide, by decide +kernel, nofun, by decide,
    by decide +kernel⟩

theorem witness_ModeChangesOnlyBy :
    (nextOf (exec .swap signed)).classifier.mode ≠ signed.classifier.mode ∧
    (nextOf (exec (.pinReset { straps := fresh.straps, aLink := .up, bLink := .up })
      classified)).classifier.mode ≠ classified.classifier.mode := by decide +kernel

/-- A WRITE_TABLE of the owner that changes the POLICY record. -/
def writing : State := asked 8#8 [1#8, 0#8, 0#8, 1#8, 0#8, 0#8, 0#8, 0#8, 0#8]

theorem witness_BanksChangeOnlyBy :
    (∀ straps a b cause, nextOf (exec .writeTable writing) ≠
      { State.afterReset straps a b cause with pending := writing.pending }) ∧
    (nextOf (exec .writeTable writing)).tables.shadowBank ≠ writing.tables.shadowBank := by
  have h : (nextOf (exec .writeTable writing)).tables ≠ Controller.afterReset := by decide +kernel
  exact ⟨fun _ _ _ _ e => h (congrArg State.tables e), by decide +kernel⟩

/-- The COMMIT of 10.8 retransmitted: last sequence 11, replay copy ACCEPTED with pending 15. -/
def retransmitted : State :=
  (commanded (owned fresh) 9#8 7#8 11#8 []).withSession fun o => { o with
    lastSeq := some 11#8
    replay := some { version := 1#8, command := 9#8, session := 7#8, seq := 11#8, status := 1#8
                     detail := 0#8, body := [0#8, 15#8] } }

theorem witness_ReplayExecutesNothing :
    isCommandRow .commit = true ∧
    (∃ f r, Takes retransmitted f ∧ (readCommand f).version = 1#8 ∧
      retransmitted.replayOf (readCommand f) = some r ∧ rowTakes .commit (readCommand f) = true ∧
      rowTakes .discover (readCommand f) = false) ∧
    lastOut (nextOf (exec .commit retransmitted)) =
      [1#8, 9#8, 7#8, 11#8, 1#8, 0#8, 0#8, 15#8] :=
  ⟨rfl, ⟨_, _, ⟨rfl, by decide +kernel⟩, by decide +kernel, rfl, by decide +kernel,
    by decide +kernel⟩, by decide +kernel⟩

theorem witness_NonOwnersAreRefused :
    isOwnerRow .commit = true ∧
    (∃ f, Takes (commanded (owned fresh) 9#8 6#8 10#8 []) f ∧ (readCommand f).version = 1#8 ∧
      (commanded (owned fresh) 9#8 6#8 10#8 []).isOwner (readCommand f) = false ∧
      rowTakes .commit (readCommand f) = true ∧ rowTakes .readNext (readCommand f) = false) ∧
    statusOf .commit (commanded (owned fresh) 9#8 6#8 10#8 []) = 3#8 ∧
    statusOf .commit (commanded fresh 9#8 6#8 10#8 []) = 4#8 :=
  ⟨rfl, ⟨_, ⟨rfl, by decide +kernel⟩, by decide +kernel, by decide +kernel, by decide +kernel,
    by decide +kernel⟩, by decide +kernel, by decide +kernel⟩

/-! ### Witnesses: check, sweeps and copy-back -/

theorem witness_SigningSignsTheSerializedBank :
    ∃ s : State, s.tables.state = .signing (some { table := .policy, index := 0 }) 0xFFFFFFFF#32 ∧
      ∀ (tb : Table) (n : Nat), n < recordCount tb →
        validateRecord s.tables.shadowBank { table := tb, index := n } = none := by
  refine ⟨{ fresh with tables := { fresh.tables with
    state := .signing (some { table := .policy, index := 0 }) 0xFFFFFFFF#32 } }, rfl, ?_⟩
  intro tb
  cases tb <;> decide +kernel

theorem witness_SweepReadsTheSerializedBank :
    ∃ v : Verify, v.state = .sweeping (some { table := .policy, index := 0 }) 0xFFFFFFFF#32 :=
  ⟨{ fresh.verify with
      state := .sweeping (some { table := .policy, index := 0 }) 0xFFFFFFFF#32 }, rfl⟩

/-- The part whose active bank differs from the signed one in its first byte. -/
def upset : State :=
  let bank := Bank.write [] 0 1#8
  { fresh with
    tables := { fresh.tables with
      bank0 := bank, generation := 14#16
      signature := checkValue ([] ++ 0#8 :: bank.serialized.drop 1) }
    classifier := { fresh.classifier with mode := .normal }
    verify := { fresh.verify with
      state := .sweeping none (checkBytes 0xFFFFFFFF#32 bank.serialized) } }

theorem witness_OneByteUpsetIsFound :
    ∃ (after : List Byte) (v w : Byte), v ≠ w ∧
      upset.tables.signature = checkValue ([] ++ v :: after) ∧
      upset.tables.activeBank.serialized = [] ++ w :: after ∧
      upset.verify.state =
        .sweeping none (checkBytes 0xFFFFFFFF#32 upset.tables.activeBank.serialized) := by
  refine ⟨(Bank.write [] 0 1#8).serialized.drop 1, 0#8, 1#8, by decide, rfl, ?_, rfl⟩
  have h : ∀ l : List Byte, 0 < l.length → l.head? = some 1#8 → l = 1#8 :: l.drop 1 := by
    intro l h1 h2
    cases l with
    | nil => simp at h1
    | cons a t => simp_all
  refine h _ ?_ ?_
  · simp [Bank.serialized, Config.bankBytes]
  · simp only [Bank.serialized, Bank.readBytes, List.head?_map, List.head?_range]
    decide +kernel

theorem witness_CopyingEqualizesBanks :
    ∃ c : Controller, c.state = .copying (some { table := .policy, index := 0 }) ∧
      c.bank0.wf = true ∧ c.bank1.wf = true ∧ c.bank0 ≠ c.bank1 :=
  ⟨{ Controller.afterReset with
      bank0 := [(0, 3#8), (31403, 1#8)], bank1 := [(7, 1#8)]
      state := .copying (some { table := .policy, index := 0 }) }, rfl, by decide, by decide,
    by decide⟩

/-! ### Witnesses: prefilter, steps and lists -/

theorem witness_BucketOfKey :
    (0x0FFF#16).toNat < 4096 ∧ bucketOf 0x0FFF#16 = 0x87#8 ∧ bucketOf 0xFFFF#16 = 0#8 := by decide +kernel

theorem witness_PrefilterOutcomes :
    Bank.read [] 6 ≠ 1#8 ∧ screen46.read 6 = 1#8 ∧ screen46.read 9 = 1#8 ∧
      (Bank.write screen46 9 0#8).read 6 = 1#8 ∧ (Bank.write screen46 9 0#8).read 9 ≠ 1#8 := by
  decide +kernel

/-- A step with a verb and an operand. -/
def stepOf (verb operand : Byte) : ActionStep :=
  { verb := verb, required := 0#16, forbidden := 0#16, operand := operand, value := 0#16
    mask := 0#16 }

/-- The first operand out of range of each verb, the first unassigned verb, and the verb none. -/
theorem witness_GuardsAndFaults :
    guardHolds 0#16 1#16 0#16 = false ∧
    ∀ st ∈ [stepOf 0#8 0#8, stepOf 14#8 0#8, stepOf 1#8 4#8, stepOf 2#8 4#8, stepOf 3#8 6#8,
        stepOf 5#8 7#8, stepOf 6#8 8#8, stepOf 7#8 8#8, stepOf 10#8 64#8, stepOf 11#8 0#8,
        stepOf 11#8 3#8, stepOf 13#8 16#8],
      guardHolds 0x0100#16 st.required st.forbidden = true ∧
      (examineStep (record210 .a 1#8 (.one 0x5123#16) 100 0#32 115) (meters7 0) st).record =
        { record210 .a 1#8 (.one 0x5123#16) 100 0#32 115 with flags := 0x8100#16 } := by
  decide +kernel

/-- The last operand in range of each verb runs without a step fault. -/
theorem test_last_operands :
    ∀ st ∈ [stepOf 1#8 3#8, stepOf 2#8 3#8, stepOf 3#8 4#8, stepOf 5#8 6#8, stepOf 6#8 7#8,
        stepOf 7#8 7#8, stepOf 10#8 63#8, stepOf 11#8 1#8, stepOf 11#8 2#8, stepOf 13#8 15#8],
      hasFlag (examineStep (record210 .a 1#8 (.one 0x5123#16) 100 0#32 0) (meters7 0) st).record.flags
        .fault = false := by
  decide +kernel

theorem witness_RewriteAndCompare :
    (record210 .a 1#8 (.one 0x5123#16) 100 0#32 115).field? .outerTag = some 0x5123#16 ∧
    Field.outerTag ≠ .length ∧
    (record210 .a 1#8 (.one 0x5123#16) 100 0#32 115).field? .innerTag = none ∧
    (runOp (record210 .a 1#8 (.one 0x5123#16) 100 0#32 115) (meters7 0) (.rewrite .outerTag) 0x0456#16
      0x0FFF#16).record.tags = .one 0x5456#16 := by decide +kernel

theorem witness_HopAndTagVerbs :
    (makeRecord .a [] []).hop.toNat ≤ 1 ∧ { makeRecord .a [] [] with hop := 1#8 }.hop.toNat ≤ 1 ∧
    2 ≤ { makeRecord .a [] [] with hop := 2#8 }.hop.toNat ∧
    (makeRecord .a [] []).tags = .empty ∧ (record210 .a 1#8 (.one 5#16) 0 0#32 0).tags = .one 5#16 ∧
    (record210 .a 1#8 (.two 5#16 6#16) 0 0#32 0).tags = .two 5#16 6#16 := by decide +kernel

theorem witness_MeterAnswers :
    (record210 .a 1#8 .empty 100 0#32 115).rxLen ≤ ((meters7 115)[(7 : Fin 64)]).tokens ∧
    ((meters7 114)[(7 : Fin 64)]).tokens < (record210 .a 1#8 .empty 100 0#32 115).rxLen := by
  decide +kernel

theorem witness_ListsKeepFixedFields :
    putTagFlags (record210 .a 1#8 (.one 5#16) 0 0#32 0).flags (record210 .a 1#8 (.one 5#16) 0 0#32 0).tags =
      (record210 .a 1#8 (.one 5#16) 0 0#32 0).flags := by decide +kernel

/-! ### Witnesses: classification and disposition -/

/-- The offer of a class 2 copy to a port, at its limit, over it, and with the port DOWN. -/
theorem witness_DispositionOffersCopies :
    fresh.commons.events.listener = none ∧ (listened fresh).commons.events.listener.isSome = true ∧
    (listened fresh).commons.events.puntQueue.length < 8 ∧
    ((listened fresh).offerPuntEntry 7 .a).commons.events.puntQueue = [7] ∧
    8 ≤ { fresh.commons.events with puntQueue := List.replicate 8 7 }.puntQueue.length ∧
    (State.reset.port .a).oper ≠ .up ∧ (fresh.port .a).oper = .up ∧
    ((fresh.port .a).queue 2).occupancy + 128 ≤ ((fresh.port .a).queue 2).limit ∧
    ((fresh.port .a).queue 2).limit < ((fresh.port .a).queue 2).occupancy + 129 := by decide +kernel

/-- The part of the examples outside NORMAL. -/
def unloaded : State :=
  { classifying with classifier := { classifying.classifier with mode := .unloaded } }

theorem witness_FallbackDisposition :
    unloaded.classifier.mode ≠ .normal ∧ unloaded.classifier.choose = some .a ∧
    unloaded.classifier.ingress .a = [7] ∧
    ((unloaded.commons.frame? 7).map (·.record.ingress)) = some .a ∧
    unloaded.classifier.fallback .a = .pass ∧
    { unloaded.classifier with fallbackA := .block }.fallback .a = .block ∧
    { unloaded.classifier with ingressB := [8], lastServed := .a }.choose = some .b ∧
    ((nextOf (exec .classify unloaded)).portB.queue 0).entries = [{ frame := 7, cells := 2 }] := by
  decide +kernel

/-- A part whose screen misses the frame and whose policy drops it, and one that matches none. -/
theorem witness_NormalClassificationCounts :
    classifying.classifier.mode = .normal ∧ classifying.classifier.choose = some .a ∧
    classifying.classifier.ingress .a = [7] ∧ (classifying.commons.frame? 7).isSome = true ∧
    prefilterOutcome (Bank.write screen46 1 1#8) .empty = .miss ∧
    missDrops (Bank.write screen46 1 1#8) .a = true ∧ missDrops tables210 .a = false ∧
    lookup tables210 (record210 .a 1#8 (.one 0x5123#16) 100 0x7A01003C#32 115) = some 2 ∧
    lookup screen46 (record210 .a 1#8 .empty 100 0#32 115) = none := by decide +kernel

/-! ### Witnesses: ports and reception -/

/-- The part with the first `n` general cells in use and the pool state `low`. -/
def pooled (n : Nat) (low : Bool) (s : State) : State :=
  { s with commons := { s.commons with
      pool := { s.commons.pool with free := cellsFrom n 512, low := low } } }

/-- The claim that leaves 63 free cells posts POOL_LOW, the one that leaves 64 posts nothing (R133). -/
theorem witness_FrameStartBegins_pool :
    Posted (pooled 448 false fresh) (nextOf (exec (.frameStart .a) (pooled 448 false fresh)))
      (.poolLow 63) ∧
    (nextOf (exec (.frameStart .a) (pooled 448 false (listened fresh)))).commons.pool.low = true ∧
    (nextOf (exec (.frameStart .a) (pooled 447 false fresh))).commons.pool.low = false := by
  decide +kernel

theorem witness_FrameStartBegins :
    (fresh.port .a).oper = .up ∧ (fresh.port .a).reception = none ∧
    fresh.commons.pool.freeGeneral ≠ 0 ∧ (State.reset.port .a).oper ≠ .up ∧
    (nextOf (exec (.frameStart .a) { fresh with commons := { fresh.commons with
      pool := { fresh.commons.pool with free := [] } } })).portA.counter .noBuffer = 1#32 := by
  decide +kernel

/-- The part with a reception at Port A that holds the first `cells` general cells, and the `free` cells
after them free. -/
def receiving (bytes : List Byte) (cells free : Nat) : State :=
  { fresh with
    portA := { fresh.portA with reception := some (.receiving bytes (cellsFrom 0 cells)) }
    commons := { fresh.commons with
      pool := { fresh.commons.pool with free := cellsFrom cells free } } }

theorem witness_ReceptionStoresBytes :
    ((receiving (List.replicate 60 0#8) 1 1).port .a).reception =
      some (.receiving (List.replicate 60 0#8) (cellsFrom 0 1)) ∧
    (cellsFrom 0 1).length = max 1 (cellsForImage (List.replicate 60 0#8)) ∧
    cellsForImage (List.replicate 60 0#8 ++ [0#8]) ≤
      1 + (receiving (List.replicate 60 0#8) 1 1).commons.pool.freeGeneral ∧
    1 + (receiving (List.replicate 60 0#8) 1 0).commons.pool.freeGeneral <
      cellsForImage (List.replicate 60 0#8 ++ [0#8]) ∧
    (cellsFrom 0 17).length = max 1 (cellsForImage (List.replicate 1041 0#8)) ∧
    1041 < (List.replicate 1041 0#8 ++ [0#8]).length ∧
    17 ≤ (cellsFrom 0 17).length +
      (receiving (List.replicate 1041 0#8) 17 0).commons.pool.freeGeneral ∧
    (nextOf (exec (.receptionCellClaim .a [0#8])
      (receiving (List.replicate 60 0#8) 1 1))).portA.reception =
        some (.receiving (List.replicate 61 0#8) (cellsFrom 0 2)) := by decide +kernel

/-- The claim that leaves 63 free cells posts POOL_LOW, also where a missing cell or the 1042nd byte then
returns the cells, which posts POOL_OK above the high mark (R133). -/
theorem witness_ReceptionStoresBytes_pool :
    let part : Nat → Nat → Nat → State := fun cells free low =>
      let s := receiving [] cells free
      { s with commons := { s.commons with
          pool := { s.commons.pool with lowMark := low, highMark := low + 1 } } }
    let kinds : State → List EventKind := fun s => s.commons.events.queue.map (·.kind)
    PoolAgrees (part 1 64 64) ∧ PoolAgrees (part 1 2 1) ∧
    kinds (nextOf (exec (.receptionCellClaim .a (List.replicate 61 0#8)) (part 1 64 64))) =
      [.restarted .power, .poolLow 63] ∧
    kinds (nextOf (exec (.receptionCellClaim .a (List.replicate 253 0#8)) (part 1 2 1))) =
      [.restarted .power, .poolLow 0, .poolOk 3] ∧
    kinds (nextOf (exec (.oversizeCutoff .a (List.replicate 1042 0#8)) (part 1 70 64))) =
      [.restarted .power, .poolLow 63, .poolOk 71] := by decide +kernel

/-- One reception for each failed check, at its boundary. -/
theorem witness_ReceptionsEndCounted :
    (fresh.port .a).reception = none ∧
    ((receiving [] 1 511).port .a).reception = some (.receiving [] (cellsFrom 0 1)) ∧
    intakeCheck (List.replicate 12 0#8) = some .runt ∧
    intakeCheck (List.replicate 6 0#8 ++ [3#8] ++ List.replicate 12 0#8) = some .malformed ∧
    intakeCheck (List.replicate 7 0#8 ++ [4#8, 1#8] ++ List.replicate 4 0#8) = some .oversize ∧
    intakeCheck (List.replicate 14 0#8) = some .malformed ∧
    intakeCheck (List.replicate 13 0#8) = some .checkFail ∧
    intakeCheck (segmentFrame 1#16 2#16 1#8 9#8 .empty []) = none := by decide +kernel

/-- A reception of one cell at Port A of a part in POOL_LOW. -/
def aborting (n : Nat) : State :=
  { pooled n true fresh with
    portA := { fresh.portA with reception := some (.receiving [] (cellsFrom 0 1)) } }

/-- The return that leaves 129 free cells posts POOL_OK, the one that leaves 128 posts nothing (R133). -/
theorem witness_ReceptionsEndCounted_pool :
    Posted (aborting 384) (nextOf (exec (.lineAbort .a) (aborting 384))) (.poolOk 129) ∧
    (nextOf (exec (.lineAbort .a) (aborting 385))).commons.pool.low = true := by decide +kernel

theorem witness_GoodFramesAreRouted :
    intakeCheck (segmentFrame 0xFFFE#16 2#16 2#8 9#8 .empty []) = none ∧
    (∀ g ∈ fresh.commons.frames, g.id ≠ fresh.commons.nextFrame) ∧
    fresh.endpoint.commands.length < 4 ∧ (fresh.classifier.ingress .a).length < 8 ∧
    (nextOf (exec (.frameEnd .a []) { receiving (segmentFrame 0xFFFE#16 2#16 2#8 9#8 .empty []) 1 511
      with endpoint := { fresh.endpoint with commands := [1, 2, 3, 4] } })).commons.mgmt.overrun =
      1#32 ∧
    (nextOf (exec (.frameEnd .a []) { receiving (segmentFrame 5#16 2#16 1#8 9#8 .empty []) 1 511
      with classifier := { fresh.classifier with
        ingressA := [1, 2, 3, 4, 5, 6, 8, 9] } })).portA.counter .ingressFull = 1#32 := by
  decide +kernel

/-- A frame refused by its full queue returns its cells, and 129 free cells make the pool POOL_OK (R133). -/
theorem witness_GoodFramesAreRouted_pool :
    let s := receiving (segmentFrame 5#16 2#16 1#8 9#8 .empty []) 1 128
    let low : State := { s with
      classifier := { s.classifier with ingressA := [1, 2, 3, 4, 5, 6, 8, 9] }
      commons := { s.commons with pool := { s.commons.pool with low := true } } }
    (nextOf (exec (.frameEnd .a []) low)).commons.events.queue.map (·.kind) =
      [.restarted .power, .poolOk 129] := by decide +kernel

/-- The part with the response of a DISCOVER at the head of Port A's management-out queue. -/
def responding : State := nextOf (exec .discover (asked 1#8 []))

/-- A response that waits for 4 cells. -/
def waitingResponse : Built :=
  { port := .a, builder := .response none, dest := 0x0233#16, src := 0xFE03#16, tags := .empty
    payload := List.replicate 239 0#8 }

theorem witness_LinkPinMovesThePort :
    NoRestartDue fresh ∧ fresh.commons.output = .idle ∧ PoolAgrees fresh ∧
    (nextOf (exec (.linkPinChange .a .down) (restarting .light))).commons.events.queue.map (·.kind) =
      [.restarted .power, .linkDown .a .down, .sessionEnded .link 0x0233#16 7#8, .restarted .light] ∧
    (nextOf (exec (.linkPinChange .a .down) (restarting .full))).commons.events.queue.map (·.kind) =
      [.restarted .full] ∧
    NoRestartDue (restarting .full) ∧ PoolAgrees (restarting .light) ∧
    (restarting .light).commons.events.queue.length ≤ 12 ∧
    (nextOf (exec (.linkPinChange .a .down) responding)).portA.counter .linkDown = 1#32 ∧
    (nextOf (exec (.linkPinChange .a .down) { fresh with commons := { fresh.commons with
      output := .offering waitingResponse } })).commons.mgmt.respLost = 1#32 ∧
    (nextOf (exec (.linkPinChange .a .down) (awaitingAck 2 fresh))).commons.events.sender =
      .awaiting { retry := 2, captured := 2#16, timer := false, flight := .none } ∧
    (State.reset.port .a).enabled = true ∧
    (State.reset.port .a).link = .down ∧ (fresh.port .a).enabled = true ∧
    (fresh.port .a).link = .up ∧ fresh.commons.events.queue.length < 16 ∧
    { fresh.portA with enabled := false }.enabled = false := by decide +kernel

/-- The part with Port A DOWN. -/
def downed (s : State) : State := { s with portA := { s.portA with link := .down } }

/-- The listener's port enters UP: the head is sent again with its captured value 2, and an idle sender
begins a send of the oldest record (R122, R175). -/
theorem witness_LinkPinMovesThePort_up :
    let up : State → State := fun s => nextOf (exec (.linkPinChange .a .up) (downed s))
    let l : Listener := { node := 0x0233#16, port := .a }
    (up (awaitingAck 2 fresh)).commons.events.sender =
      .awaiting { retry := 0, captured := 2#16, timer := true, flight := .queued } ∧
    (up (awaitingAck 2 fresh)).commons.mgmtOutA = ((awaitingAck 2 fresh).commons.events.queue.map
      fun r => eventReport l 0xFE03#16 r 2#16) ∧
    (up (listened fresh)).commons.mgmtOutA =
      (fresh.commons.events.queue.map fun r => eventReport l 0xFE03#16 r 0#16) ∧
    Posted (downed (listened fresh)) (up (listened fresh)) (.linkUp .a) := by decide +kernel

/-- The owner's SET_PORT_ENABLE takes its own port out of UP and back: LINK_DOWN with DISABLED and the session
ended with reason LINK, LINK_UP again, and nothing at a port whose link is DOWN (R122, R123). -/
theorem witness_LinkPinMovesThePort_enable :
    let asks : Byte → State → State := fun v s => commanded (owned s) 5#8 7#8 10#8 [5#8, 0x10#8, 0#8, v]
    let kinds : State → List EventKind := fun s => s.commons.events.queue.map (·.kind)
    let off : State := { fresh with portA := { fresh.portA with enabled := false } }
    (off.port .a).enabled = false ∧ (off.port .a).link = .up ∧
    kinds (nextOf (exec .setPortEnable (asks 0#8 fresh))) =
      [.restarted .power, .linkDown .a .disabled, .sessionEnded .link 0x0233#16 7#8] ∧
    (nextOf (exec .setPortEnable (asks 0#8 fresh))).commons.mgmt.respLost = 1#32 ∧
    kinds (nextOf (exec .setPortEnable (asks 1#8 off))) = [.restarted .power, .linkUp .a] ∧
    kinds (nextOf (exec .setPortEnable (asks 0#8 (downed fresh)))) = [.restarted .power] ∧
    ((nextOf (exec .setPortEnable (asks 0#8 (downed fresh)))).port .a).oper = .disabled := by
  decide +kernel

/-! ### Witnesses: tables, verify unit and egress -/

theorem witness_SwapChangesTogether :
    signed.tables.state = .signing none 0x12345678#32 ∧ signed.commons.events.queue.length < 16 := by
  decide +kernel

theorem witness_ControllerSteps :
    validateRecord tables210 { table := .rules, index := 511 } = none ∧
    validateRecord (Bank.setRecords [] .meters 63 (word16Bytes 1#16 ++ word32Bytes 1048576#32))
      { table := .meters, index := 63 } = failed .burst ∧
    validateRecord (Bank.setRecords [] .meters 63 (word16Bytes 1#16 ++ word32Bytes 1048575#32))
      { table := .meters, index := 63 } = none ∧
    validateRecord tables210 { table := .actions, index := 20 } = none ∧
    validateRecord (Bank.setRecords [] .actions 255 [9#8]) { table := .actions, index := 255 } =
      failed .listLength ∧
    validateRecord (Bank.setRecords [] .actions 0 ([2#8, 12#8] ++ List.replicate 9 0#8 ++ [14#8]))
      { table := .actions, index := 0 } = some { reason := .verb, step := some 1 } ∧
    validateRecord (Bank.setRecords [] .actions 0 ([1#8, 2#8] ++ List.replicate 4 0#8 ++ [4#8]))
      { table := .actions, index := 0 } = some { reason := .operand, step := some 0 } ∧
    BanksCanonical classifying ∧ nextRecord { table := .rules, index := 511 } = none ∧
    nextRecord { table := .meters, index := 63 } = some { table := .actions, index := 0 } := by
  decide +kernel

theorem witness_SweepAndVerdicts :
    classifying.verify.state = .waiting 1000 ∧ ~~~0xFFFFFFFF#32 = classifying.tables.signature ∧
    ~~~0#32 ≠ classifying.tables.signature := by decide +kernel

theorem witness_UpsetChangesOneRecord :
    511 < recordCount .rules ∧ (List.replicate 20 1#8).length = recordSize .rules ∧
    BanksCanonical classifying := by decide +kernel

theorem witness_TransmissionsStartAndEnd :
    (responding.port .a).oper = .up ∧ (responding.port .a).tx = none ∧
    (responding.commons.mgmtOut .a).length = 1 ∧
    (classified.port .a).oper = .up ∧ (classified.port .a).tx = none ∧
    classified.commons.mgmtOut .a = [] ∧ ((classified.port .a).queue 3).entries = [] ∧
    ((classified.port .a).queue 2).entries = [{ frame := 7, cells := 2 }] ∧
    (classified.commons.frame? 7).isSome = true ∧ NoRestartDue classified ∧
    ((nextOf (exec (.transmissionStart .a) responding)).portA.tx.map (·.wire.length)) = some 37 := by
  decide +kernel

/-- The end of the transmission of a frame's last holder, one cell, into a pool in POOL_LOW (R132, R133). -/
theorem witness_TransmissionsStartAndEnd_last :
    let f := stored .a 5#16 9#16 1#8 7#8 .empty []
    let s : State := { pooled 384 true (holding f fresh) with
      portA := { fresh.portA with
        tx := some { source := .copy { frame := 7, cells := 1 } 0, wire := [] } } }
    let t := nextOf (exec (.transmissionEnd .a) s)
    NoRestartDue s ∧ s.commons.frame? 7 = some f ∧ f.holders ≤ 1 ∧ f.record.cellList ≠ [] ∧
    t.commons.frames = [] ∧ Posted s t (.poolOk 129) := by decide +kernel

theorem witness_WaitingResponsesJoin :
    waitingResponse.cells = 4 ∧ (fresh.port .a).oper = .up ∧
    (fresh.commons.mgmtOut .a).length < 4 ∧ waitingResponse.cells ≤ fresh.commons.pool.freeReserve ∧
    (nextOf (exec .reserveGrant { fresh with commons := { fresh.commons with
      output := .claiming waitingResponse } })).commons.mgmtOutA = [waitingResponse] ∧
    (nextOf (exec (.mgmtOutAdmit .a) { fresh with commons := { fresh.commons with
      output := .offering waitingResponse } })).commons.mgmtOutA = [waitingResponse] := by
  decide +kernel

/-- The part with the classified frame in the punt queue. -/
def punting : State :=
  let s := awaitingAck 0 classified
  { s with commons := { s.commons with
      frames := s.commons.frames.map fun f => { f with holders := 3 }
      events := { s.commons.events with puntQueue := [7] } } }

/-- The three builders wait for Port A: for cells, with `free` of them free, or for room, with `queued`
frames in the queue. -/
def waitingAll (free queued : Nat) (output : Output) (flight : Flight) (punt : PuntStage) : State :=
  { punting with commons := { punting.commons with
      output := output
      pool := { punting.commons.pool with freeReserve := free }
      mgmtOutA := List.replicate queued waitingResponse
      events := { punting.commons.events with
        sender := .awaiting { retry := 0, captured := 2#16, timer := false, flight := flight }
        punt := punt } } }

/-- The builders of the frames queued at Port A, beyond the first `n`. -/
def buildersFrom (n : Nat) (o : Host.Outcome State Fault Refusal) : List Builder :=
  ((nextOf o).commons.mgmtOutA.map (·.builder)).drop n

/-- The rank order of the reserve arbiter and of the management-out queue: a response of 4 cells, an event
report of 1 and a punt report of 3 (R131, R140). -/
theorem witness_WaitingResponsesJoin_ranks :
    let claims : Nat → State := fun free => waitingAll free 0 (.claiming waitingResponse) .claiming .claiming
    let event : State → Built := fun s =>
      eventReport { node := 0x0233#16, port := .a } s.endpoint.nodeAddress
        { seq := 41#16, uptime := 0#32, generation := 14#16, kind := .commitDone 14#16 0#32 none } 2#16
    let offers : Nat → State := fun queued =>
      waitingAll 24 queued (.offering waitingResponse) (.offering (event fresh))
        (.offering { event fresh with builder := .punt })
    ((claims 24).port .a).oper = .up ∧ (claims 24).commons.events.queue.length = 1 ∧
    ((claims 24).commons.frame? 7).map (·.holders) = some 3 ∧
    buildersFrom 0 (exec .reserveGrant (claims 3)) = [] ∧
    buildersFrom 0 (exec .reserveGrant (claims 4)) = [.response none] ∧
    buildersFrom 0 (exec .reserveGrant (claims 5)) = [.response none, .event] ∧
    buildersFrom 0 (exec .reserveGrant (claims 7)) = [.response none, .event] ∧
    buildersFrom 0 (exec .reserveGrant (claims 8)) = [.response none, .event, .punt] ∧
    NoRestartDue (waitingAll 1 0 .idle .claiming .claiming) ∧
    buildersFrom 0 (exec .reserveGrant (waitingAll 1 0 .idle .claiming .claiming)) = [.event] ∧
    buildersFrom 0 (exec .reserveGrant (waitingAll 3 0 .idle .queued .claiming)) = [.punt] ∧
    buildersFrom 1 (exec (.mgmtOutAdmit .a) (offers 1)) = [.response none, .event, .punt] ∧
    buildersFrom 2 (exec (.mgmtOutAdmit .a) (offers 2)) = [.response none, .event] ∧
    buildersFrom 3 (exec (.mgmtOutAdmit .a) (offers 3)) = [.response none] ∧
    buildersFrom 4 (exec (.mgmtOutAdmit .a) (offers 4)) = [] := by decide +kernel

theorem witness_ReportsGoOut :
    (∀ b, (awaitingAck 2 fresh).commons.output ≠ .claiming b) ∧
    (∀ b, (awaitingAck 2 fresh).commons.output ≠ .offering b) ∧
    (∀ b, punting.commons.output ≠ .claiming b) ∧ (∀ b, punting.commons.output ≠ .offering b) ∧
    ((awaitingAck 2 fresh).port .a).oper = .up ∧
    ((awaitingAck 2 fresh).commons.mgmtOut .a).length < 4 ∧
    (awaitingAck 2 fresh).commons.events.queue.length = 1 ∧
    1 ≤ (awaitingAck 2 fresh).commons.pool.freeReserve ∧ (2 : Nat) < 3 ∧ 3 ≤ 3 ∧
    (listened fresh).commons.events.sender = .idle ∧
    punting.commons.events.punt = .idle ∧ punting.commons.events.puntQueue = [7] ∧
    (punting.commons.frame? 7).map (·.holders) = some 3 ∧
    (lastOut (nextOf (exec .puntTake punting))).take 13 =
      [1#8, 0x81#8, 1#8, 0#8, 12#8, 0#8, 2#8, 0x11#8, 0#8, 0#8, 0#8, 0#8, 115#8] := by
  refine ⟨fun b => ?_, fun b => ?_, fun b => ?_, fun b => ?_, ?_⟩
  · rw [show (awaitingAck 2 fresh).commons.output = .idle from rfl]; nofun
  · rw [show (awaitingAck 2 fresh).commons.output = .idle from rfl]; nofun
  · rw [show punting.commons.output = .idle by decide +kernel]; nofun
  · rw [show punting.commons.output = .idle by decide +kernel]; nofun
  · decide +kernel

/-- The part in POOL_LOW with 127 free cells and an idle sender, whose punt entry is the last holder of a
frame of two cells: POOL_OK is posted and its report stands before the punt report (R133, R172, R179). -/
theorem witness_ReportsGoOut_last :
    let f := stored .a 5#16 9#16 1#8 7#8 .empty (List.replicate 60 0#8)
    let g : RxFrame := { f with record := { f.record with cellList := cellsFrom 0 2 } }
    let s0 := pooled 385 true (listened (holding g fresh))
    let s : State := { s0 with commons := { s0.commons with
      events := { s0.commons.events with queue := [], puntQueue := [7] } } }
    let t := nextOf (exec .puntTake s)
    g.holders ≤ 1 ∧ g.cells = 2 ∧ s.commons.frame? 7 = some g ∧
    s.commons.events.sender = .idle ∧ s.commons.pool.freeGeneral = 127 ∧
    Posted s t (.poolOk 129) ∧ t.commons.mgmtOutA.map (·.builder) = [.event, .punt] ∧
    t.commons.events.sender =
      .awaiting { retry := 0, captured := 0#16, timer := true, flight := .queued } ∧
    t.commons.frames = [] := by decide +kernel

theorem witness_UptimeAndIdleTimer :
    fresh.endpoint.session = none ∧ (owned fresh).endpoint.session.isSome = true ∧
    (owned fresh).commons.events.queue.length < 16 := by decide +kernel

/-! ### Witnesses: responses and commands -/

/-- An owner command leaves its sequence, its response and a fresh idle timer in the session, and a command of
another session number does not (10.8; R155, R157). -/
theorem witness_ResponsesGoOut_record :
    (nextOf (exec .commit (asked 9#8 []))).endpoint.session =
      some { node := 0x0233#16, port := .a, number := 7#8, lastSeq := some 10#8
             replay := some { version := 1#8, command := 9#8, session := 7#8, seq := 10#8
                              status := 1#8, detail := 0#8, body := [0#8, 1#8] }
             cursor := none, timer := 5000 } ∧
    (nextOf (exec .commit (commanded (owned fresh) 9#8 6#8 10#8 []))).endpoint.session =
      (owned fresh).endpoint.session := by decide +kernel

/-- A response of one cell, of one more than are free, to a full queue and to a DOWN port. -/
theorem witness_ResponsesGoOut :
    waitingResponse.cells ≤ fresh.commons.pool.freeReserve ∧ (fresh.port .a).oper = .up ∧
    (fresh.commons.mgmtOut .a).length < 4 ∧ (State.reset.port .a).oper ≠ .up ∧
    (3 : Nat) < waitingResponse.cells ∧
    4 ≤ ({ fresh.commons with mgmtOutA := List.replicate 4 waitingResponse }.mgmtOut .a).length := by
  decide +kernel

theorem witness_ShortUnknownAndForeignCommands :
    (asked 16#8 []).endpoint.commands = [7] ∧ ready (asked 16#8 []) 16#8 [] = true ∧
    ready (asked 0#8 []) 0#8 [] = true ∧ isCommandRow .discover = true ∧
    lastOut (nextOf (exec .discover
      { holding (stored .a 0xFFFE#16 0x0233#16 2#8 255#8 .empty [2#8, 1#8, 0#8, 5#8]) fresh with
        endpoint := { fresh.endpoint with commands := [7] } })) =
      [2#8, 1#8, 0#8, 5#8, 11#8, 0#8] := by decide +kernel

theorem witness_SessionCommands :
    ready (asked 1#8 []) 1#8 [] = true ∧ ready (asked 12#8 []) 12#8 [] = true ∧
    ready (commanded fresh 2#8 0#8 1#8 []) 2#8 [] = true ∧
    (commanded fresh 2#8 0#8 1#8 []).endpoint.session = none ∧
    statusOf .openSession (asked 2#8 []) = 0#8 ∧
    ready { asked 2#8 [] with endpoint := { (asked 2#8 []).endpoint with
      session := (asked 2#8 []).endpoint.session.map fun o => { o with node := 9#16 } } } 2#8 [] =
      true ∧
    statusOf .openSession { asked 2#8 [] with endpoint := { (asked 2#8 []).endpoint with
      session := (asked 2#8 []).endpoint.session.map fun o => { o with node := 9#16 } } } = 2#8 ∧
    ready (asked 3#8 []) 3#8 [] = true ∧ ready (asked 15#8 [1#8]) 15#8 [1#8] = true ∧
    ready { asked 15#8 [2#8] with portA := { fresh.portA with link := .down } } 15#8 [2#8] = true ∧
    1 ≤ (asked 15#8 [2#8]).takeHead.commons.pool.freeReserve ∧
    (nextOf (exec (.fullRestart .lostAtOnce { nodeAddr := 4#4, fallbackActive := false })
      { asked 15#8 [2#8] with portA := { fresh.portA with link := .down } })).endpoint.nodeAddress =
      0xFE04#16 ∧
    ready (asked 15#8 [2#8]) 15#8 [2#8] = true ∧ ready (asked 15#8 [3#8]) 15#8 [3#8] = true := by
  decide +kernel

/-- The asked command is the owner's. -/
theorem test_asked_is_owner :
    ((asked 9#8 []).headFrame.map fun f => (asked 9#8 []).isOwner (readCommand f)) = some true := by
  decide +kernel

theorem witness_SettingCommands :
    (∀ x ∈ [[1#8, 0#8], [2#8, 0#8], [3#8, 0#8], [4#8, 0x10#8], [4#8, 0x20#8], [5#8, 0x10#8],
        [5#8, 0x20#8], [6#8, 0x10#8], [6#8, 0x23#8], [7#8, 0#8], [8#8, 0#8], [9#8, 0#8]],
      ready (asked 4#8 x) 4#8 x = true) ∧
    (∀ x ∈ [[1#8, 0#8, 0#8, 1#8], [1#8, 0#8, 0#8, 0#8], [2#8, 0#8, 0#8, 1#8], [2#8, 0#8, 0#8, 0#8],
        [3#8, 0#8, 0#8, 0#8], [3#8, 0#8, 0#8, 10#8], [3#8, 0#8, 0#8, 1#8], [4#8, 0x20#8, 0#8, 0#8],
        [5#8, 0x10#8, 0#8, 1#8], [6#8, 0x10#8, 0#8, 0#8], [7#8, 0#8, 0#8, 0#8],
        [8#8, 0#8, 0#8, 65#8], [8#8, 0#8, 0#8, 64#8]],
      ready (asked 5#8 x) 5#8 x = true) ∧
    (∀ x ∈ [(Instr.setNodeAddress, [1#8, 0#8, 0#8, 1#8], 0#8),
        (.setNodeAddress, [1#8, 0#8, 0#8, 0#8], 8#8), (.setSessionTimeout, [2#8, 0#8, 0#8, 1#8], 0#8),
        (.setSessionTimeout, [2#8, 0#8, 0#8, 0#8], 8#8), (.setVerifyPeriod, [3#8, 0#8, 0#8, 0#8], 0#8),
        (.setVerifyPeriod, [3#8, 0#8, 0#8, 10#8], 0#8), (.setVerifyPeriod, [3#8, 0#8, 0#8, 1#8], 8#8),
        (.setPoolHighMark, [8#8, 0#8, 0#8, 65#8], 0#8), (.setPoolHighMark, [8#8, 0#8, 0#8, 64#8], 8#8)],
      statusOf x.1 (asked 5#8 x.2.1) = x.2.2) := by decide +kernel

/-- A new low mark of 100 over 99 free cells posts POOL_LOW, a new high mark of 65 under 66 posts POOL_OK
(R134); the qualifiers and lengths that are refused (R160, R181). -/
theorem witness_SettingCommands_marks :
    let low := pooled 413 false (asked 5#8 [7#8, 0#8, 0#8, 100#8])
    let high := pooled 446 true (asked 5#8 [8#8, 0#8, 0#8, 65#8])
    low.takeHead.commons.pool.freeGeneral = 100 ∧
    (nextOf (exec .setPoolLowMark (pooled 414 false low))).commons.events.queue.map (·.kind) =
      [.restarted .power, .poolLow 99] ∧
    (nextOf (exec .setPoolLowMark low)).commons.pool.low = false ∧
    high.takeHead.commons.pool.freeGeneral = 67 ∧
    (nextOf (exec .setPoolHighMark high)).commons.events.queue.map (·.kind) =
      [.restarted .power, .poolOk 67] ∧
    (∀ x ∈ [[1#8, 1#8], [4#8, 0x11#8], [5#8, 0x30#8], [6#8, 0x14#8], [8#8, 0x10#8], [9#8, 0#8]],
      statusOf .getSetting (asked 4#8 x) = 8#8) ∧
    statusOf .getSetting (asked 4#8 [1#8]) = 7#8 ∧
    (∀ x ∈ [(Instr.setNodeAddress, [1#8, 1#8, 0#8, 1#8], 8#8),
        (.setFallback, [4#8, 0#8, 0#8, 1#8], 8#8), (.setPortEnable, [5#8, 0x11#8, 0#8, 1#8], 8#8),
        (.setQueueLimit, [6#8, 0x24#8, 0#8, 1#8], 8#8), (.setPoolLowMark, [0#8, 0#8, 0#8, 1#8], 8#8),
        (.setVerifyPeriod, [], 7#8), (.setQueueLimit, [6#8, 0x10#8, 0#8], 7#8)],
      statusOf x.1 (asked 5#8 x.2.1) = x.2.2 ∧ ready (asked 5#8 x.2.1) 5#8 x.2.1 = true) := by
  decide +kernel

/-- Payloads that end before the parameters (R152, R181). -/
theorem witness_short_parameters :
    ∀ x ∈ [(Instr.restartLight, 15#8, []), (.restartFull, 15#8, []),
        (.readTable, 6#8, [5#8, 0#8, 0#8, 0#8, 0#8]), (.writeTable, 8#8, [3#8, 0#8]),
        (.setListener, 13#8, [0#8, 1#8])],
      statusOf x.1 (asked x.2.1 x.2.2) = 7#8 ∧ ready (asked x.2.1 x.2.2) x.2.1 x.2.2 = true := by
  decide +kernel

theorem witness_TableCommands :
    (∀ x ∈ [(6#8, [5#8, 1#8, 0x01#8, 0xFF#8, 0#8, 1#8]), (6#8, [5#8, 2#8, 0#8, 0#8, 0#8, 1#8]),
        (6#8, [5#8, 0#8, 0x02#8, 0#8, 0#8, 1#8]), (6#8, [0#8, 0#8, 0#8, 0#8, 0#8, 1#8]), (7#8, []),
        (8#8, [3#8, 0#8, 63#8, 0#8, 0#8, 0#8, 0#8, 0#8, 0#8]), (8#8, [3#8, 0#8, 0#8]),
        (8#8, [3#8, 0#8, 0#8, 1#8]), (8#8, [9#8, 0#8, 0#8, 1#8]), (9#8, []), (10#8, [])],
      ready (asked x.1 x.2) x.1 x.2 = true) ∧
    statusOf .writeTable (asked 8#8 [3#8, 0#8, 0#8]) = 7#8 ∧
    statusOf .writeTable (asked 8#8 [3#8, 0#8, 0#8, 1#8]) = 7#8 ∧
    statusOf .writeTable (asked 8#8 [9#8, 0#8, 0#8, 1#8]) = 5#8 ∧
    (asked 9#8 []).tables.state = .editing ∧ BanksCanonical (asked 8#8 []) ∧
    (cursored 64 (asked 7#8 [])).cursor.isSome = true ∧ (asked 7#8 []).cursor = none := by
  decide +kernel

theorem witness_CounterCommands :
    ∀ x ∈ [[1#8, 0#8, 0#8, 0x01#8, 0xFF#8, 0#8, 1#8], [1#8, 1#8, 0#8, 0#8, 0#8, 2#8, 0#8],
        [1#8, 0#8, 1#8, 0#8, 0#8, 0#8, 22#8], [1#8, 1#8, 1#8, 0#8, 0#8, 0#8, 1#8], [2#8, 1#8, 0#8],
        [2#8, 2#8, 1#8], [3#8, 0#8, 0#8, 0#8, 63#8, 0#8, 1#8], [3#8, 0#8, 1#8, 0#8, 0#8, 0#8, 64#8],
        [4#8, 0#8, 0#8], [4#8, 0#8, 1#8], [5#8, 0#8, 0#8], [5#8, 0#8, 1#8], [6#8, 0#8, 0#8],
        [6#8, 0#8, 1#8]],
      ready (asked 11#8 x) 11#8 x = true := by decide +kernel

/-- The refusals of READ_COUNTERS: lengths, group, clear byte, array, port and ranges, and a clear by
another node and with no session. -/
theorem witness_CounterCommands_refused :
    (∀ x ∈ [(Instr.readCountersHits, [1#8, 0#8], 7#8), (.readCountersMgmt, [], 7#8),
        (.readCountersPort, [7#8, 0#8, 0#8], 8#8), (.readCountersMeter, [0#8, 0#8, 0#8], 8#8),
        (.readCountersHits, [1#8, 0#8, 0#8, 0#8, 0#8, 0#8], 7#8),
        (.readCountersIntegrity, [6#8, 0#8, 2#8], 8#8),
        (.readCountersHits, [1#8, 2#8, 0#8, 0#8, 0#8, 0#8, 1#8], 8#8),
        (.readCountersPort, [2#8, 3#8, 0#8], 8#8),
        (.readCountersHits, [1#8, 0#8, 0#8, 0#8, 0#8, 0#8, 0#8], 8#8),
        (.readCountersHits, [1#8, 0#8, 0#8, 2#8, 0#8, 0#8, 1#8], 6#8),
        (.readCountersMeter, [3#8, 0#8, 0#8, 0#8, 64#8, 0#8, 1#8], 6#8),
        (.readCountersMeter, [3#8, 0#8, 0#8, 0#8, 65#8, 0#8, 0#8], 8#8)],
      statusOf x.1 (asked 11#8 x.2.1) = x.2.2 ∧ ready (asked 11#8 x.2.1) 11#8 x.2.1 = true) ∧
    statusOf .readCountersMgmt (commanded (owned fresh) 11#8 6#8 10#8 [5#8, 0#8, 1#8]) = 3#8 ∧
    statusOf .readCountersMgmt (commanded fresh 11#8 6#8 10#8 [5#8, 0#8, 1#8]) = 4#8 := by
  decide +kernel

theorem witness_ListenerCommands :
    (∀ x ∈ [(13#8, [0#8, 1#8, 1#8]), (13#8, [0xFF#8, 0xFD#8, 2#8]), (13#8, [0#8, 0#8, 1#8]),
        (13#8, [0xFF#8, 0xFE#8, 1#8]), (13#8, [0#8, 1#8, 3#8]), (13#8, [0#8, 0#8, 0#8]),
        (14#8, [0#8, 41#8])],
      ready (asked x.1 x.2) x.1 x.2 = true) ∧
    statusOf .setListener (asked 13#8 [0#8, 1#8, 1#8]) = 0#8 ∧
    statusOf .setListener (asked 13#8 [0#8, 0#8, 1#8]) = 8#8 ∧
    statusOf .setListener (asked 13#8 [0#8, 1#8, 3#8]) = 8#8 ∧
    statusOf .ackEvent (asked 14#8 [0#8, 41#8]) = 3#8 ∧
    statusOf .ackEvent (listened (asked 14#8 [0#8, 41#8])) = 8#8 ∧
    ready (awaitingAck 0 (asked 14#8 [0#8, 41#8])) 14#8 [0#8, 41#8] = true := by decide +kernel

/-- A flush of the punt queue counts each entry at its frame's ingress port and frees the frame with its last
holder (R178); SET_LISTENER and ACK_EVENT begin the next send (R173, R176). -/
theorem witness_ListenerCommands_sends :
    let s0 := asked 13#8 [0#8, 0#8, 0#8]
    let g : RxFrame := { stored .b 5#16 9#16 1#8 7#8 .empty [] with id := 6, holders := 2 }
    let s : State := { s0 with commons := { s0.commons with
      frames := s0.commons.frames ++ [g]
      pool := { s0.commons.pool with free := cellsFrom 2 512 }
      events := { s0.commons.events with puntQueue := [6, 6] } } }
    let l : Listener := { node := 0xFFFD#16, port := .b }
    let two : State := let a := awaitingAck 0 (asked 14#8 [0#8, 41#8])
      { a with commons := { a.commons with events := { a.commons.events with
        queue := a.commons.events.queue ++ fresh.commons.events.queue } } }
    (nextOf (exec .setListenerNone s)).portB.counter .puntNoListener = 2#32 ∧
    (nextOf (exec .setListenerNone s)).portA.counter .puntNoListener = 0#32 ∧
    (nextOf (exec .setListenerNone s)).commons.frames = [] ∧
    (nextOf (exec .setListener (asked 13#8 [0xFF#8, 0xFD#8, 2#8]))).commons.mgmtOutB =
      (fresh.commons.events.queue.map fun r => eventReport l 0xFE03#16 r 0#16) ∧
    (nextOf (exec .ackEvent two)).commons.events.sender =
      .awaiting { retry := 0, captured := 0#16, timer := true, flight := .queued } ∧
    statusOf .ackEvent (asked 14#8 [0#8]) = 3#8 ∧
    statusOf .ackEvent (listened (asked 14#8 [0#8])) = 7#8 := by decide +kernel

end Sys2Proof.Tests
end

section
/-! PROOF. Receptions: what each operation does to the two receptions in progress, in the order of the
model's files, and that every command keeps them fitted to R7 and R125. An operation that is no business of
the line leaves `State.receptions` as it was; the rest keep `ReceptionsFit`. -/

namespace Sys2Proof.Machine

open Sys2Proof.Safety

/-- The receptions in progress at the two ports. -/
def State.receptions (s : State) : Option Reception × Option Reception :=
  (s.portA.reception, s.portB.reception)

end Sys2Proof.Machine

namespace Sys2Proof.Safety

open Sys2Proof.Machine

/-- Whether receptions fit depends on the receptions alone. -/
theorem ReceptionsFit.of_receptions_eq {s t : State} (hs : ReceptionsFit s)
    (h : t.receptions = s.receptions) : ReceptionsFit t := by
  obtain ⟨ha, hb⟩ : t.portA.reception = s.portA.reception ∧ t.portB.reception = s.portB.reception := by
    simpa [State.receptions] using h
  exact ⟨ha ▸ hs.1, hb ▸ hs.2⟩

/-- A port's reception fits where all do. -/
theorem ReceptionsFit.port {s : State} (hs : ReceptionsFit s) (p : Port) :
    receptionFits (s.port p).reception = true := by
  cases p
  · exact hs.1
  · exact hs.2

/-- A port that takes a fitting reception leaves all receptions fitting. -/
theorem ReceptionsFit.setPort {s : State} (hs : ReceptionsFit s) (p : Port) {u : PortUnit}
    (hu : receptionFits u.reception = true) : ReceptionsFit (s.setPort p u) := by
  cases p
  · exact ⟨hu, hs.2⟩
  · exact ⟨hs.1, hu⟩

/-- A part without a reception in progress has nothing that could fail to fit. -/
theorem ReceptionsFit.of_none {s : State} (h : s.receptions = (none, none)) : ReceptionsFit s := by
  obtain ⟨ha, hb⟩ : s.portA.reception = none ∧ s.portB.reception = none := by
    simpa [State.receptions] using h
  exact ⟨by rw [ha]; rfl, by rw [hb]; rfl⟩

/-- An outcome that is a next state is that state. -/
theorem ReceptionsFit.of_next {t u : State}
    (h : (Host.Outcome.next u : Host.Outcome State Fault Refusal) = .next t)
    (hu : ReceptionsFit u) : ReceptionsFit t := by
  cases h
  exact hu

end Sys2Proof.Safety

namespace Sys2Proof.Machine

open Sys2Proof.Safety

/-! ### Shared operations -/

/-- Whatever else of the part changes, its receptions are those of its ports. -/
@[simp] theorem State.receptions_of_ports (s : State) (pending : List Instr) (straps : Straps)
    (x : Commons) (e : Endpoint) (c : Classifier) (pf : PfCounters) (ms : Vector Meter 64)
    (tables : Controller) (v : Verify) :
    State.receptions { pending := pending, straps := straps, portA := s.portA, portB := s.portB
                       commons := x, endpoint := e, classifier := c, prefilter := pf, meters := ms
                       tables := tables, verify := v } = s.receptions := rfl

@[simp] theorem State.onCommons_receptions (g : Env → Commons → Commons) (s : State) :
    (s.onCommons g).receptions = s.receptions := rfl

/-- A port that keeps its reception leaves both receptions as they were. -/
theorem State.setPort_receptions (s : State) (p : Port) (u : PortUnit)
    (h : u.reception = (s.port p).reception) : (s.setPort p u).receptions = s.receptions := by
  cases p
  · exact congrArg (·, s.portB.reception) h
  · exact congrArg (s.portA.reception, ·) h

@[simp] theorem State.count_receptions (s : State) (p : Port) (k : PortCounter) :
    (s.count p k).receptions = s.receptions := s.setPort_receptions p _ rfl

@[simp] theorem State.setQueue_receptions (s : State) (p : Port) (c : Fin 4) (q : ClassQueue) :
    (s.setPort p ((s.port p).setQueue c q)).receptions = s.receptions := s.setPort_receptions p _ rfl

@[simp] theorem State.setTx_receptions (s : State) (p : Port) (tx : Option Transmission) :
    (s.setPort p { s.port p with tx := tx }).receptions = s.receptions := s.setPort_receptions p _ rfl

@[simp] theorem State.post_receptions (s : State) (k : EventKind) :
    (s.post k).receptions = s.receptions := rfl

@[simp] theorem State.release_receptions (s : State) (id : Nat) :
    (s.release id).receptions = s.receptions := rfl

@[simp] theorem State.endSession_receptions (s : State) (reason : EndReason) :
    (s.endSession reason).receptions = s.receptions := by
  unfold State.endSession
  split <;> rfl

/-- What every step of a fold leaves as it was the fold leaves as it was. -/
theorem foldl_keeps {α β : Type} {g : State → β} {f : State → α → State}
    (h : ∀ s a, g (f s a) = g s) (l : List α) (s : State) : g (l.foldl f s) = g s := by
  induction l generalizing s with
  | nil => rfl
  | cons a l ih => rw [List.foldl_cons, ih, h]

/-! ### Ports (R121 to R123) -/

@[simp] theorem State.abortForLink_receptions (s : State) (p : Port) :
    (s.abortForLink p).receptions = s.receptions := by
  unfold State.abortForLink
  dsimp only
  split
  · split <;> simp
  · rfl

@[simp] theorem State.flushQueue_receptions (p : Port) (s : State) (c : Fin 4) :
    (State.flushQueue p s c).receptions = s.receptions := by
  have hcopy : ∀ (t : State) (k : Copy), (State.flushCopy p t k).receptions = t.receptions := by
    simp [State.flushCopy]
  simp [State.flushQueue, foldl_keeps hcopy]

@[simp] theorem State.flushForLink_receptions (s : State) (p : Port) :
    (s.flushForLink p).receptions = s.receptions := by
  have hbuilt : ∀ (t : State) (b : Built), (State.flushBuilt p t b).receptions = t.receptions := by
    simp [State.flushBuilt]
  simp only [State.flushForLink, foldl_keeps hbuilt, State.onCommons_receptions,
    foldl_keeps (State.flushQueue_receptions p)]

@[simp] theorem State.endSessionForLink_receptions (s : State) (p : Port) :
    (s.endSessionForLink p).receptions = s.receptions := by
  unfold State.endSessionForLink
  split
  · split <;> simp
  · rfl

@[simp] theorem State.enterUp_receptions (s : State) (p : Port) :
    (s.enterUp p).receptions = s.receptions := rfl

/-- A port that leaves UP ends its reception (R123, effect 1). -/
theorem State.endReceptionForLink_fits {s : State} (hs : ReceptionsFit s) (p : Port) :
    ReceptionsFit (s.endReceptionForLink p) := by
  have hnone : ReceptionsFit (s.setPort p { s.port p with reception := none }) := hs.setPort p rfl
  unfold State.endReceptionForLink
  split
  · exact hnone.of_receptions_eq (by simp)
  · exact hnone
  · exact hs

theorem State.leaveUp_fits {s : State} (hs : ReceptionsFit s) (p : Port) (o : OperState) :
    ReceptionsFit (s.leaveUp p o) := by
  have hwithdrawn : ReceptionsFit (s.onCommons fun _ => Commons.withdrawClaimsFor p) :=
    hs.of_receptions_eq rfl
  exact (State.endReceptionForLink_fits hwithdrawn p).of_receptions_eq (by simp [State.leaveUp])

/-- A change of port_enable or of the link pin keeps receptions fitting. -/
theorem State.changePort_fits {s : State} (hs : ReceptionsFit s) (p : Port) {u : PortUnit}
    (hu : u.reception = (s.port p).reception) : ReceptionsFit (s.changePort p u) := by
  have hset : ReceptionsFit (s.setPort p u) := hs.of_receptions_eq (s.setPort_receptions p u hu)
  unfold State.changePort
  dsimp only
  split
  · exact State.leaveUp_fits hset p _
  · split
    · exact hset.of_receptions_eq (by simp)
    · exact hset

theorem State.linkPin_fits {s : State} (hs : ReceptionsFit s) (p : Port) (level : LinkState) :
    ReceptionsFit (s.linkPin p level) :=
  State.changePort_fits hs p rfl

/-! ### Reception (R7, R124, R125) -/

/-- The image of a reception never shrinks as bytes arrive, and grows by at most one byte for each. -/
theorem imageLength_snoc (bytes : List Byte) (v : Byte) :
    imageLength bytes ≤ imageLength (bytes ++ [v]) ∧
      imageLength (bytes ++ [v]) ≤ imageLength bytes + 1 := by
  unfold imageLength
  rw [List.length_append, List.length_singleton]
  by_cases h : bytes.length < 7
  · by_cases h' : bytes.length + 1 < 7
    · simp only [if_pos h, if_pos h']; omega
    · simp only [if_pos h, if_neg h']; omega
  · have htag : byteAt (bytes ++ [v]) 6 = byteAt bytes 6 := by
      have h6 : 6 < bytes.length := by omega
      simp [byteAt, List.getD_eq_getElem?_getD, List.getElem?_append_left h6]
    rw [if_neg h, if_neg (by omega), htag]
    omega

/-- An image of `n` bytes needs a cell for each 64 bytes begun. -/
theorem cellsForImage_eq (bytes : List Byte) :
    cellsForImage bytes = (imageLength bytes + 63) / 64 := rfl

/-- One more byte needs the cells of the image before, and at most one more. -/
theorem cellsForImage_snoc (bytes : List Byte) (v : Byte) :
    cellsForImage bytes ≤ cellsForImage (bytes ++ [v]) ∧
      cellsForImage (bytes ++ [v]) ≤ cellsForImage bytes + 1 := by
  have h := imageLength_snoc bytes v
  simp only [cellsForImage_eq]
  omega

/-- Every image needs a cell: tagctl's place alone makes it 4 bytes long. -/
theorem cellsForImage_pos (bytes : List Byte) : 1 ≤ cellsForImage bytes := by
  have h : 1 ≤ imageLength bytes := by
    unfold imageLength
    split <;> omega
  rw [cellsForImage_eq]
  omega

/-- What fitting says of a reception that stores. -/
theorem receptionFits_receiving {bytes : List Byte} {cells : List GeneralCell} :
    receptionFits (some (.receiving bytes cells)) = true ↔
      bytes.length ≤ 1041 ∧ cells.length = cellsForImage bytes := by
  simp [receptionFits, Nat.max_eq_right (cellsForImage_pos bytes)]

theorem State.discardReception_fits {s : State} (hs : ReceptionsFit s) (p : Port)
    (cells : List GeneralCell) (k : PortCounter) : ReceptionsFit (s.discardReception p cells k) := by
  have hset : ReceptionsFit (s.setPort p { s.port p with reception := some .discarding }) :=
    hs.setPort p rfl
  exact hset.of_receptions_eq (by simp [State.discardReception])

/-- A reception begins with the one cell that its empty image needs. -/
theorem State.startReception_fits {s : State} (hs : ReceptionsFit s) (p : Port) :
    ReceptionsFit (s.startReception p) := by
  unfold State.startReception
  split
  · exact hs
  · split
    · split
      · exact State.discardReception_fits hs p _ _
      · exact (hs.setPort p (u := { s.port p with reception := some (.receiving [] [_]) })
          (receptionFits_receiving.mpr ⟨by simp, rfl⟩)).of_receptions_eq rfl
    · exact hs

/-- A byte is stored in the cells held, which then are still those its image needs, or with one more. -/
theorem State.receiveByte_fits {s : State} (hs : ReceptionsFit s) (p : Port) (v : Byte) :
    ReceptionsFit (State.receiveByte p s v) := by
  unfold State.receiveByte
  split
  · rename_i bytes cells hr
    have hfit := hs.port p
    rw [hr, receptionFits_receiving] at hfit
    obtain ⟨hlen, hcells⟩ := hfit
    have hgrow := cellsForImage_snoc bytes v
    split
    · exact State.discardReception_fits hs p _ _
    · rename_i hmax
      have hroom : (bytes ++ [v]).length ≤ 1041 := by
        simp only [Config.maxFrameBytes] at hmax
        simp only [List.length_append, List.length_singleton]
        omega
      split
      · exact hs.setPort p (receptionFits_receiving.mpr ⟨hroom, by omega⟩)
      · split
        · exact State.discardReception_fits hs p _ _
        · refine ReceptionsFit.of_receptions_eq (hs.setPort p
            (u := { s.port p with reception := some (.receiving (bytes ++ [v]) (cells ++ [_])) })
            (receptionFits_receiving.mpr ⟨hroom, ?_⟩)) rfl
          simp only [List.length_append, List.length_singleton]
          omega
  · exact hs

theorem State.receiveBytes_fits {s : State} (hs : ReceptionsFit s) (p : Port) (bytes : List Byte) :
    ReceptionsFit (s.receiveBytes p bytes) := by
  unfold State.receiveBytes
  induction bytes generalizing s with
  | nil => exact hs
  | cons v bytes ih => exact ih (State.receiveByte_fits hs p v)

theorem State.abortReception_fits {s : State} (hs : ReceptionsFit s) (p : Port) :
    ReceptionsFit (s.abortReception p) := by
  have hnone : ReceptionsFit (s.setPort p { s.port p with reception := none }) := hs.setPort p rfl
  unfold State.abortReception
  split
  · exact hnone.of_receptions_eq (by simp)
  · exact hnone
  · exact hs

@[simp] theorem State.offerCommand_receptions (s : State) (id : Nat) :
    (s.offerCommand id).receptions = s.receptions := by
  unfold State.offerCommand
  split <;> rfl

@[simp] theorem State.offerIngress_receptions (s : State) (p : Port) (id : Nat) :
    (s.offerIngress p id).receptions = s.receptions := by
  unfold State.offerIngress
  split
  · rfl
  · simp

@[simp] theorem State.routeGood_receptions (s : State) (p : Port) (bytes : List Byte)
    (cells : List GeneralCell) : (s.routeGood p bytes cells).receptions = s.receptions := by
  unfold State.routeGood
  dsimp only
  split <;> simp

theorem State.endReception_fits {s : State} (hs : ReceptionsFit s) (p : Port) :
    ReceptionsFit (s.endReception p) := by
  have hnone : ReceptionsFit (s.setPort p { s.port p with reception := none }) := hs.setPort p rfl
  unfold State.endReception
  split
  · dsimp only
    split
    · exact hnone.of_receptions_eq (by simp)
    · exact hnone.of_receptions_eq (by simp)
  · exact hnone
  · exact hs

/-! ### Restarts (R149) -/

@[simp] theorem State.lightRestart_receptions (s : State) :
    s.lightRestart.receptions = (none, none) := rfl

@[simp] theorem State.fullRestart_receptions (s : State) (straps : Straps) :
    (s.fullRestart straps).receptions = (none, none) := rfl

theorem State.settleRestart_fits {s : State} (hs : ReceptionsFit s) (straps : Straps) :
    ReceptionsFit (s.settleRestart straps) := by
  unfold State.settleRestart
  split
  · exact .of_none (by simp)
  · exact .of_none (by simp)
  · exact hs

/-! ### Egress -/

@[simp] theorem State.startCopy_receptions (s : State) (p : Port) (c : Fin 4) :
    (s.startCopy p c).receptions = s.receptions := by
  unfold State.startCopy
  dsimp only
  split
  · rfl
  · split
    · exact s.setPort_receptions p _ rfl
    · rfl

@[simp] theorem State.startTransmission_receptions (s : State) (p : Port) :
    (s.startTransmission p).receptions = s.receptions := by
  unfold State.startTransmission
  split
  · split
    · simp [State.startBuilt]
    · split <;> simp
  · rfl

@[simp] theorem State.endTransmission_receptions (s : State) (p : Port) :
    (s.endTransmission p).receptions = s.receptions := by
  unfold State.endTransmission
  split
  · rfl
  · dsimp only
    split <;> simp

/-! ### Classification -/

@[simp] theorem State.offerCopy_receptions (id cells : Nat) (s : State) (o : CopyOffer) :
    (State.offerCopy id cells s o).receptions = s.receptions := by
  unfold State.offerCopy
  dsimp only
  split <;> simp

@[simp] theorem State.offerPuntEntry_receptions (id : Nat) (q : Port) (s : State) :
    (State.offerPuntEntry id q s).receptions = s.receptions := by
  unfold State.offerPuntEntry
  split
  · simp
  · split <;> simp

@[simp] theorem State.countDrop_receptions (p : Port) (s : State) (why : DropReason) :
    (State.countDrop p s why).receptions = s.receptions := by
  cases why <;> simp [State.countDrop]

@[simp] theorem State.dispose_receptions (s : State) (id cells : Nat) (r : FrameRecord) :
    (s.dispose id cells r).receptions = s.receptions := by
  have hcopies := foldl_keeps (State.offerCopy_receptions id cells)
  unfold State.dispose
  dsimp only
  cases r.disp.final.drop <;> cases r.disp.final.punt <;> simp [hcopies]

@[simp] theorem State.lookupStage_receptions (s : State) (b : Bank) (r : FrameRecord) :
    (s.lookupStage b r).1.receptions = s.receptions := by
  unfold State.lookupStage
  split <;> simp

@[simp] theorem State.classifyFrame_receptions (s : State) (f : RxFrame) :
    (s.classifyFrame f).receptions = s.receptions := by
  unfold State.classifyFrame State.classifyNormal
  dsimp only
  split
  · split <;> simp
  · simp

@[simp] theorem State.classify_receptions (s : State) : s.classify.receptions = s.receptions := by
  unfold State.classify
  split
  · rfl
  · split
    · rfl
    · dsimp only
      split
      · simp
      · simp

/-! ### Commands at the endpoint -/

/-- A command's run keeps receptions fitting. -/
def Run.KeepsFit (run : Run) : Prop :=
  ∀ (c : Command) (s : State), ReceptionsFit s → ReceptionsFit (run c s).1

/-- A run that leaves the receptions as they were keeps them fitting. -/
theorem Run.KeepsFit.of_receptions_eq {run : Run}
    (h : ∀ (c : Command) (s : State), (run c s).1.receptions = s.receptions) : Run.KeepsFit run :=
  fun c s hs => hs.of_receptions_eq (h c s)

@[simp] theorem State.takeHead_receptions (s : State) : s.takeHead.receptions = s.receptions := by
  unfold State.takeHead
  split <;> rfl

theorem State.judge_fits {run : Run} (hrun : Run.KeepsFit run) {s : State} (hs : ReceptionsFit s)
    (perm : Command → Permission) (c : Command) : ReceptionsFit (s.judge perm run c) := by
  have hperm : ReceptionsFit (s.runPermitted (perm c) run c).1 := by
    unfold State.runPermitted
    split
    · exact hs
    · exact hrun c s hs
  unfold State.judge
  split
  · exact hs.of_receptions_eq rfl
  · split
    · exact hs.of_receptions_eq rfl
    · dsimp only
      split <;> exact hperm.of_receptions_eq rfl

theorem State.takeCommand_fits {run : Run} (hrun : Run.KeepsFit run) {s : State}
    (hs : ReceptionsFit s) (takes : Command → Bool) (perm : Command → Permission) :
    ReceptionsFit (s.takeCommand takes perm run) := by
  have hhead : ReceptionsFit s.takeHead := hs.of_receptions_eq (by simp)
  unfold State.takeCommand
  split
  · split
    · exact State.judge_fits hrun hhead perm _
    · exact hs
  · exact hs

theorem State.discardMalformed_receptions (s : State) :
    s.discardMalformed.receptions = s.receptions := by
  unfold State.discardMalformed
  split
  · split
    · exact s.takeHead_receptions
    · rfl
  · rfl

theorem needs_fits {run : Run} (hrun : Run.KeepsFit run) (n : Nat) : Run.KeepsFit (needs n run) := by
  intro c s hs
  unfold needs
  split
  · exact hs
  · exact hrun c s hs

theorem counterRun_fits {run : Bool → Run} (hrun : ∀ b, Run.KeepsFit (run b)) (n : Nat) :
    Run.KeepsFit (counterRun n run) := by
  refine needs_fits (fun c s hs => ?_) 3
  split
  · exact hs
  · split
    · exact hs
    · split
      · exact hs
      · exact hrun _ c s hs

theorem runOpenSession_fits : Run.KeepsFit runOpenSession :=
  .of_receptions_eq fun c s => by
    unfold runOpenSession
    split
    · rfl
    · split <;> rfl

theorem runSetListener_fits : Run.KeepsFit runSetListener :=
  needs_fits (.of_receptions_eq fun c s => by
    split
    · split <;> rfl
    · rfl) 3

theorem State.clearListener_receptions (s : State) : s.clearListener.receptions = s.receptions := by
  have hflush : ∀ (t : State) (id : Nat), (t.flushPunt id).receptions = t.receptions := by
    intro t id
    unfold State.flushPunt
    split <;> simp
  simp only [State.clearListener, foldl_keeps hflush]
  rfl

theorem runAckEvent_fits : Run.KeepsFit runAckEvent :=
  needs_fits (.of_receptions_eq fun c s => by
    split <;> rfl) 2

theorem runRestart_fits : Run.KeepsFit runRestart :=
  needs_fits (.of_receptions_eq fun c s => by
    split
    · rfl
    · split <;> rfl) 1

theorem runReadTable_fits : Run.KeepsFit runReadTable :=
  needs_fits (.of_receptions_eq fun c s => by
    split
    · rfl
    · split
      · rfl
      · dsimp only
        split
        · rfl
        · split
          · rfl
          · simp only [State.setCursor]
            split <;> rfl) 6

theorem runReadNext_fits : Run.KeepsFit runReadNext :=
  .of_receptions_eq fun c s => by
    unfold runReadNext
    split <;> rfl

theorem runWriteTable_fits : Run.KeepsFit runWriteTable :=
  needs_fits (.of_receptions_eq fun c s => by
    split <;> rfl) 3

theorem runCommit_fits : Run.KeepsFit runCommit :=
  .of_receptions_eq fun c s => by
    unfold runCommit
    split <;> rfl

theorem runAbortEdit_fits : Run.KeepsFit runAbortEdit :=
  .of_receptions_eq fun c s => by
    unfold runAbortEdit
    split <;> rfl

theorem runHits_fits (clear : Bool) : Run.KeepsFit (runHits clear) :=
  .of_receptions_eq fun c s => by
    unfold runHits
    split
    · rfl
    · split
      · rfl
      · split
        · rfl
        · cases clear <;> simp

theorem runPort_fits (clear : Bool) : Run.KeepsFit (runPort clear) :=
  .of_receptions_eq fun c s => by
    unfold runPort
    split
    · rfl
    · cases clear
      · rfl
      · exact s.setPort_receptions _ _ rfl

theorem runMeters_fits (clear : Bool) : Run.KeepsFit (runMeters clear) :=
  .of_receptions_eq fun c s => by
    unfold runMeters
    split
    · rfl
    · cases clear <;> simp

theorem runPrefilter_fits (clear : Bool) : Run.KeepsFit (runPrefilter clear) :=
  .of_receptions_eq fun c s => by
    unfold runPrefilter
    cases clear <;> simp

theorem runMgmt_fits (clear : Bool) : Run.KeepsFit (runMgmt clear) :=
  .of_receptions_eq fun c s => by
    unfold runMgmt
    cases clear <;> simp

theorem runIntegrity_fits (clear : Bool) : Run.KeepsFit (runIntegrity clear) :=
  .of_receptions_eq fun c s => by
    unfold runIntegrity
    cases clear <;> simp

theorem runGetSetting_fits : Run.KeepsFit runGetSetting :=
  needs_fits (.of_receptions_eq fun c s => by
    split <;> rfl) 2

/-- Of the settings port_enable alone can end a reception; none makes one unfit. -/
theorem State.setSetting_fits {s t : State} (hs : ReceptionsFit s) (x : Setting) (v : Nat)
    (h : s.setSetting x v = some t) : ReceptionsFit t := by
  cases x with
  | portEnable p =>
    simp only [State.setSetting, State.setPortEnable, Option.ite_none_right_eq_some,
      Option.some.injEq] at h
    exact h.2 ▸ State.changePort_fits hs p rfl
  | fallback p =>
    simp only [State.setSetting, State.setFallback] at h
    split at h
    · cases h; exact hs
    · simp only [Option.ite_none_right_eq_some, Option.some.injEq] at h
      exact h.2 ▸ hs
  | queueLimit p c =>
    simp only [State.setSetting, State.setQueueLimit, Option.ite_none_right_eq_some,
      Option.some.injEq] at h
    exact h.2 ▸ hs.of_receptions_eq (by simp)
  | _ =>
    simp only [State.setSetting, State.setNodeAddress, State.setSessionTimeout, State.setVerifyPeriod,
      State.setPoolLowMark, State.setPoolHighMark, Option.ite_none_right_eq_some,
      Option.some.injEq] at h
    exact h.2 ▸ hs.of_receptions_eq rfl

theorem runSetSetting_fits : Run.KeepsFit runSetSetting :=
  needs_fits (fun c s hs => by
    split
    · split
      · rename_i h
        exact State.setSetting_fits hs _ _ h
      · exact hs
    · exact hs) 4

/-! ### Every command -/

@[simp] theorem State.signingStep_receptions (s : State) :
    s.signingStep.receptions = s.receptions := by
  unfold State.signingStep
  split
  · split <;> rfl
  · rfl

@[simp] theorem State.swap_receptions (s : State) : s.swap.receptions = s.receptions := by
  unfold State.swap
  split <;> rfl

@[simp] theorem State.verdictFail_receptions (s : State) :
    s.verdictFail.receptions = s.receptions := by
  unfold State.verdictFail
  split
  · split <;> rfl
  · rfl

/-- Every command keeps receptions fitting. -/
theorem exec_keeps_receptionsFit {i : Instr} {s t : State} (hs : ReceptionsFit s)
    (h : exec i s = .next t) : ReceptionsFit t := by
  cases i with
  | pinReset pins => exact .of_next h (.of_none rfl)
  | linkPinChange p level => exact .of_next h (State.settleRestart_fits (State.linkPin_fits hs p level) _)
  | frameStart p => exact .of_next h (State.startReception_fits hs p)
  | receptionCellClaim p bytes => exact .of_next h (State.receiveBytes_fits hs p bytes)
  | oversizeCutoff p bytes => exact .of_next h (State.receiveBytes_fits hs p bytes)
  | lineAbort p => exact .of_next h (State.abortReception_fits hs p)
  | frameEnd p bytes =>
    exact .of_next h (State.endReception_fits (State.receiveBytes_fits hs p bytes) p)
  | classify => exact .of_next h (hs.of_receptions_eq s.classify_receptions)
  | malformedCommand => exact .of_next h (hs.of_receptions_eq s.discardMalformed_receptions)
  | unknownCommand => exact .of_next h (State.takeCommand_fits (fun _ _ hs => hs) hs _ _)
  | discover => exact .of_next h (State.takeCommand_fits (fun _ _ hs => hs) hs _ _)
  | openSession => exact .of_next h (State.takeCommand_fits runOpenSession_fits hs _ _)
  | closeSession =>
    exact .of_next h (State.takeCommand_fits
      (.of_receptions_eq fun _ t => t.endSession_receptions .closed) hs _ _)
  | getSetting => exact .of_next h (State.takeCommand_fits runGetSetting_fits hs _ _)
  | setNodeAddress | setSessionTimeout | setVerifyPeriod | setFallback | setPortEnable | setQueueLimit
  | setPoolLowMark | setPoolHighMark =>
    exact .of_next h (State.takeCommand_fits runSetSetting_fits hs _ _)
  | readTable => exact .of_next h (State.takeCommand_fits runReadTable_fits hs _ _)
  | readNext => exact .of_next h (State.takeCommand_fits runReadNext_fits hs _ _)
  | writeTable => exact .of_next h (State.takeCommand_fits runWriteTable_fits hs _ _)
  | commit => exact .of_next h (State.takeCommand_fits runCommit_fits hs _ _)
  | abortEdit => exact .of_next h (State.takeCommand_fits runAbortEdit_fits hs _ _)
  | readCountersHits =>
    exact .of_next h (State.takeCommand_fits (counterRun_fits runHits_fits 7) hs _ _)
  | readCountersPort =>
    exact .of_next h (State.takeCommand_fits (counterRun_fits runPort_fits 3) hs _ _)
  | readCountersMeter =>
    exact .of_next h (State.takeCommand_fits (counterRun_fits runMeters_fits 7) hs _ _)
  | readCountersPrefilter =>
    exact .of_next h (State.takeCommand_fits (counterRun_fits runPrefilter_fits 3) hs _ _)
  | readCountersMgmt =>
    exact .of_next h (State.takeCommand_fits (counterRun_fits runMgmt_fits 3) hs _ _)
  | readCountersIntegrity =>
    exact .of_next h (State.takeCommand_fits (counterRun_fits runIntegrity_fits 3) hs _ _)
  | readStatus => exact .of_next h (State.takeCommand_fits (fun _ _ hs => hs) hs _ _)
  | setListener => exact .of_next h (State.takeCommand_fits runSetListener_fits hs _ _)
  | setListenerNone =>
    exact .of_next h (State.takeCommand_fits
      (.of_receptions_eq fun _ t => t.clearListener_receptions) hs _ _)
  | ackEvent => exact .of_next h (State.takeCommand_fits runAckEvent_fits hs _ _)
  | restartLight | restartFull =>
    exact .of_next h (State.settleRestart_fits (State.takeCommand_fits runRestart_fits hs _ _) _)
  | lightRestart by_ =>
    refine .of_next h ?_
    split
    · exact .of_none (by simp)
    · exact hs
  | fullRestart by_ straps =>
    refine .of_next h ?_
    split
    · exact .of_none (by simp)
    · exact hs
  | sessionIdleExpiry => exact .of_next h (hs.of_receptions_eq (s.endSession_receptions .expired))
  | signingStep => exact .of_next h (hs.of_receptions_eq s.signingStep_receptions)
  | swap => exact .of_next h (hs.of_receptions_eq s.swap_receptions)
  | verdictPass =>
    refine .of_next h ?_
    split <;> exact hs
  | verdictFail => exact .of_next h (hs.of_receptions_eq s.verdictFail_receptions)
  | storageUpset bank table index content =>
    refine .of_next h ?_
    split <;> exact hs
  | reserveGrant =>
    have harbiter : ReceptionsFit (s.onCommons Commons.arbiter) := hs.of_receptions_eq (by simp)
    exact .of_next h (State.settleRestart_fits harbiter _)
  | transmissionStart p => exact .of_next h (hs.of_receptions_eq (s.startTransmission_receptions p))
  | transmissionEnd p =>
    have hended : ReceptionsFit (s.endTransmission p) := hs.of_receptions_eq (by simp)
    exact .of_next h (State.settleRestart_fits hended _)
  | refill | copyingStep | endOfCopying | verifyPeriodExpiry | sweepStep | mgmtOutAdmit p | eventSend
  | retryTimerExpiry | puntTake | uptimeCount => exact .of_next h (hs.of_receptions_eq (by simp))

end Sys2Proof.Machine

namespace Sys2Proof.Settled

open Sys2Proof.Machine Sys2Proof.Safety

/-- Settles O19: each command keeps the receptions fitting, and an idle step changes nothing. -/
theorem receptionsStayFitted : Obligations.ReceptionsStayFitted := by
  intro s t hs h
  unfold step at h
  split at h
  · exact .of_next h hs
  · rename_i c rest _
    have hs' : ReceptionsFit { s with pending := rest } := hs.of_receptions_eq (by simp)
    exact exec_keeps_receptionsFit hs' h

end Sys2Proof.Settled
end

section
/-! PROOF. Flags and action lists: one reading rule for each flag operation, and what no step of an action
list changes of a record (R9 to R12, R73). -/

namespace Sys2Proof.Machine

/-! ### Flags -/

theorem flagBit_lt (f : FrameFlag) : flagBit f < 16 := by
  cases f with
  | user n => exact Nat.lt_of_lt_of_le n.isLt (by decide)
  | _ => decide

/-- A flag's mask has its bit alone. -/
theorem getLsbD_flagMask (f : FrameFlag) (i : Nat) :
    (flagMask f).getLsbD i = decide (flagBit f = i) := by
  have h := flagBit_lt f
  simp [flagMask, ← BitVec.twoPow_eq, BitVec.getLsbD_twoPow, h]

/-- A flag that is put is read at its own bit, and leaves the others. -/
theorem getLsbD_putFlag (flags : Word16) (f : FrameFlag) (v : Bool) {i : Nat} (hi : i < 16) :
    (putFlag flags f v).getLsbD i = if flagBit f = i then v else flags.getLsbD i := by
  cases v
  · simp only [putFlag, Bool.false_eq_true, if_false, BitVec.getLsbD_and, BitVec.getLsbD_not,
      getLsbD_flagMask, hi]
    by_cases h : flagBit f = i <;> simp [h]
  · simp only [putFlag, if_true, BitVec.getLsbD_or, getLsbD_flagMask]
    by_cases h : flagBit f = i <;> simp [h]

/-- TAGGED and DOUBLE follow the tag stack; the other flags stay. -/
theorem getLsbD_putTagFlags (flags : Word16) (tags : TagStack) {i : Nat} (hi : i < 16) :
    (putTagFlags flags tags).getLsbD i =
      if i = 8 then decide (1 ≤ tags.count) else if i = 9 then decide (tags.count = 2)
      else flags.getLsbD i := by
  simp only [putTagFlags, getLsbD_putFlag _ _ _ hi, flagBit, eq_comm (b := i)]
  split <;> split <;> simp_all

/-- TAGGED and DOUBLE are those of the tag stack (R12). -/
def TagFlagsAgree (flags : Word16) (tags : TagStack) : Prop :=
  flags.getLsbD 8 = decide (1 ≤ tags.count) ∧ flags.getLsbD 9 = decide (tags.count = 2)

/-- TAGGED and DOUBLE agree with the stack exactly when putting them changes nothing. -/
theorem putTagFlags_eq_self_iff (flags : Word16) (tags : TagStack) :
    putTagFlags flags tags = flags ↔ TagFlagsAgree flags tags := by
  constructor
  · intro h
    have h8 := getLsbD_putTagFlags flags tags (i := 8) (by decide)
    have h9 := getLsbD_putTagFlags flags tags (i := 9) (by decide)
    rw [h] at h8 h9
    exact ⟨h8, h9⟩
  · rintro ⟨h8, h9⟩
    refine BitVec.eq_of_getLsbD_eq fun i hi => ?_
    rw [getLsbD_putTagFlags flags tags hi]
    split
    · simp_all
    · split <;> simp_all

/-! ### What no list changes (R9 to R12, R73) -/

/-- The record `x` is `r` in every field that no step reaches: those of reception and lookup, PF_HIT and
PF_MISS; and TAGGED and DOUBLE agree with the tag stack where they did. -/
structure KeepsFixedFields (r x : FrameRecord) : Prop where
  len : x.len = r.len
  rxLen : x.rxLen = r.rxLen
  peek : x.peek = r.peek
  ingress : x.ingress = r.ingress
  pf : x.pf = r.pf
  generation : x.generation = r.generation
  slot : x.slot = r.slot
  cellList : x.cellList = r.cellList
  pfHit : x.flags.getLsbD 10 = r.flags.getLsbD 10
  pfMiss : x.flags.getLsbD 11 = r.flags.getLsbD 11
  tagFlags : TagFlagsAgree r.flags r.tags → TagFlagsAgree x.flags x.tags

namespace KeepsFixedFields

@[refl] theorem refl (r : FrameRecord) : KeepsFixedFields r r :=
  ⟨rfl, rfl, rfl, rfl, rfl, rfl, rfl, rfl, rfl, rfl, id⟩

theorem trans {r x y : FrameRecord} (h : KeepsFixedFields r x) (k : KeepsFixedFields x y) :
    KeepsFixedFields r y where
  len := k.len.trans h.len
  rxLen := k.rxLen.trans h.rxLen
  peek := k.peek.trans h.peek
  ingress := k.ingress.trans h.ingress
  pf := k.pf.trans h.pf
  generation := k.generation.trans h.generation
  slot := k.slot.trans h.slot
  cellList := k.cellList.trans h.cellList
  pfHit := k.pfHit.trans h.pfHit
  pfMiss := k.pfMiss.trans h.pfMiss
  tagFlags := k.tagFlags ∘ h.tagFlags

/-- Any flag outside TAGGED, DOUBLE, PF_HIT and PF_MISS may be put. -/
theorem putFlag (r : FrameRecord) {f : FrameFlag} (v : Bool) (hf : flagBit f < 8 ∨ 12 ≤ flagBit f) :
    KeepsFixedFields r { r with flags := putFlag r.flags f v } := by
  have keep : ∀ i, 8 ≤ i → i < 12 → (Machine.putFlag r.flags f v).getLsbD i = r.flags.getLsbD i := by
    intro i h8 h12
    rw [getLsbD_putFlag _ _ _ (by omega), if_neg (by omega)]
  exact ⟨rfl, rfl, rfl, rfl, rfl, rfl, rfl, rfl, keep 10 (by decide) (by decide),
    keep 11 (by decide) (by decide), fun ⟨h8, h9⟩ =>
      ⟨(keep 8 (by decide) (by decide)).trans h8, (keep 9 (by decide) (by decide)).trans h9⟩⟩

/-- A change of the disposition state touches no other field. -/
theorem setDisp (r : FrameRecord) (d : Disposition) : KeepsFixedFields r (r.setDisp d) :=
  ⟨rfl, rfl, rfl, rfl, rfl, rfl, rfl, rfl, rfl, rfl, id⟩

/-- A new tag stack brings TAGGED and DOUBLE with it. -/
theorem setTags (r : FrameRecord) (t : TagStack) : KeepsFixedFields r (r.setTags t) := by
  have bit : ∀ i, i < 16 → (r.setTags t).flags.getLsbD i = _ := fun i hi =>
    getLsbD_putTagFlags r.flags t hi
  exact ⟨rfl, rfl, rfl, rfl, rfl, rfl, rfl, rfl, bit 10 (by decide), bit 11 (by decide),
    fun _ => ⟨bit 8 (by decide), bit 9 (by decide)⟩⟩

/-- A rewritten field is none of those kept, and a rewritten tag leaves the number of tags. -/
theorem setField (r : FrameRecord) (f : Field) (w : Word16) : KeepsFixedFields r (r.setField f w) := by
  have outer : (r.tags.setOuter w).count = r.tags.count := by cases r.tags <;> rfl
  have inner : (r.tags.setInner w).count = r.tags.count := by cases r.tags <;> rfl
  cases f with
  | outerTag =>
    exact ⟨rfl, rfl, rfl, rfl, rfl, rfl, rfl, rfl, rfl, rfl, fun h => by
      simpa only [FrameRecord.setField, TagFlagsAgree, outer] using h⟩
  | innerTag =>
    exact ⟨rfl, rfl, rfl, rfl, rfl, rfl, rfl, rfl, rfl, rfl, fun h => by
      simpa only [FrameRecord.setField, TagFlagsAgree, inner] using h⟩
  | _ => exact ⟨rfl, rfl, rfl, rfl, rfl, rfl, rfl, rfl, rfl, rfl, id⟩

/-- The hop budget is none of the fields kept. -/
theorem setHop (r : FrameRecord) (n : Byte) : KeepsFixedFields r { r with hop := n } :=
  ⟨rfl, rfl, rfl, rfl, rfl, rfl, rfl, rfl, rfl, rfl, id⟩

end KeepsFixedFields

/-! ### Steps and lists -/

/-- A step fault sets FAULT alone. -/
theorem stepFault_keeps (r : FrameRecord) (ms : Vector Meter 64) :
    KeepsFixedFields r (stepFault r ms).record :=
  .putFlag r (f := .fault) true (by decide)

/-- HOP changes the hop budget and may drop the frame (R54). -/
theorem runHop_keeps (r : FrameRecord) (ms : Vector Meter 64) :
    KeepsFixedFields r (runHop r ms).record := by
  unfold runHop
  split
  · exact .setDisp r _
  · split
    · exact (KeepsFixedFields.setHop r _).trans (.setDisp _ _)
    · exact .setHop r _

theorem runRewrite_keeps (r : FrameRecord) (ms : Vector Meter 64) (f : Field) (value mask : Word16) :
    KeepsFixedFields r (runRewrite r ms f value mask).record := by
  unfold runRewrite
  split
  · exact .setField r f _
  · exact stepFault_keeps r ms

theorem runCompare_keeps (r : FrameRecord) (ms : Vector Meter 64) (f : Field) (value mask : Word16) :
    KeepsFixedFields r (runCompare r ms f value mask).record := by
  unfold runCompare
  split
  · exact (KeepsFixedFields.putFlag r (f := .eq) _ (by decide)).trans
      (.putFlag _ (f := .lt) _ (by decide))
  · exact stepFault_keeps r ms

theorem runPush_keeps (r : FrameRecord) (ms : Vector Meter 64) (value : Word16) :
    KeepsFixedFields r (runPush r ms value).record := by
  unfold runPush
  split
  · exact .setTags r _
  · exact .setTags r _
  · exact stepFault_keeps r ms

theorem runPop_keeps (r : FrameRecord) (ms : Vector Meter 64) :
    KeepsFixedFields r (runPop r ms).record := by
  unfold runPop
  split
  · exact stepFault_keeps r ms
  · exact .setTags r _
  · exact .setTags r _

/-- No operation reaches a fixed field. -/
theorem runOp_keeps (r : FrameRecord) (ms : Vector Meter 64) (op : StepOp) (value mask : Word16) :
    KeepsFixedFields r (runOp r ms op value mask).record := by
  cases op with
  | forward set => exact .setDisp r _
  | cls c => exact .setDisp r _
  | rewrite f => exact runRewrite_keeps r ms f value mask
  | hop => exact runHop_keeps r ms
  | compare f => exact runCompare_keeps r ms f value mask
  | setFlag n => exact .putFlag r (f := .user n) true (.inl n.isLt)
  | clearFlag n => exact .putFlag r (f := .user n) false (.inl n.isLt)
  | pushTag => exact runPush_keeps r ms value
  | popTag => exact runPop_keeps r ms
  | meter m => exact .putFlag r (f := .red) _ (by decide)
  | mirror p => exact .setDisp r _
  | punt => exact .setDisp r _
  | drop c => exact .setDisp r _

theorem examineStep_keeps (r : FrameRecord) (ms : Vector Meter 64) (st : ActionStep) :
    KeepsFixedFields r (examineStep r ms st).record := by
  unfold examineStep
  split
  · split
    · exact runOp_keeps r ms _ _ _
    · exact stepFault_keeps r ms
    · exact stepFault_keeps r ms
  · exact .refl r

theorem runSteps_keeps (steps : List ActionStep) (r : FrameRecord) (ms : Vector Meter 64) :
    KeepsFixedFields r (runSteps steps r ms).1 := by
  induction steps generalizing r ms with
  | nil => exact .refl r
  | cons st rest ih =>
    have hstep := examineStep_keeps r ms st
    rw [runSteps]
    split
    · exact hstep
    · exact hstep.trans (ih _ _)

/-- No list reaches a fixed field, whatever its stored length and its steps. -/
theorem runList_keeps (b : Bank) (i : Nat) (r : FrameRecord) (ms : Vector Meter 64) :
    KeepsFixedFields r (runList b i r ms).1 := by
  unfold runList
  dsimp only
  split
  · exact (KeepsFixedFields.putFlag r (f := .fault) true (by decide)).trans (runSteps_keeps _ _ _)
  · exact runSteps_keeps _ _ _

end Sys2Proof.Machine

namespace Sys2Proof.Settled

open Sys2Proof.Machine

/-- Settles O36, by induction over the steps of the list. -/
theorem listsKeepFixedFields : Obligations.ListsKeepFixedFields := by
  intro b i r ms
  have h := runList_keeps b i r ms
  simp only [putTagFlags_eq_self_iff]
  exact ⟨h.len, h.rxLen, h.peek, h.ingress, h.pf, h.generation, h.slot, h.cellList, h.pfHit, h.pfMiss,
    h.tagFlags⟩

end Sys2Proof.Settled
end

section
/-! PROOF. Classification: what disposition leaves as it was, the stages of a classification opened from the
bytes of the bank, and what a classification in NORMAL comes to (R34, R35, R60, R73 to R75). -/

namespace Sys2Proof.Machine

/-! ### Port counters -/

/-- Whatever else of the part changes, its ports stay. -/
@[simp] theorem State.port_of_ports (s : State) (pending : List Instr) (straps : Straps) (x : Commons)
    (e : Endpoint) (c : Classifier) (pf : PfCounters) (ms : Vector Meter 64) (tables : Controller)
    (v : Verify) (p : Port) :
    State.port { pending := pending, straps := straps, portA := s.portA, portB := s.portB
                 commons := x, endpoint := e, classifier := c, prefilter := pf, meters := ms
                 tables := tables, verify := v } p = s.port p := by
  cases p <;> rfl

/-- Counting raises its counter. -/
theorem State.count_counter (s : State) (p : Port) (k : PortCounter) :
    ((s.count p k).port p).counter k = satInc ((s.port p).counter k) := by
  simp [State.count]

/-- Counting leaves every other counter, at either port. -/
theorem State.count_counter_ne (s : State) (p q : Port) {j k : PortCounter} (h : j ≠ k) :
    ((s.count p k).port q).counter j = (s.port q).counter j := by
  cases p <;> cases q <;>
    simp [State.count, State.setPort, State.port, PortUnit.count_counter_ne _ h]

/-- Counting at a port leaves the class queues of both. -/
theorem State.count_queues (s : State) (p q : Port) (k : PortCounter) :
    ((s.count p k).port q).queues = (s.port q).queues := by
  cases p <;> cases q <;> rfl

/-- Counting at a port leaves the other one. -/
theorem State.count_port_other (s : State) (p : Port) (k : PortCounter) :
    (s.count p k).port (otherPort p) = s.port (otherPort p) := by
  simp [State.count]

/-! ### What disposition leaves (R36, R60 to R65) -/

/-- The blocks that neither the ports nor what they share with the event unit belong to. -/
def State.blocks (s : State) :
    Endpoint × Classifier × PfCounters × Vector Meter 64 × Controller × Verify :=
  (s.endpoint, s.classifier, s.prefilter, s.meters, s.tables, s.verify)

@[simp] theorem State.onCommons_blocks (g : Env → Commons → Commons) (s : State) :
    (s.onCommons g).blocks = s.blocks := rfl

@[simp] theorem State.release_blocks (s : State) (id : Nat) : (s.release id).blocks = s.blocks := rfl

@[simp] theorem State.setPort_blocks (s : State) (p : Port) (u : PortUnit) :
    (s.setPort p u).blocks = s.blocks := by
  cases p <;> rfl

@[simp] theorem State.count_blocks (s : State) (p : Port) (k : PortCounter) :
    (s.count p k).blocks = s.blocks := s.setPort_blocks p _

theorem State.offerCopy_blocks (id cells : Nat) (s : State) (o : CopyOffer) :
    (State.offerCopy id cells s o).blocks = s.blocks := by
  unfold State.offerCopy
  dsimp only
  split <;> simp

@[simp] theorem State.offerPuntEntry_blocks (id : Nat) (q : Port) (s : State) :
    (State.offerPuntEntry id q s).blocks = s.blocks := by
  unfold State.offerPuntEntry
  split
  · simp
  · split <;> simp

@[simp] theorem State.countDrop_blocks (p : Port) (s : State) (why : DropReason) :
    (State.countDrop p s why).blocks = s.blocks := by
  cases why <;> simp [State.countDrop]

/-- Disposition changes the ports and what they share alone. -/
theorem State.dispose_blocks (s : State) (id cells : Nat) (r : FrameRecord) :
    (s.dispose id cells r).blocks = s.blocks := by
  have hcopies := foldl_keeps (State.offerCopy_blocks id cells)
  unfold State.dispose
  dsimp only
  cases r.disp.final.drop <;> cases r.disp.final.punt <;> simp [hcopies]

/-- Disposition leaves the endpoint, the classifier, the prefilter, the meters, the tables and the verify
unit. -/
theorem State.dispose_frame (s : State) (id cells : Nat) (r : FrameRecord) :
    (s.dispose id cells r).endpoint = s.endpoint ∧
      (s.dispose id cells r).classifier = s.classifier ∧
      (s.dispose id cells r).prefilter = s.prefilter ∧ (s.dispose id cells r).meters = s.meters ∧
      (s.dispose id cells r).tables = s.tables ∧ (s.dispose id cells r).verify = s.verify := by
  simpa [State.blocks] using s.dispose_blocks id cells r

@[simp] theorem State.dispose_classifier (s : State) (id cells : Nat) (r : FrameRecord) :
    (s.dispose id cells r).classifier = s.classifier := by
  simp [s.dispose_frame id cells r]

@[simp] theorem State.dispose_meters (s : State) (id cells : Nat) (r : FrameRecord) :
    (s.dispose id cells r).meters = s.meters := by
  simp [s.dispose_frame id cells r]

/-- An offered copy counts nothing but its own refusal. -/
theorem State.offerCopy_noMatch (id cells : Nat) (q : Port) (s : State) (o : CopyOffer) :
    ((State.offerCopy id cells s o).port q).counter .noMatch = (s.port q).counter .noMatch := by
  have hrefused : PortCounter.noMatch ≠ refusalCounter (s.isUp o.port) o.mirror := by
    unfold refusalCounter
    cases s.isUp o.port <;> cases o.mirror <;> decide
  unfold State.offerCopy
  dsimp only
  split
  · rw [State.onCommons_port]
    cases o.port <;> cases q <;> rfl
  · exact s.count_counter_ne _ _ hrefused

/-- An offered punt entry counts nothing but its own refusal. -/
theorem State.offerPuntEntry_counter (id : Nat) (q p : Port) (s : State) {k : PortCounter}
    (hnone : k ≠ .puntNoListener) (hfull : k ≠ .puntFull) :
    ((State.offerPuntEntry id q s).port p).counter k = (s.port p).counter k := by
  unfold State.offerPuntEntry
  split
  · exact s.count_counter_ne _ _ hnone
  · split
    · simp
    · exact s.count_counter_ne _ _ hfull

/-- An offered punt entry leaves the class queues. -/
theorem State.offerPuntEntry_queues (id : Nat) (q p : Port) (s : State) :
    ((State.offerPuntEntry id q s).port p).queues = (s.port p).queues := by
  unfold State.offerPuntEntry
  split
  · exact s.count_queues _ _ _
  · split
    · simp
    · exact s.count_queues _ _ _

/-- An offered punt entry leaves the port that the frame did not come in by. -/
theorem State.offerPuntEntry_port_other (id : Nat) (q : Port) (s : State) :
    (State.offerPuntEntry id q s).port (otherPort q) = s.port (otherPort q) := by
  unfold State.offerPuntEntry
  split
  · exact s.count_port_other _ _
  · split
    · simp
    · exact s.count_port_other _ _

/-- No drop counts at the no-match counter. -/
theorem State.countDrop_noMatch (p q : Port) (s : State) (why : DropReason) :
    ((State.countDrop p s why).port q).counter .noMatch = (s.port q).counter .noMatch := by
  cases why <;> simp [State.countDrop, State.count_counter_ne]

/-- Disposition leaves the no-match counters. -/
theorem State.dispose_noMatch (s : State) (id cells : Nat) (r : FrameRecord) (q : Port) :
    ((s.dispose id cells r).port q).counter .noMatch = (s.port q).counter .noMatch := by
  have hcopies := foldl_keeps (g := fun t => (t.port q).counter .noMatch)
    (State.offerCopy_noMatch id cells q)
  have hpunt := fun t => State.offerPuntEntry_counter id r.ingress q t (k := .noMatch)
    (by decide) (by decide)
  unfold State.dispose
  dsimp only at hcopies ⊢
  cases r.disp.final.drop <;> cases r.disp.final.punt <;>
    simp [State.release, hcopies, hpunt, State.countDrop_noMatch]

/-- A frame that its list or the classifier dropped is counted, may be punted, and is released: it is
offered to no port (R60, R64). -/
theorem State.dispose_dropped (s : State) (id cells : Nat) (r : FrameRecord) (why : DropReason)
    (h : r.disp.drop = some why) :
    let recorded := s.onCommons fun _ => Commons.updateFrame id fun f => f.classified r
    s.dispose id cells r =
      (if r.disp.punt then (recorded.countDrop r.ingress why).offerPuntEntry id r.ingress
        else recorded.countDrop r.ingress why).release id := by
  have hfinal : r.disp.final = r.disp := by simp [Disposition.final, h]
  have hcopies : copiesOf r.disp = [] := by simp [copiesOf, h]
  have hrecord : r.setDisp r.disp = r := rfl
  simp [State.dispose, hfinal, hcopies, hrecord, h]

/-- A frame dropped for PREFILTER_MISS is counted so at its ingress port; its punt entry may be counted there
too, and without one nothing else is (R74). -/
theorem State.dispose_prefilterMiss (s : State) (id cells : Nat) (r : FrameRecord) :
    let t := s.dispose id cells { r with disp := { r.disp with drop := some .prefilterMiss } }
    t.classifier.current = s.classifier.current ∧ t.meters = s.meters ∧
      (t.port r.ingress).counter .prefilterMiss =
        satInc ((s.port r.ingress).counter .prefilterMiss) ∧
      (t.port r.ingress).counter .noMatch = (s.port r.ingress).counter .noMatch ∧
      (t.port r.ingress).queues = (s.port r.ingress).queues ∧
      t.port (otherPort r.ingress) = s.port (otherPort r.ingress) ∧
      (r.disp.punt = false →
        t.commons.events.puntQueue = s.commons.events.puntQueue ∧
        t.port r.ingress = (s.port r.ingress).count .prefilterMiss) := by
  have hd := s.dispose_dropped id cells
    { r with disp := { r.disp with drop := some .prefilterMiss } } _ rfl
  dsimp only at hd ⊢
  refine ⟨by simp, s.dispose_meters id cells _, ?_, s.dispose_noMatch id cells _ _, ?_⟩
  all_goals
    rw [hd]
    cases r.disp.punt
  · simp [State.release, State.countDrop, State.count]
  · simp [State.release, State.countDrop, State.offerPuntEntry_counter, State.count]
  · simp [State.release, State.countDrop, State.count, Commons.updateFrame, PortUnit.count_queues]
  · simp [State.release, State.countDrop, State.offerPuntEntry_queues,
      State.offerPuntEntry_port_other, State.count]

/-! ### The stages, from the bytes of the bank (R10, R15, R23, R73 to R75) -/

/-- The take clears the top four flags. -/
theorem clearTakeFlags_eq (flags : Word16) : clearTakeFlags flags = flags &&& 0x0FFF#16 := by
  simp only [clearTakeFlags, putFlag, Bool.false_eq_true, if_false, BitVec.and_assoc]
  rfl

/-- POLICY gives the low eight flags. -/
theorem getLsbD_putUserFlags (flags : Word16) (set : Byte) {i : Nat} (hi : i < 16) :
    (putUserFlags flags set).getLsbD i = if i < 8 then set.getLsbD i else flags.getLsbD i := by
  have hmask : ∀ j : Fin 16, (0xFF00#16).getLsbD j.val = decide (8 ≤ j.val) := by decide
  simp only [putUserFlags, BitVec.getLsbD_or, BitVec.getLsbD_and, BitVec.getLsbD_setWidth,
    hmask ⟨i, hi⟩, hi]
  by_cases h : i < 8
  · simp [h, Nat.not_le.mpr h]
  · simp [h, Nat.not_lt.mp h]

/-- PF_HIT and PF_MISS tell the outcome. -/
theorem getLsbD_putPfFlags (flags : Word16) (o : PfOutcome) {i : Nat} (hi : i < 16) :
    (putPfFlags flags o).getLsbD i =
      if i = 10 then decide (o = .hit) else if i = 11 then decide (o = .miss)
      else flags.getLsbD i := by
  simp only [putPfFlags, getLsbD_putFlag _ _ _ hi, flagBit, eq_comm (b := i)]
  split <;> split <;> simp_all

/-- The flags of a screened record. -/
theorem screenRecord_flags (b : Bank) (r : FrameRecord) {i : Nat} (hi : i < 16) :
    (screenRecord b r).flags.getLsbD i =
      if i < 8 then (initialUserFlags b r.ingress).getLsbD i
      else if i = 10 then decide (prefilterOutcome b r.tags = .hit)
      else if i = 11 then decide (prefilterOutcome b r.tags = .miss)
      else r.flags.getLsbD i := by
  simp only [screenRecord, getLsbD_putPfFlags _ _ hi, getLsbD_putUserFlags _ _ hi]
  by_cases h : i < 8
  · simp [h, show i ≠ 10 by omega, show i ≠ 11 by omega]
  · simp [h]

/-- The list of a slot is its last byte (12.3). -/
theorem slotList_eq (b : Bank) (n : Nat) : slotList b n = (b.read (21183 + 20 * n)).toNat := by
  have hoffset : slotOffset n + 19 = 21183 + 20 * n := by
    simp only [slotOffset, recordOffset, tableBase, recordSize]
    omega
  rw [slotList, hoffset]

/-! ### A classification in NORMAL (R34, R35) -/

/-- The stored frame that a name finds has that name. -/
theorem Commons.frame?_id {x : Commons} {id : Nat} {f : RxFrame} (h : x.frame? id = some f) :
    f.id = id := by
  simpa using List.find?_some h

/-- The lookup stage of a record that matches at slot `n`. -/
theorem State.lookupStage_some (s : State) {b : Bank} {r : FrameRecord} {n : Nat}
    (h : lookup b r = some n) :
    s.lookupStage b r = ({ s with classifier := { s.classifier with
      current := countHit s.classifier.current n r.rxLen } }, { r with slot := some n },
      slotList b n) := by
  unfold State.lookupStage
  rw [h]

/-- The lookup stage of a record that matches nowhere. -/
theorem State.lookupStage_none (s : State) {b : Bank} {r : FrameRecord} (h : lookup b r = none) :
    s.lookupStage b r = (s.count r.ingress .noMatch, r, defaultList b r.ingress) := by
  unfold State.lookupStage
  rw [h]

/-- The prefilter drops a record: MISS under miss policy DROP (R74). -/
abbrev prefilterDrops (b : Bank) (r : FrameRecord) : Prop :=
  prefilterOutcome b r.tags = .miss ∧ missDrops b r.ingress = true

/-- A record that the prefilter drops is disposed of before any lookup. -/
theorem State.classifyNormal_dropped {s : State} (f : RxFrame) {r0 : FrameRecord}
    (h : prefilterDrops s.tables.activeBank r0) :
    let r := screenRecord s.tables.activeBank r0
    let counted := { s with
      prefilter := s.prefilter.count (prefilterOutcome s.tables.activeBank r0.tags) }
    s.classifyNormal f r0 =
      counted.dispose f.id f.cells { r with disp := { r.disp with drop := some .prefilterMiss } } := by
  have hq : (screenRecord s.tables.activeBank r0).ingress = r0.ingress := rfl
  unfold State.classifyNormal
  dsimp only
  rw [hq, if_pos h]
  rfl

/-- A record that matches at slot `n` is counted there, and the slot's list runs. -/
theorem State.classifyNormal_match {s : State} (f : RxFrame) {r0 : FrameRecord} {n : Nat}
    (h : ¬prefilterDrops s.tables.activeBank r0)
    (hn : lookup s.tables.activeBank (screenRecord s.tables.activeBank r0) = some n) :
    let x := runList s.tables.activeBank (slotList s.tables.activeBank n)
      { screenRecord s.tables.activeBank r0 with slot := some n } s.meters
    s.classifyNormal f r0 =
      { s with
        classifier := { s.classifier with current := countHit s.classifier.current n r0.rxLen }
        prefilter := s.prefilter.count (prefilterOutcome s.tables.activeBank r0.tags)
        meters := x.2 }.dispose f.id f.cells x.1 := by
  have hq : (screenRecord s.tables.activeBank r0).ingress = r0.ingress := rfl
  have hlen : (screenRecord s.tables.activeBank r0).rxLen = r0.rxLen := rfl
  unfold State.classifyNormal
  dsimp only
  rw [hq, if_neg h, State.lookupStage_some _ hn, hlen]
  rfl

/-- A record that matches nowhere is counted at its port, whose default list runs. -/
theorem State.classifyNormal_noMatch {s : State} (f : RxFrame) {r0 : FrameRecord}
    (h : ¬prefilterDrops s.tables.activeBank r0)
    (hn : lookup s.tables.activeBank (screenRecord s.tables.activeBank r0) = none) :
    let counted := { s with
      prefilter := s.prefilter.count (prefilterOutcome s.tables.activeBank r0.tags) }
    let x := runList s.tables.activeBank (defaultList s.tables.activeBank r0.ingress)
      (screenRecord s.tables.activeBank r0) s.meters
    s.classifyNormal f r0 =
      { counted.count r0.ingress .noMatch with meters := x.2 }.dispose f.id f.cells x.1 := by
  have hq : (screenRecord s.tables.activeBank r0).ingress = r0.ingress := rfl
  have hmeters : ∀ t : State, (t.count r0.ingress .noMatch).meters = t.meters := by
    simp [State.count]
  unfold State.classifyNormal
  dsimp only
  rw [hq, if_neg h, State.lookupStage_none _ hn, hq, hmeters]

/-- A classification in NORMAL leaves the endpoint, the tables and the verify unit, counts the prefilter's
outcome, and changes the classifier in its hit counters alone. -/
theorem State.classifyNormal_frame (s : State) (f : RxFrame) (r0 : FrameRecord) :
    (s.classifyNormal f r0).endpoint = s.endpoint ∧ (s.classifyNormal f r0).tables = s.tables ∧
      (s.classifyNormal f r0).verify = s.verify ∧
      (s.classifyNormal f r0).prefilter =
        s.prefilter.count (prefilterOutcome s.tables.activeBank r0.tags) ∧
      { (s.classifyNormal f r0).classifier with current := s.classifier.current } = s.classifier := by
  by_cases h : prefilterDrops s.tables.activeBank r0
  · simp [State.classifyNormal_dropped f h, State.dispose_frame]
  · cases hn : lookup s.tables.activeBank (screenRecord s.tables.activeBank r0) with
    | some n => simp [State.classifyNormal_match f h hn, State.dispose_frame]
    | none => simp [State.classifyNormal_noMatch f h hn, State.dispose_frame, State.count]

/-- A counted hit raises the counters of its slot, both wrapping, and no other (R24). -/
theorem countHit_getElem (hits : Vector HitCounter 512) (n len : Nat) (k : Fin 512) :
    (countHit hits n len)[k] =
      if k.val = n then { frames := hits[k].frames + 1#40, bytes := hits[k].bytes + BitVec.ofNat 48 len }
      else hits[k] := by
  simp [countHit]

/-- The ingress queues are no hit counters. -/
theorem Classifier.ingress_of_current (c : Classifier) (v : Vector HitCounter 512) (p : Port) :
    ({ c with current := v } : Classifier).ingress p = c.ingress p := by
  cases p <;> rfl

/-- What a match counts, and the disposition it leads to. -/
theorem State.classifyNormal_match_effects {s : State} (f : RxFrame) {r0 : FrameRecord} {n : Nat}
    (h : ¬prefilterDrops s.tables.activeBank r0)
    (hn : lookup s.tables.activeBank (screenRecord s.tables.activeBank r0) = some n) :
    let x := runList s.tables.activeBank (slotList s.tables.activeBank n)
      { screenRecord s.tables.activeBank r0 with slot := some n } s.meters
    let t := s.classifyNormal f r0
    t = { s with
      classifier := { s.classifier with current := t.classifier.current }
      prefilter := s.prefilter.count (prefilterOutcome s.tables.activeBank r0.tags)
      meters := x.2 }.dispose f.id f.cells x.1 ∧
    (∀ k : Fin 512, t.classifier.current[k] =
      if k.val = n then
        { frames := (s.classifier.current[k]).frames + 1#40
          bytes := (s.classifier.current[k]).bytes + BitVec.ofNat 48 r0.rxLen }
      else s.classifier.current[k]) ∧
    t.meters = x.2 ∧ ∀ q, (t.port q).counter .noMatch = (s.port q).counter .noMatch := by
  have ht := State.classifyNormal_match f h hn
  have hhits : (s.classifyNormal f r0).classifier.current =
      countHit s.classifier.current n r0.rxLen := by
    rw [ht, State.dispose_classifier]
  refine ⟨?_, fun k => ?_, ?_, fun q => ?_⟩
  · rw [hhits]
    exact ht
  · rw [hhits, countHit_getElem]
  · rw [ht, State.dispose_meters]
  · rw [ht, State.dispose_noMatch, State.port_of_ports]

/-- What a lookup without match counts, and the disposition it leads to. -/
theorem State.classifyNormal_noMatch_effects {s : State} (f : RxFrame) {r0 : FrameRecord}
    (h : ¬prefilterDrops s.tables.activeBank r0)
    (hn : lookup s.tables.activeBank (screenRecord s.tables.activeBank r0) = none) :
    let counted := { s with
      prefilter := s.prefilter.count (prefilterOutcome s.tables.activeBank r0.tags) }
    let x := runList s.tables.activeBank (defaultList s.tables.activeBank r0.ingress)
      (screenRecord s.tables.activeBank r0) s.meters
    let t := s.classifyNormal f r0
    t = { counted.count r0.ingress .noMatch with meters := x.2 }.dispose f.id f.cells x.1 ∧
      t.classifier.current = s.classifier.current ∧ t.meters = x.2 ∧
      (t.port r0.ingress).counter .noMatch = satInc ((s.port r0.ingress).counter .noMatch) := by
  have ht := State.classifyNormal_noMatch f h hn
  refine ⟨ht, ?_, ?_, ?_⟩
  · rw [ht, State.dispose_classifier]
    simp [State.count]
  · rw [ht, State.dispose_meters]
  · rw [ht, State.dispose_noMatch, State.port_of_ports, State.count_counter, State.port_of_ports]

/-- What a frame that the prefilter drops counts, and its disposition. -/
theorem State.classifyNormal_dropped_effects {s : State} (f : RxFrame) {r0 : FrameRecord}
    (h : prefilterDrops s.tables.activeBank r0) :
    let r := screenRecord s.tables.activeBank r0
    let counted := { s with
      prefilter := s.prefilter.count (prefilterOutcome s.tables.activeBank r0.tags) }
    let q := r0.ingress
    let t := s.classifyNormal f r0
    t = counted.dispose f.id f.cells { r with disp := { r.disp with drop := some .prefilterMiss } } ∧
      t.classifier.current = s.classifier.current ∧ t.meters = s.meters ∧
      (t.port q).counter .prefilterMiss = satInc ((s.port q).counter .prefilterMiss) ∧
      (t.port q).counter .noMatch = (s.port q).counter .noMatch ∧
      (t.port q).queues = (s.port q).queues ∧ t.port (otherPort q) = s.port (otherPort q) ∧
      (r0.disp.punt = false →
        t.commons.events.puntQueue = s.commons.events.puntQueue ∧
        t.port q = (s.port q).count .prefilterMiss) := by
  have ht := State.classifyNormal_dropped f h
  have heffects := State.dispose_prefilterMiss
    { s with prefilter := s.prefilter.count (prefilterOutcome s.tables.activeBank r0.tags) }
    f.id f.cells (screenRecord s.tables.activeBank r0)
  simp only [State.port_of_ports] at heffects
  rw [← ht] at heffects
  exact ⟨ht, heffects⟩

/-- The part once the classifier has taken a record from the queue of `p`, with `rest` behind it (R29). -/
def State.taken (s : State) (p : Port) (rest : List Nat) : State :=
  { s with classifier := { s.classifier.setIngress p rest with lastServed := p } }

/-- In NORMAL the classifier takes the head of the queue its arbiter chooses, and classifies it. -/
theorem State.classify_normal {s : State} {p : Port} {id : Nat} {rest : List Nat} {f : RxFrame}
    (hmode : s.classifier.mode = .normal) (hchoose : s.classifier.choose = some p)
    (hingress : s.classifier.ingress p = id :: rest) (hframe : s.commons.frame? id = some f) :
    s.classify =
      (s.taken p rest).classifyNormal f (takeRecord s.tables.generation f.record) := by
  have htaken : (s.taken p rest).classifier.mode = .normal := by simpa [State.taken] using hmode
  have hframed : s.classify = (s.taken p rest).classifyFrame f := by
    simp only [State.classify, hchoose, hingress, hframe, State.taken]
  rw [hframed, State.classifyFrame, if_pos htaken]
  rfl

end Sys2Proof.Machine

namespace Sys2Proof.Settled

open Sys2Proof.Machine

/-- Settles O39: each stage is opened from the bank's bytes, and the frame is then dropped by the prefilter,
or its match or the want of one is counted and its list run. -/
theorem normalClassificationCounts : Obligations.NormalClassificationCounts := by
  refine ⟨fun g r => ?_, fun b r => ⟨rfl, fun i hi => ?_, rfl⟩, fun b q => ?_, slotList_eq,
    fun n => rfl, fun c => ⟨rfl, rfl, rfl⟩, ?_⟩
  · rw [takeRecord, clearTakeFlags_eq]
  · rw [screenRecord_flags b r hi]
    cases r.ingress <;> rfl
  · cases q <;> simp [defaultList, missDrops, policyOffset, recordOffset, tableBase, recordSize]
  intro s p id rest f hmode hchoose hingress hframe b q o r taken
  have hclassify := State.classify_normal hmode hchoose hingress hframe
  obtain ⟨hendpoint, htables, hverify, hprefilter, hclassifier⟩ :=
    (s.taken p rest).classifyNormal_frame f (takeRecord s.tables.generation f.record)
  obtain rfl := Commons.frame?_id hframe
  rw [← hclassify] at hendpoint htables hverify hprefilter hclassifier
  have hports : ∀ x, (s.taken p rest).port x = s.port x := fun x => by cases x <;> rfl
  have hcurrent : (s.taken p rest).classifier.current = s.classifier.current := by
    simp [State.taken]
  have hingresses : ∀ x,
      s.classify.classifier.ingress x = (s.classifier.setIngress p rest).ingress x := fun x =>
    (Classifier.ingress_of_current _ _ x).symm.trans
      ((congrArg (Classifier.ingress · x) hclassifier).trans (by cases x <;> rfl))
  refine ⟨s.classify, rfl, htables, hverify, hendpoint, hprefilter, ?_, ?_,
    congrArg Classifier.lastServed hclassifier, ?_, ?_, fun hdrop => ?_,
    fun hgo => ⟨fun n hn => ?_, fun hn => ?_⟩⟩
  · rw [hingresses, Classifier.setIngress_ingress]
  · rw [hingresses, Classifier.setIngress_other]
  · exact (congrArg Classifier.mode hclassifier).trans
      ((s.classifier.setIngress_mode p rest).trans hmode)
  · exact (congrArg Classifier.previous hclassifier).trans (s.classifier.setIngress_previous p rest)
  · have heffects := State.classifyNormal_dropped_effects (s := s.taken p rest)
      (r0 := takeRecord s.tables.generation f.record) f hdrop
    simp only [← hclassify, hports, hcurrent] at heffects
    exact heffects
  · obtain ⟨hdisposed, hhits, hmeters, hnoMatch⟩ := State.classifyNormal_match_effects
      (s := s.taken p rest) (r0 := takeRecord s.tables.generation f.record) f hgo hn
    simp only [← hclassify, hports, hcurrent] at hdisposed hhits hmeters hnoMatch
    exact ⟨hdisposed, hhits, hmeters, hnoMatch q⟩
  · have heffects := State.classifyNormal_noMatch_effects (s := s.taken p rest)
      (r0 := takeRecord s.tables.generation f.record) f hgo hn
    simp only [← hclassify, hports, hcurrent] at heffects
    exact heffects

end Sys2Proof.Settled
end

section
/-! PROOF. Bytes that arrive: the cells they need, the claims they make of the pool, and the state in which
they leave the part (R7, R124, R125, R133). -/

namespace Sys2Proof.Machine

open Sys2Proof.Safety

/-! ### The cells of an image (R7) -/

/-- More bytes need no fewer cells. -/
theorem cellsForImage_le_append (bytes more : List Byte) :
    cellsForImage bytes ≤ cellsForImage (bytes ++ more) := by
  induction more using List.reverseRecOn with
  | nil => rw [List.append_nil]
  | append_singleton more v ih =>
    rw [← List.append_assoc]
    exact ih.trans (cellsForImage_snoc _ v).1

/-- The longest frame that is stored needs 17 cells, whatever its tags. -/
theorem cellsForImage_of_full {bytes : List Byte} (h : bytes.length = 1041) :
    cellsForImage bytes = 17 := by
  rw [cellsForImage_eq, imageLength, if_neg (by omega), h]
  omega

/-- No frame that is stored needs more. -/
theorem cellsForImage_le_of_stored {bytes : List Byte} (h : bytes.length ≤ 1041) :
    cellsForImage bytes ≤ 17 := by
  rw [cellsForImage_eq, imageLength]
  split <;> omega

/-- The image of a good frame is its payload and 17 bytes (R7, R126). -/
theorem imageLength_of_intake {bytes : List Byte} (h : intakeCheck bytes = none) :
    imageLength bytes = 17 + rxLenField bytes := by
  unfold intakeCheck at h
  split_ifs at h with hrunt hhead _ hlength _
  have htags : (byteAt bytes 6).toNat = rxTagctl bytes := rfl
  rw [imageLength, if_neg (by omega), htags]
  omega

/-! ### Claims (R124, R133) -/

/-- The pool after a reception took `k` cells, one at a time. -/
def Commons.takeCells (e : Env) (k : Nat) (x : Commons) : Commons :=
  Nat.repeat (Commons.takeGeneral e) k x

theorem Commons.takeCells_succ (e : Env) (k : Nat) (x : Commons) :
    Commons.takeCells e (k + 1) x = Commons.takeGeneral e (Commons.takeCells e k x) := rfl

/-- Claims take the first free cells and leave the stored frames. -/
theorem Commons.takeCells_frame (e : Env) (k : Nat) (x : Commons) :
    (Commons.takeCells e k x).pool.free = x.pool.free.drop k ∧
      (Commons.takeCells e k x).frames = x.frames := by
  induction k with
  | zero => exact ⟨rfl, rfl⟩
  | succ k ih => simp [Commons.takeCells_succ, ih]

/-- The pool with other free cells, before it evaluates its state. -/
def Commons.setFree (x : Commons) (free : List GeneralCell) : Commons :=
  { x with pool := { x.pool with free := free } }

theorem Commons.takeGeneral_eq (e : Env) (x : Commons) :
    Commons.takeGeneral e x = Commons.evalPool e (x.setFree x.pool.free.tail) := rfl

/-- A post does not depend on which cells are free. -/
theorem postedOn_setFree {v : State} {x y : Commons} {k : EventKind} (h : PostedOn v x y k)
    (free : List GeneralCell) : PostedOn v (x.setFree free) (y.setFree free) k := by
  obtain ⟨haccepted, heq, hstays, hbegins⟩ := h
  exact ⟨haccepted, congrArg (Commons.setFree · free) heq, hstays, hbegins⟩

/-- The pool's state does not change when its free count stands between what would change it. -/
theorem Commons.evalPool_stays (e : Env) {x : Commons}
    (hlow : x.pool.low = true → x.pool.freeGeneral ≤ x.pool.highMark)
    (hok : x.pool.low = false → x.pool.lowMark ≤ x.pool.freeGeneral) :
    Commons.evalPool e x = x := by
  unfold Commons.evalPool
  split
  · rename_i h
    rw [if_neg (Nat.not_lt.mpr (hlow h))]
  · rename_i h
    rw [if_neg (Nat.not_lt.mpr (hok (by simpa using h)))]

/-- A pool in POOL_OK whose free count is below the low mark becomes POOL_LOW and posts it. -/
theorem Commons.evalPool_low (e : Env) {x : Commons} (hok : x.pool.low = false)
    (h : x.pool.freeGeneral < x.pool.lowMark) :
    Commons.evalPool e x =
      Commons.post e (.poolLow x.pool.freeGeneral) { x with pool := { x.pool with low := true } } := by
  simp [Commons.evalPool, hok, h]

/-- A pool that claims have left `n` cells has evaluated nothing where the count met no mark. -/
theorem poolDrained_of_quiet {s : State} {y : Commons} {n : Nat}
    (h : s.commons.pool.low = true ∨ s.commons.pool.lowMark ≤ n)
    (hy : y = s.commons.setFree y.pool.free) : PoolDrained s s.commons y n := by
  refine ⟨fun _ => hy, fun hlow hless => ?_⟩
  rcases h with h | h
  · simp [h] at hlow
  · omega

/-- A claim that takes the count from the low mark to one below it posts POOL_LOW. -/
theorem poolDrained_of_crossing {s : State} {free : List GeneralCell}
    (hok : s.commons.pool.low = false) (hmark : s.commons.pool.lowMark = free.length + 1) :
    PoolDrained s s.commons (Commons.evalPool s.env (s.commons.setFree free)) free.length := by
  have hbelow : (s.commons.setFree free).pool.freeGeneral < (s.commons.setFree free).pool.lowMark := by
    show free.length < s.commons.pool.lowMark
    omega
  have hfree : (Commons.evalPool s.env (s.commons.setFree free)).pool.free = free :=
    (Commons.evalPool_frame s.env _).1
  refine ⟨fun h => ?_, fun _ _ => ?_⟩
  · simp only [hok, Bool.false_eq_true, false_or] at h
    omega
  · rw [hfree, Commons.evalPool_low s.env (x := s.commons.setFree free) hok hbelow, hmark]
    exact Commons.post_postedOn s _ _

/-- One more claim drains the pool by one more cell: the pool changes its state only where the count falls
below the low mark of a pool in POOL_OK. -/
theorem poolDrained_takeGeneral {s : State} (hs : PoolAgrees s) {y : Commons} {n : Nat}
    (hy : PoolDrained s s.commons y (n + 1)) (hn : y.pool.freeGeneral = n + 1)
    (hless : n < s.commons.pool.freeGeneral) :
    PoolDrained s s.commons (Commons.takeGeneral s.env y) n := by
  obtain ⟨hmarks, -, hstate⟩ := hs
  obtain ⟨hquiet, hposted⟩ := hy
  obtain ⟨free, hfree⟩ : ∃ free, free = y.pool.free.tail := ⟨_, rfl⟩
  have hleft : free.length = n := by
    rw [hfree, List.length_tail, ← Pool.freeGeneral, hn, Nat.add_sub_cancel]
  rw [Commons.takeGeneral_eq, ← hfree]
  by_cases hmet : s.commons.pool.low = true ∨ s.commons.pool.lowMark ≤ n + 1
  · have hbefore : y = s.commons.setFree y.pool.free := hquiet hmet
    have heq : y.setFree free = s.commons.setFree free :=
      (congrArg (Commons.setFree · free) hbefore).trans rfl
    rw [heq]
    by_cases hnone : s.commons.pool.low = true ∨ s.commons.pool.lowMark ≤ n
    · rw [Commons.evalPool_stays]
      · exact poolDrained_of_quiet hnone rfl
      · intro (h : s.commons.pool.low = true)
        show free.length ≤ s.commons.pool.highMark
        rw [if_pos h] at hstate
        omega
      · intro (h : s.commons.pool.low = false)
        show s.commons.pool.lowMark ≤ free.length
        simpa [h, hleft] using hnone
    · obtain ⟨hok, hbelow⟩ : s.commons.pool.low = false ∧ n < s.commons.pool.lowMark := by
        simpa using hnone
      have hmark : s.commons.pool.lowMark = free.length + 1 := by
        simp only [hok, Bool.false_eq_true, false_or] at hmet
        omega
      exact hleft ▸ poolDrained_of_crossing hok hmark
  · obtain ⟨hok, hbelow⟩ : s.commons.pool.low = false ∧ n + 1 < s.commons.pool.lowMark := by
      simpa using hmet
    have hpost := hposted hok hbelow
    have hlow : y.pool.low = true := by rw [hpost.2.1]
    have hhighMark : y.pool.highMark = s.commons.pool.highMark := by rw [hpost.2.1]
    rw [Commons.evalPool_stays]
    · refine ⟨fun h => ?_, fun _ _ => postedOn_setFree hpost free⟩
      simp only [hok, Bool.false_eq_true, false_or] at h
      omega
    · intro _
      show free.length ≤ y.pool.highMark
      omega
    · intro (h : y.pool.low = false)
      simp [hlow] at h

/-- After `k` claims the pool is drained to what is left. -/
theorem poolDrained_takeCells {s : State} (hs : PoolAgrees s) {k : Nat}
    (hk : k ≤ s.commons.pool.freeGeneral) :
    PoolDrained s s.commons (Commons.takeCells s.env k s.commons)
      (s.commons.pool.freeGeneral - k) := by
  induction k with
  | zero =>
    refine poolDrained_of_quiet ?_ rfl
    obtain ⟨-, -, hstate⟩ := hs
    cases hlow : s.commons.pool.low
    · exact .inr (by simpa [hlow] using hstate)
    · exact .inl rfl
  | succ k ih =>
    have hfree : (Commons.takeCells s.env k s.commons).pool.freeGeneral =
        s.commons.pool.freeGeneral - (k + 1) + 1 := by
      rw [Pool.freeGeneral, (Commons.takeCells_frame s.env k s.commons).1, List.length_drop]
      simp only [Pool.freeGeneral] at hk ⊢
      omega
    have hpred : s.commons.pool.freeGeneral - k = s.commons.pool.freeGeneral - (k + 1) + 1 := by omega
    exact poolDrained_takeGeneral hs (hpred ▸ ih (by omega)) hfree (by omega)

/-! ### Bytes that arrive (R124, R125) -/

/-- The part once the reception at `p` holds `bytes` in `cells` and `k` cells claimed since. -/
def State.claimed (s : State) (p : Port) (bytes : List Byte) (cells : List GeneralCell) (k : Nat) :
    State :=
  { s.setPort p { s.port p with
      reception := some (.receiving bytes (cells ++ s.commons.pool.free.take k)) } with
    commons := Commons.takeCells s.env k s.commons }

@[simp] theorem State.claimed_port (s : State) (p : Port) (bytes : List Byte)
    (cells : List GeneralCell) (k : Nat) :
    (s.claimed p bytes cells k).port p = { s.port p with
      reception := some (.receiving bytes (cells ++ s.commons.pool.free.take k)) } := by
  cases p <;> rfl

@[simp] theorem State.claimed_commons (s : State) (p : Port) (bytes : List Byte)
    (cells : List GeneralCell) (k : Nat) :
    (s.claimed p bytes cells k).commons = Commons.takeCells s.env k s.commons := rfl

/-- A reception and its claims change their port and what the ports share alone. -/
theorem State.claimed_frame (s : State) (p : Port) (bytes : List Byte) (cells : List GeneralCell)
    (k : Nat) :
    (s.claimed p bytes cells k).port (otherPort p) = s.port (otherPort p) ∧
      (s.claimed p bytes cells k).endpoint = s.endpoint ∧
      (s.claimed p bytes cells k).classifier = s.classifier ∧
      (s.claimed p bytes cells k).tables = s.tables := by
  cases p <;> exact ⟨rfl, rfl, rfl, rfl⟩

/-- A reception does not change what the rest of the part shows to `Commons`. -/
@[simp] theorem State.claimed_env (s : State) (p : Port) (bytes : List Byte)
    (cells : List GeneralCell) (k : Nat) : (s.claimed p bytes cells k).env = s.env := by
  cases p <;> rfl

/-- A byte that the cells held have room for. -/
theorem State.receiveByte_claimed_stores (s : State) (p : Port) (bytes : List Byte)
    (cells : List GeneralCell) (k : Nat) (v : Byte) (hlen : bytes.length < 1041)
    (hroom : cellsForImage (bytes ++ [v]) ≤ (cells ++ s.commons.pool.free.take k).length) :
    State.receiveByte p (s.claimed p bytes cells k) v = s.claimed p (bytes ++ [v]) cells k := by
  simp only [State.receiveByte, State.claimed_port, Config.maxFrameBytes,
    if_neg (Nat.not_le.mpr hlen), if_pos hroom]
  cases p <;> rfl

/-- A byte that needs a further cell, and finds one. -/
theorem State.receiveByte_claimed_claims (s : State) (p : Port) (bytes : List Byte)
    (cells : List GeneralCell) (k : Nat) (v : Byte) (hlen : bytes.length < 1041)
    (hroom : (cells ++ s.commons.pool.free.take k).length < cellsForImage (bytes ++ [v]))
    (hfree : k < s.commons.pool.freeGeneral) :
    State.receiveByte p (s.claimed p bytes cells k) v = s.claimed p (bytes ++ [v]) cells (k + 1) := by
  have hnext : (Commons.takeCells s.env k s.commons).pool.free =
      s.commons.pool.free[k] :: s.commons.pool.free.drop (k + 1) := by
    rw [(Commons.takeCells_frame s.env k s.commons).1, List.drop_eq_getElem_cons hfree]
  simp only [State.receiveByte, State.claimed_port, Config.maxFrameBytes,
    if_neg (Nat.not_le.mpr hlen), if_neg (Nat.not_le.mpr hroom), State.claimed_commons, hnext,
    List.append_assoc, List.take_append_getElem hfree]
  cases p <;> rfl

/-- A part in which a reception goes on discarding takes no byte. -/
theorem State.receiveBytes_discarding {s : State} {p : Port}
    (h : (s.port p).reception = some .discarding) (bytes : List Byte) :
    s.receiveBytes p bytes = s := by
  have hbyte : ∀ v, State.receiveByte p s v = s := fun v => by simp only [State.receiveByte, h]
  induction bytes with
  | nil => rfl
  | cons v bytes ih => exact (congrArg (State.receiveBytes · p bytes) (hbyte v)).trans ih

theorem State.receiveBytes_snoc (s : State) (p : Port) (bytes : List Byte) (v : Byte) :
    s.receiveBytes p (bytes ++ [v]) = State.receiveByte p (s.receiveBytes p bytes) v := by
  simp [State.receiveBytes]

/-- A byte that needs a further cell when none is free. -/
theorem State.receiveByte_claimed_noBuffer (s : State) (p : Port) (bytes : List Byte)
    (cells : List GeneralCell) (v : Byte) (hlen : bytes.length < 1041)
    (hroom : cells.length + s.commons.pool.freeGeneral < cellsForImage (bytes ++ [v])) :
    let k := s.commons.pool.freeGeneral
    State.receiveByte p (s.claimed p bytes cells k) v =
      (s.claimed p bytes cells k).discardReception p (cells ++ s.commons.pool.free.take k)
        .noBuffer := by
  have hheld : (cells ++ s.commons.pool.free.take s.commons.pool.freeGeneral).length =
      cells.length + s.commons.pool.freeGeneral := by
    simp [Pool.freeGeneral]
  have hnone : (Commons.takeCells s.env s.commons.pool.freeGeneral s.commons).pool.free = [] := by
    rw [(Commons.takeCells_frame s.env _ s.commons).1]
    exact List.drop_length
  simp only [State.receiveByte, State.claimed_port, Config.maxFrameBytes,
    if_neg (Nat.not_le.mpr hlen), hheld, if_neg (Nat.not_le.mpr hroom), State.claimed_commons, hnone]

/-- The byte after the 1041st. -/
theorem State.receiveByte_claimed_oversize (s : State) (p : Port) (bytes : List Byte)
    (cells : List GeneralCell) (k : Nat) (v : Byte) (hlen : 1041 ≤ bytes.length) :
    State.receiveByte p (s.claimed p bytes cells k) v =
      (s.claimed p bytes cells k).discardReception p (cells ++ s.commons.pool.free.take k)
        .oversize := by
  simp only [State.receiveByte, State.claimed_port, Config.maxFrameBytes, if_pos hlen]

/-- A reception that gives up is counted and goes on discarding. -/
theorem State.discardReception_port (s : State) (p : Port) (cells : List GeneralCell)
    (why : PortCounter) :
    (s.discardReception p cells why).port p =
      { (s.port p).count why with reception := some .discarding } := by
  cases p <;> rfl

/-- A reception that gives up returns its cells, and the pool evaluates its state. -/
theorem State.discardReception_commons (s : State) (p : Port) (cells : List GeneralCell)
    (why : PortCounter) :
    (s.discardReception p cells why).commons = Commons.giveGeneral s.env cells s.commons := by
  cases p <;> rfl

/-- A reception that gives up changes its port and what the ports share alone. -/
theorem State.discardReception_frame (s : State) (p : Port) (cells : List GeneralCell)
    (why : PortCounter) :
    (s.discardReception p cells why).port (otherPort p) = s.port (otherPort p) ∧
      (s.discardReception p cells why).endpoint = s.endpoint ∧
      (s.discardReception p cells why).classifier = s.classifier ∧
      (s.discardReception p cells why).tables = s.tables := by
  cases p <;> exact ⟨rfl, rfl, rfl, rfl⟩

/-- Cells that return are free again, and the pool evaluates its state on what then is free (R133). -/
theorem Commons.giveGeneral_evaluated (v : State) (cells : List GeneralCell) (x : Commons) :
    PoolEvaluated v (x.setFree (Commons.giveGeneral v.env cells x).pool.free)
      (Commons.giveGeneral v.env cells x) := by
  rw [(Commons.giveGeneral_frame v.env cells x).1]
  exact Commons.evalPool_evaluated v _

section

variable {s : State} {p : Port} {stored : List Byte} {cells : List GeneralCell}
  (hreception : (s.port p).reception = some (.receiving stored cells))
  (hcells : cells.length = cellsForImage stored)

include hreception hcells

/-- Bytes for which there is room are stored, with the cells that their image needs. -/
theorem State.receiveBytes_stores {bytes : List Byte} (hlen : (stored ++ bytes).length ≤ 1041)
    (hroom : cellsForImage (stored ++ bytes) ≤ cells.length + s.commons.pool.freeGeneral) :
    s.receiveBytes p bytes = s.claimed p (stored ++ bytes) cells
      (cellsForImage (stored ++ bytes) - cells.length) := by
  induction bytes using List.reverseRecOn with
  | nil =>
    rw [List.append_nil, hcells, Nat.sub_self]
    simp only [State.claimed, List.take_zero, List.append_nil, ← hreception]
    cases p <;> rfl
  | append_singleton bytes v ih =>
    rw [← List.append_assoc] at hlen hroom ⊢
    have hgrow := cellsForImage_snoc (stored ++ bytes) v
    have hstart := cellsForImage_le_append stored bytes
    rw [List.length_append, List.length_singleton] at hlen
    have hbefore := ih (by omega) (by omega)
    rw [State.receiveBytes_snoc, hbefore]
    obtain ⟨k, hk⟩ : ∃ k, k = cellsForImage (stored ++ bytes) - cells.length := ⟨_, rfl⟩
    have hheld : (cells ++ s.commons.pool.free.take k).length = cellsForImage (stored ++ bytes) := by
      rw [List.length_append, List.length_take, ← Pool.freeGeneral]
      omega
    rw [← hk]
    by_cases hsame : cellsForImage (stored ++ bytes ++ [v]) = cellsForImage (stored ++ bytes)
    · rw [hsame, ← hk]
      exact s.receiveByte_claimed_stores p _ cells k v (by omega) (by omega)
    · rw [show cellsForImage (stored ++ bytes ++ [v]) - cells.length = k + 1 by omega]
      exact s.receiveByte_claimed_claims p _ cells k v (by omega) (by omega) (by omega)

/-- Bytes for whose image a cell is missing end the reception for NO_BUFFER, once it holds every cell that was
free. -/
theorem State.receiveBytes_noBuffer {bytes : List Byte} (hlen : (stored ++ bytes).length ≤ 1041)
    (hroom : cells.length + s.commons.pool.freeGeneral < cellsForImage (stored ++ bytes)) :
    ∃ held : List Byte, s.receiveBytes p bytes =
      (s.claimed p held cells s.commons.pool.freeGeneral).discardReception p
        (cells ++ s.commons.pool.free.take s.commons.pool.freeGeneral) .noBuffer := by
  induction bytes using List.reverseRecOn with
  | nil =>
    rw [List.append_nil] at hroom
    omega
  | append_singleton bytes v ih =>
    rw [← List.append_assoc] at hlen hroom
    have hgrow := cellsForImage_snoc (stored ++ bytes) v
    rw [List.length_append, List.length_singleton] at hlen
    rw [State.receiveBytes_snoc]
    by_cases hbefore : cells.length + s.commons.pool.freeGeneral < cellsForImage (stored ++ bytes)
    · obtain ⟨held, hdiscarded⟩ := ih (by omega) hbefore
      refine ⟨held, ?_⟩
      rw [hdiscarded]
      exact State.receiveBytes_discarding
        (congrArg PortUnit.reception (State.discardReception_port _ _ _ _)) [v]
    · refine ⟨stored ++ bytes, ?_⟩
      rw [State.receiveBytes_stores hreception hcells (by omega) (by omega),
        show cellsForImage (stored ++ bytes) - cells.length = s.commons.pool.freeGeneral by omega]
      exact s.receiveByte_claimed_noBuffer p _ cells v (by omega) (by omega)

/-- The 1042nd byte ends the reception for OVERSIZE, once it holds the 17 cells that 1041 bytes need. -/
theorem State.receiveBytes_oversize {bytes : List Byte} (hstored : stored.length ≤ 1041)
    (hlen : 1041 < (stored ++ bytes).length)
    (hroom : 17 ≤ cells.length + s.commons.pool.freeGeneral) :
    ∃ held : List Byte, s.receiveBytes p bytes =
      (s.claimed p held cells (17 - cells.length)).discardReception p
        (cells ++ s.commons.pool.free.take (17 - cells.length)) .oversize := by
  induction bytes using List.reverseRecOn with
  | nil =>
    rw [List.append_nil] at hlen
    omega
  | append_singleton bytes v ih =>
    rw [← List.append_assoc, List.length_append, List.length_singleton] at hlen
    rw [State.receiveBytes_snoc]
    by_cases hbefore : 1041 < (stored ++ bytes).length
    · obtain ⟨held, hdiscarded⟩ := ih hbefore
      refine ⟨held, ?_⟩
      rw [hdiscarded]
      exact State.receiveBytes_discarding
        (congrArg PortUnit.reception (State.discardReception_port _ _ _ _)) [v]
    · have hfull := cellsForImage_of_full (show (stored ++ bytes).length = 1041 by omega)
      refine ⟨stored ++ bytes, ?_⟩
      rw [State.receiveBytes_stores hreception hcells (by omega) (by omega), hfull]
      exact s.receiveByte_claimed_oversize p _ cells _ v (by omega)

end

/-! ### The part after a reception gave up (R125, R133) -/

/-- A reception that gives up after `k` claims returns every cell it held; the pool evaluates its state on what
the claims left and on what then is free. -/
theorem State.discard_claimed (s : State) (p : Port) (held : List Byte) (cells : List GeneralCell)
    {k : Nat} (hk : k ≤ s.commons.pool.freeGeneral) (why : PortCounter) :
    let t := (s.claimed p held cells k).discardReception p
      (cells ++ s.commons.pool.free.take k) why
    t.port p = { (s.port p).count why with reception := some .discarding } ∧
      t.commons.pool.free.Perm (s.commons.pool.free ++ cells) ∧
      (PoolAgrees s → ∃ x : Commons, PoolDrained s s.commons x (s.commons.pool.freeGeneral - k) ∧
        PoolEvaluated s { x with pool := { x.pool with free := t.commons.pool.free } } t.commons) ∧
      t.port (otherPort p) = s.port (otherPort p) ∧ t.commons.frames = s.commons.frames ∧
      t.endpoint = s.endpoint ∧ t.classifier = s.classifier ∧ t.tables = s.tables := by
  obtain ⟨hfree, hframes⟩ := Commons.takeCells_frame s.env k s.commons
  obtain ⟨hother, hendpoint, hclassifier, htables⟩ := s.claimed_frame p held cells k
  obtain ⟨hother', hendpoint', hclassifier', htables'⟩ :=
    (s.claimed p held cells k).discardReception_frame p (cells ++ s.commons.pool.free.take k) why
  have hcommons := (s.claimed p held cells k).discardReception_commons p
    (cells ++ s.commons.pool.free.take k) why
  rw [State.claimed_env, State.claimed_commons] at hcommons
  refine ⟨?_, ?_, fun hs => ⟨_, poolDrained_takeCells hs hk, ?_⟩, hother'.trans hother, ?_,
    hendpoint'.trans hendpoint, hclassifier'.trans hclassifier, htables'.trans htables⟩
  · rw [State.discardReception_port, State.claimed_port]
    rfl
  · rw [hcommons, (Commons.giveGeneral_frame _ _ _).1, hfree]
    have hreturned : (s.commons.pool.free.drop k ++ (cells ++ s.commons.pool.free.take k)).Perm
        (cells ++ s.commons.pool.free.take k ++ s.commons.pool.free.drop k) := List.perm_append_comm
    rw [List.append_assoc, List.take_append_drop] at hreturned
    exact hreturned.trans List.perm_append_comm
  · rw [hcommons]
    exact Commons.giveGeneral_evaluated s _ _
  · rw [hcommons, (Commons.giveGeneral_frame _ _ _).2.2.2.1, hframes]

end Sys2Proof.Machine

namespace Sys2Proof.Settled

open Sys2Proof.Machine Sys2Proof.Safety

/-- Settles O41: the cells of an image are counted from its bytes, and the arriving bytes leave the reception
storing, short of a cell, or past its 1041st byte. -/
theorem receptionStoresBytes : Obligations.ReceptionStoresBytes := by
  refine ⟨fun bytes => ⟨fun h => ?_, fun h => ?_, fun h => ?_⟩, ?_⟩
  · rw [cellsForImage_eq, imageLength, if_pos h]
  · rw [cellsForImage_eq, imageLength, if_neg (by omega)]
  · have hcells : cellsForImage bytes = (17 + rxLenField bytes + 63) / 64 := by
      rw [cellsForImage_eq, imageLength_of_intake h]
    refine ⟨hcells, fun n => ?_⟩
    show _ ↔ 64 * n < 17 + rxLenField bytes + 64 ∧ 17 + rxLenField bytes ≤ 64 * n
    omega
  intro p s stored bytes cells hreception hstored hheld all
  have hcells : cells.length = cellsForImage stored :=
    hheld.trans (Nat.max_eq_right (cellsForImage_pos stored))
  have hmore : cells.length ≤ cellsForImage all := hcells ▸ cellsForImage_le_append stored bytes
  refine ⟨fun hlen hroom => ?_, fun hlen hroom => ?_, fun hlen hroom => ?_⟩
  · obtain ⟨k, hk⟩ : ∃ k, k = cellsForImage all - cells.length := ⟨_, rfl⟩
    have hreceived : s.receiveBytes p bytes = s.claimed p all cells k :=
      hk ▸ State.receiveBytes_stores hreception hcells hlen hroom
    obtain ⟨hfree, hframes⟩ := Commons.takeCells_frame s.env k s.commons
    have hleft : (s.claimed p all cells k).commons.pool.freeGeneral =
        s.commons.pool.freeGeneral - k := by
      simp [Pool.freeGeneral, hfree]
    obtain ⟨hother, hendpoint, hclassifier, htables⟩ := s.claimed_frame p all cells k
    refine ⟨s.claimed p all cells k, s.commons.pool.free.take k, congrArg Host.Outcome.next hreceived,
      s.claimed_port p all cells k, ?_, ?_, fun hs => ?_, hother, hframes, hendpoint, hclassifier,
      htables⟩
    · rw [List.length_append, List.length_take, ← Pool.freeGeneral]
      omega
    · rw [State.claimed_commons, hfree, List.take_append_drop]
    · rw [hleft]
      exact poolDrained_takeCells hs (by omega)
  · obtain ⟨held, hreceived⟩ := State.receiveBytes_noBuffer hreception hcells hlen hroom
    obtain ⟨hport, hfree, hpool, hother, hframes, -⟩ :=
      s.discard_claimed p held cells (Nat.le_refl _) .noBuffer
    rw [Nat.sub_self] at hpool
    refine ⟨_, congrArg Host.Outcome.next hreceived, hport, hfree, hpool, hother, hframes⟩
  · obtain ⟨held, hreceived⟩ := State.receiveBytes_oversize hreception hcells hstored hlen hroom
    have h17 : cells.length ≤ 17 := hcells ▸ cellsForImage_le_of_stored hstored
    have hk : 17 - cells.length ≤ s.commons.pool.freeGeneral := by omega
    have hleft : s.commons.pool.freeGeneral - (17 - cells.length) =
        cells.length + s.commons.pool.freeGeneral - 17 := by omega
    have hdiscarded := s.discard_claimed p held cells hk .oversize
    rw [hleft] at hdiscarded
    exact ⟨_, congrArg Host.Outcome.next hreceived, hdiscarded⟩

end Sys2Proof.Settled
end

section
/-! PROOF. The management-out queues, the event queue and the punt queue: no shared operation lets one of them
outgrow its capacity (R137, R169, R178), in the order of the layers of the operations. -/

namespace Sys2Proof.Machine

theorem eq_otherPort_of_ne {p q : Port} (h : p ≠ q) : p = otherPort q := by
  revert h
  cases p <;> cases q <;> decide

namespace Commons

/-! ### The queues of the shared blocks (R137, R169, R178) -/

/-- No queue of the egress and the event unit holds more than its capacity. -/
structure QueuesFit (x : Commons) : Prop where
  mgmtOut : ∀ p, (x.mgmtOut p).length ≤ 4
  events : x.events.queue.length ≤ 16
  punts : x.events.puntQueue.length ≤ 8

/-- The management-out queues, the event queue and the punt queue. -/
def queues (x : Commons) : List Built × List Built × List EventRecord × List Nat :=
  (x.mgmtOutA, x.mgmtOutB, x.events.queue, x.events.puntQueue)

/-- Whether the queues fit depends on the queues alone. -/
theorem QueuesFit.of_queues_eq {x y : Commons} (hx : x.QueuesFit) (h : y.queues = x.queues) :
    y.QueuesFit := by
  simp only [queues, Prod.mk.injEq] at h
  obtain ⟨ha, hb, hevents, hpunts⟩ := h
  have hmgmt : ∀ p, y.mgmtOut p = x.mgmtOut p := fun p => by
    cases p
    · exact ha
    · exact hb
  exact ⟨fun p => hmgmt p ▸ hx.mgmtOut p, hevents ▸ hx.events, hpunts ▸ hx.punts⟩

/-! ### Management-out queues (R140) -/

theorem setMgmtOut_fits {x : Commons} (hx : x.QueuesFit) (p : Port) {q : List Built}
    (hq : q.length ≤ 4) : (x.setMgmtOut p q).QueuesFit := by
  refine ⟨fun r => ?_, by simpa using hx.events, by simpa using hx.punts⟩
  by_cases h : r = p
  · simpa [h] using hq
  · simpa [eq_otherPort_of_ne h] using hx.mgmtOut (otherPort p)

theorem pushMgmtOut_fits {x : Commons} (hx : x.QueuesFit) {b : Built} (h : x.hasRoom b.port = true) :
    (x.pushMgmtOut b).QueuesFit := by
  have hroom : (x.mgmtOut b.port).length < 4 := of_decide_eq_true h
  exact setMgmtOut_fits hx b.port (by simpa using hroom)

theorem admitResponse_fits {x : Commons} (hx : x.QueuesFit) {b : Built}
    (h : x.hasRoom b.port = true) : (x.admitResponse b).QueuesFit :=
  (pushMgmtOut_fits hx h).of_queues_eq rfl

theorem admitEvent_fits {x : Commons} (hx : x.QueuesFit) (w : Awaiting) {b : Built}
    (h : x.hasRoom b.port = true) : (x.admitEvent w b).QueuesFit :=
  (pushMgmtOut_fits hx h).of_queues_eq rfl

theorem admitPunt_fits {x : Commons} (hx : x.QueuesFit) {b : Built}
    (h : x.hasRoom b.port = true) : (x.admitPunt b).QueuesFit :=
  (pushMgmtOut_fits hx h).of_queues_eq rfl

theorem offerResponse_fits (e : Env) (b : Built) {x : Commons} (hx : x.QueuesFit) :
    (offerResponse e b x).QueuesFit := by
  unfold offerResponse
  split
  · split
    · rename_i hroom
      exact admitResponse_fits hx hroom
    · exact hx.of_queues_eq rfl
  · exact hx.of_queues_eq rfl

theorem offerEvent_fits (e : Env) (w : Awaiting) (b : Built) {x : Commons} (hx : x.QueuesFit) :
    (offerEvent e w b x).QueuesFit := by
  unfold offerEvent
  split
  · split
    · rename_i hjoins
      exact admitEvent_fits hx w (Bool.and_eq_true_iff.mp hjoins).1
    · exact hx.of_queues_eq rfl
  · exact hx.of_queues_eq rfl

theorem offerPunt_fits (e : Env) (b : Built) {x : Commons} (hx : x.QueuesFit) :
    (offerPunt e b x).QueuesFit := by
  unfold offerPunt
  split
  · split
    · rename_i hjoins
      simp only [Bool.and_eq_true] at hjoins
      obtain ⟨⟨hroom, -⟩, -⟩ := hjoins
      exact admitPunt_fits hx hroom
    · exact hx.of_queues_eq rfl
  · exact hx.of_queues_eq rfl

/-! ### Grants, sends and posts (R131, R169, R172) -/

theorem grantResponse_fits (e : Env) {x : Commons} (hx : x.QueuesFit) :
    (grantResponse e x).QueuesFit := by
  unfold grantResponse
  split
  · split
    · exact offerResponse_fits e _ (hx.of_queues_eq rfl)
    · exact hx
  · exact hx

theorem grantEvent_fits (e : Env) {x : Commons} (hx : x.QueuesFit) : (grantEvent e x).QueuesFit := by
  unfold grantEvent
  split
  · split
    · dsimp only
      split
      · exact offerEvent_fits e _ _ (hx.of_queues_eq rfl)
      · exact hx
    · exact hx
  · exact hx

theorem claimEvent_fits (e : Env) {x : Commons} (hx : x.QueuesFit) : (claimEvent e x).QueuesFit := by
  unfold claimEvent
  split
  · exact hx
  · exact grantEvent_fits e hx

theorem trySend_fits (e : Env) {x : Commons} (hx : x.QueuesFit) : (trySend e x).QueuesFit := by
  unfold trySend
  split
  · split
    · exact claimEvent_fits e (hx.of_queues_eq rfl)
    · exact hx
  · exact hx

/-- A record joins the event queue only below its 16 records; at 16 it is lost (R169). -/
theorem accept_fits (e : Env) (k : EventKind) {x : Commons} (hx : x.QueuesFit) :
    (accept e k x).QueuesFit := by
  unfold accept
  split
  · rename_i hroom
    refine ⟨hx.mgmtOut, ?_, hx.punts⟩
    simp only [Config.eventDepth] at hroom
    simp only [List.length_append, List.length_singleton]
    omega
  · exact hx.of_queues_eq rfl

theorem acceptAll_fits (e : Env) (ks : List EventKind) {x : Commons} (hx : x.QueuesFit) :
    (ks.foldl (fun y k => accept e k y) x).QueuesFit := by
  induction ks generalizing x with
  | nil => exact hx
  | cons k ks ih => exact ih (accept_fits e k hx)

theorem post_fits (e : Env) (k : EventKind) {x : Commons} (hx : x.QueuesFit) :
    (post e k x).QueuesFit :=
  trySend_fits e (accept_fits e k hx)

/-! ### The pool and the holders (R132, R133) -/

theorem evalPool_fits (e : Env) {x : Commons} (hx : x.QueuesFit) : (evalPool e x).QueuesFit := by
  unfold evalPool
  split
  · split
    · exact post_fits e _ (hx.of_queues_eq rfl)
    · exact hx
  · split
    · exact post_fits e _ (hx.of_queues_eq rfl)
    · exact hx

theorem giveGeneral_fits (e : Env) (cells : List GeneralCell) {x : Commons} (hx : x.QueuesFit) :
    (giveGeneral e cells x).QueuesFit :=
  evalPool_fits e (hx.of_queues_eq rfl)

theorem takeGeneral_fits (e : Env) {x : Commons} (hx : x.QueuesFit) : (takeGeneral e x).QueuesFit :=
  evalPool_fits e (hx.of_queues_eq rfl)

theorem release_fits (e : Env) (id : Nat) {x : Commons} (hx : x.QueuesFit) :
    (release e id x).QueuesFit := by
  unfold release
  split
  · exact hx.of_queues_eq rfl
  · exact giveGeneral_fits e _ (hx.of_queues_eq rfl)

/-! ### The punt side and the arbiter (R131, R179) -/

/-- A granted punt claim takes the head entry from the punt queue, and its report joins a queue with room. -/
theorem grantPunt_fits (e : Env) {x : Commons} (hx : x.QueuesFit) : (grantPunt e x).QueuesFit := by
  unfold grantPunt
  split
  · rename_i l id rest _ _ hqueue
    have hrest : rest.length ≤ 8 := by
      have hpunts := hx.punts
      rw [hqueue, List.length_cons] at hpunts
      omega
    split
    · dsimp only
      split
      · exact offerPunt_fits e _ (release_fits e id ⟨hx.mgmtOut, hx.events, hrest⟩)
      · exact hx
    · exact hx
  · exact hx

theorem arbiter_fits (e : Env) {x : Commons} (hx : x.QueuesFit) : (arbiter e x).QueuesFit := by
  have hresponse := grantResponse_fits e hx
  have hevent := grantEvent_fits e hresponse
  unfold arbiter
  dsimp only
  split
  · exact hresponse
  · split
    · exact hevent
    · exact grantPunt_fits e hevent

theorem releaseReserve_fits (e : Env) (n : Nat) {x : Commons} (hx : x.QueuesFit) :
    (releaseReserve e n x).QueuesFit :=
  arbiter_fits e (hx.of_queues_eq rfl)

theorem claimPunt_fits (e : Env) {x : Commons} (hx : x.QueuesFit) : (claimPunt e x).QueuesFit := by
  unfold claimPunt
  split
  · exact hx
  · exact grantPunt_fits e hx

/-! ### Waiting offers (R140) -/

theorem admitWaitingResponse_fits (e : Env) (p : Port) {x : Commons} (hx : x.QueuesFit) :
    (admitWaitingResponse e p x).QueuesFit := by
  unfold admitWaitingResponse
  split
  · split
    · rename_i h
      obtain ⟨rfl, -, hroom⟩ := h
      exact admitResponse_fits hx hroom
    · exact hx
  · exact hx

theorem admitWaitingEvent_fits (e : Env) (p : Port) {x : Commons} (hx : x.QueuesFit) :
    (admitWaitingEvent e p x).QueuesFit := by
  unfold admitWaitingEvent
  split
  · split
    · split
      · rename_i h
        obtain ⟨rfl, -, hroom, -⟩ := h
        exact admitEvent_fits hx _ hroom
      · exact hx
    · exact hx
  · exact hx

theorem admitWaitingPunt_fits (e : Env) (p : Port) {x : Commons} (hx : x.QueuesFit) :
    (admitWaitingPunt e p x).QueuesFit := by
  unfold admitWaitingPunt
  split
  · split
    · rename_i h
      obtain ⟨rfl, -, hroom, -⟩ := h
      exact admitPunt_fits hx hroom
    · exact hx
  · exact hx

theorem admitOffers_fits (e : Env) (p : Port) {x : Commons} (hx : x.QueuesFit) :
    (admitOffers e p x).QueuesFit :=
  admitWaitingPunt_fits e p (admitWaitingEvent_fits e p (admitWaitingResponse_fits e p hx))

/-! ### Withdrawals and fates (R143, R173 to R176, R179) -/

@[simp] theorem withdrawEvent_queues (x : Commons) : x.withdrawEvent.queues = x.queues := by
  simp [queues]

@[simp] theorem withdrawPunt_queues (x : Commons) : x.withdrawPunt.queues = x.queues := by
  simp [queues]

@[simp] theorem loseResponse_queues (x : Commons) (b : Built) :
    (x.loseResponse b).queues = x.queues := rfl

@[simp] theorem giveReserve_queues (x : Commons) (n : Nat) : (x.giveReserve n).queues = x.queues := rfl

@[simp] theorem reportFate_queues (fate : Fate) (b : Built) (x : Commons) :
    (reportFate fate b x).queues = x.queues := by
  simp [queues]

theorem withdrawClaimsFor_queues (p : Port) (x : Commons) :
    (withdrawClaimsFor p x).queues = x.queues := by
  unfold withdrawClaimsFor
  dsimp only
  repeat' split
  all_goals simp

theorem refuseOffersAt_queues (p : Port) (x : Commons) : (refuseOffersAt p x).queues = x.queues := by
  unfold refuseOffersAt
  dsimp only
  repeat' split
  all_goals simp

theorem holdHead_queues (p : Port) (x : Commons) : (holdHead p x).queues = x.queues := by
  unfold holdHead
  split
  · split <;> rfl
  · rfl

theorem resend_fits (e : Env) (retry : Nat) {x : Commons} (hx : x.QueuesFit) :
    (resend e retry x).QueuesFit := by
  have hwithdrawn : x.withdrawEvent.QueuesFit := hx.of_queues_eq (by simp)
  unfold resend
  dsimp only
  split
  · split
    · exact claimEvent_fits e (hwithdrawn.of_queues_eq rfl)
    · exact hwithdrawn.of_queues_eq rfl
  · exact hwithdrawn

theorem resumeSender_fits (e : Env) (p : Port) {x : Commons} (hx : x.QueuesFit) :
    (resumeSender e p x).QueuesFit := by
  unfold resumeSender
  split
  · split
    · exact resend_fits e 0 hx
    · exact hx
  · exact trySend_fits e hx

/-! ### The event unit (R173 to R179) -/

theorem judgeRest_fits (e : Env) {x : Commons} (hx : x.QueuesFit) : (judgeRest e x).QueuesFit :=
  admitOffers_fits e .b (admitOffers_fits e .a (arbiter_fits e hx))

theorem dropHead_fits {x : Commons} (hx : x.QueuesFit) : x.dropHead.QueuesFit := by
  refine ⟨hx.mgmtOut, ?_, hx.punts⟩
  have hevents := hx.events
  simp only [dropHead, List.length_tail]
  omega

theorem ackEvent_fits (e : Env) (seq : Word16) {x y : Commons} (hx : x.QueuesFit)
    (h : ackEvent e seq x = some y) : y.QueuesFit := by
  have hdropped : x.withdrawEvent.dropHead.QueuesFit := dropHead_fits (hx.of_queues_eq (by simp))
  unfold ackEvent at h
  split at h
  · simp only [Option.ite_none_right_eq_some, Option.some.injEq] at h
    exact h.2 ▸ trySend_fits e (judgeRest_fits e (hdropped.of_queues_eq rfl))
  · cases h

theorem sendToNew_fits (e : Env) {x : Commons} (hx : x.QueuesFit) : (sendToNew e x).QueuesFit := by
  unfold sendToNew
  split
  · exact resend_fits e 0 hx
  · exact trySend_fits e hx

theorem replaceListener_fits (e : Env) (l : Listener) {x : Commons} (hx : x.QueuesFit) :
    (replaceListener e l x).QueuesFit := by
  have hwithdrawn : x.withdrawEvent.withdrawPunt.QueuesFit := hx.of_queues_eq (by simp)
  exact sendToNew_fits e (judgeRest_fits e (hwithdrawn.of_queues_eq rfl))

theorem clearListener_fits (e : Env) {x : Commons} (hx : x.QueuesFit) :
    (clearListener e x).QueuesFit := by
  have hwithdrawn : x.withdrawEvent.withdrawPunt.QueuesFit := hx.of_queues_eq (by simp)
  exact judgeRest_fits e (hwithdrawn.of_queues_eq rfl)

theorem retryExpiry_fits (e : Env) {x : Commons} (hx : x.QueuesFit) :
    (retryExpiry e x).QueuesFit := by
  unfold retryExpiry
  split
  · split
    · split
      · exact resend_fits e _ hx
      · exact trySend_fits e ((dropHead_fits hx).of_queues_eq rfl)
    · exact hx
  · exact hx

theorem puntTake_fits (e : Env) {x : Commons} (hx : x.QueuesFit) : (puntTake e x).QueuesFit := by
  unfold puntTake
  split
  · split
    · exact claimPunt_fits e (hx.of_queues_eq rfl)
    · exact hx
  · exact hx

end Commons

end Sys2Proof.Machine
end

section
/-! PROOF. Queues and the classifier mode: every command but a swap, a FAIL verdict and a reset keeps the mode,
the commands that wait and every queue within its capacity (R28, R31, R127, R137, R169, R178). -/

namespace Sys2Proof.Machine

open Sys2Proof.Safety

/-! ### What a happening keeps (R31; log 3) -/

/-- The commands that wait, the classifier mode and the queues of names. -/
def State.front (s : State) : List Instr × Mode × List Nat × List Nat × List Nat :=
  (s.pending, s.classifier.mode, s.classifier.ingressA, s.classifier.ingressB, s.endpoint.commands)

/-- From `s` to `t` the commands that wait and the classifier mode stay, and no queue outgrows its
capacity. -/
structure Steady (s t : State) : Prop where
  pending : t.pending = s.pending
  mode : t.classifier.mode = s.classifier.mode
  bounded : QueuesBounded s → QueuesBounded t

/-- The part is bounded where its queues of names are and the shared blocks fit. -/
theorem queuesBounded_iff (s : State) :
    QueuesBounded s ↔ (∀ p, (s.classifier.ingress p).length ≤ 8) ∧ s.endpoint.commands.length ≤ 4 ∧
      s.commons.QueuesFit := by
  constructor
  · rintro ⟨ha, hb, hcommands, houtA, houtB, hevents, hpunts⟩
    refine ⟨fun p => ?_, hcommands, fun p => ?_, hevents, hpunts⟩
    · cases p
      · exact ha
      · exact hb
    · cases p
      · exact houtA
      · exact houtB
  · rintro ⟨hingress, hcommands, hout, hevents, hpunts⟩
    exact ⟨hingress .a, hingress .b, hcommands, hout .a, hout .b, hevents, hpunts⟩

namespace Steady

theorem refl (s : State) : Steady s s := ⟨rfl, rfl, id⟩

theorem trans {s t u : State} (h : Steady s t) (k : Steady t u) : Steady s u :=
  ⟨k.pending.trans h.pending, k.mode.trans h.mode, k.bounded ∘ h.bounded⟩

/-- Where the front stays and the shared blocks fit as before, nothing outgrows its capacity. -/
theorem of_front {s t : State} (hfront : t.front = s.front)
    (hcommons : s.commons.QueuesFit → t.commons.QueuesFit) : Steady s t := by
  simp only [State.front, Prod.mk.injEq] at hfront
  obtain ⟨hpending, hmode, ha, hb, hcommands⟩ := hfront
  have hingress : ∀ p, t.classifier.ingress p = s.classifier.ingress p := fun p => by
    cases p
    · exact ha
    · exact hb
  refine ⟨hpending, hmode, ?_⟩
  rw [queuesBounded_iff, queuesBounded_iff, hcommands]
  exact fun ⟨hs, hcs, hfit⟩ => ⟨fun p => hingress p ▸ hs p, hcs, hcommons hfit⟩

variable {s t : State}

theorem onCommons (h : Steady s t) {g : Env → Commons → Commons}
    (hg : ∀ e x, Commons.QueuesFit x → (g e x).QueuesFit) : Steady s (t.onCommons g) :=
  h.trans (of_front rfl (hg _ _))

theorem setPort (h : Steady s t) (p : Port) (u : PortUnit) : Steady s (t.setPort p u) :=
  h.trans (of_front (by simp [State.front]) (by simp))

theorem count (h : Steady s t) (p : Port) (k : PortCounter) : Steady s (t.count p k) :=
  h.setPort p _

theorem post (h : Steady s t) (k : EventKind) : Steady s (t.post k) :=
  h.onCommons fun e _ => Commons.post_fits e k

theorem release (h : Steady s t) (id : Nat) : Steady s (t.release id) :=
  h.onCommons fun e _ => Commons.release_fits e id

theorem giveGeneral (h : Steady s t) (cells : List GeneralCell) :
    Steady s (t.onCommons fun e => Commons.giveGeneral e cells) :=
  h.onCommons fun e _ => Commons.giveGeneral_fits e cells

theorem withSession (h : Steady s t) (f : Session → Session) : Steady s (t.withSession f) :=
  h.trans (of_front rfl id)

theorem restartIdle (h : Steady s t) : Steady s t.restartIdle := h.withSession _

/-- What every step of a fold keeps the fold keeps. -/
theorem foldl (h : Steady s t) {α : Type} {f : State → α → State} (hf : ∀ u a, Steady u (f u a))
    (l : List α) : Steady s (l.foldl f t) := by
  induction l generalizing t with
  | nil => exact h
  | cons a l ih => exact ih (h.trans (hf t a))

/-- A queue of names that stays within its 8 records (R28). -/
theorem setIngress (h : Steady s t) (p : Port) {q : List Nat}
    (hq : (t.classifier.ingress p).length ≤ 8 → q.length ≤ 8) :
    Steady s { t with classifier := t.classifier.setIngress p q } := by
  refine h.trans ⟨rfl, t.classifier.setIngress_mode p q, ?_⟩
  rw [queuesBounded_iff, queuesBounded_iff]
  rintro ⟨hingress, hrest⟩
  refine ⟨fun r => ?_, hrest⟩
  by_cases hr : r = p
  · subst hr
    simpa using hq (hingress r)
  · simpa [eq_otherPort_of_ne hr] using hingress (otherPort p)

/-- A command queue that stays within its 4 frames (R127). -/
theorem setCommands (h : Steady s t) {q : List Nat}
    (hq : t.endpoint.commands.length ≤ 4 → q.length ≤ 4) :
    Steady s { t with endpoint := { t.endpoint with commands := q } } := by
  refine h.trans ⟨rfl, rfl, ?_⟩
  rw [queuesBounded_iff, queuesBounded_iff]
  exact fun ⟨hingress, hcommands, hfit⟩ => ⟨hingress, hq hcommands, hfit⟩

end Steady

/-- The prefilter, the meters, the tables and the verify unit hold no queue. -/
theorem State.update_steady (s : State) (pf : PfCounters) (ms : Vector Meter 64) (tables : Controller)
    (v : Verify) : Steady s { s with prefilter := pf, meters := ms, tables := tables, verify := v } :=
  .of_front rfl id

/-- Hit counters are no queue. -/
theorem State.setCurrent_steady (s : State) (hits : Vector HitCounter 512) :
    Steady s { s with classifier := { s.classifier with current := hits } } :=
  .of_front rfl id

/-- The session, its number and the timers are no queue. -/
theorem State.setEndpoint_steady (s : State) (address : Word16) (uptime : Word32)
    (session : Option Session) (number : Byte) (timeout : Nat) :
    Steady s { s with endpoint :=
      { s.endpoint with
        nodeAddress := address, uptime := uptime, session := session, lastNumber := number
        sessionTimeout := timeout } } :=
  .of_front rfl id

/-! ### Ports (R121 to R123) -/

theorem State.endSession_steady (s : State) (reason : EndReason) : Steady s (s.endSession reason) := by
  unfold State.endSession
  split
  · exact (s.setEndpoint_steady _ _ _ _ _).post _
  · exact .refl s

theorem State.endReceptionForLink_steady (s : State) (p : Port) :
    Steady s (s.endReceptionForLink p) := by
  unfold State.endReceptionForLink
  split
  · exact (((Steady.refl s).setPort p _).count p _).giveGeneral _
  · exact (Steady.refl s).setPort p _
  · exact .refl s

/-- The egress tells a builder the fate of its frame and returns the cells of that frame (R143). -/
theorem Commons.settleBuilt_fits (fate : Fate) (b : Built) {x : Commons} (hx : x.QueuesFit) :
    ((x.reportFate fate b).giveReserve b.cells).QueuesFit :=
  hx.of_queues_eq (by simp)

theorem State.abortForLink_steady (s : State) (p : Port) : Steady s (s.abortForLink p) := by
  unfold State.abortForLink
  split
  · have hidle := ((Steady.refl s).setPort p { s.port p with tx := none }).count p .txAbort
    dsimp only
    split
    · exact hidle.release _
    · exact hidle.onCommons fun _ _ => Commons.settleBuilt_fits .aborted _
  · exact .refl s

theorem State.flushCopy_steady (p : Port) (s : State) (c : Copy) :
    Steady s (State.flushCopy p s c) :=
  ((Steady.refl s).count p _).release c.frame

theorem State.flushBuilt_steady (p : Port) (s : State) (b : Built) :
    Steady s (State.flushBuilt p s b) :=
  ((Steady.refl s).count p _).onCommons fun _ _ => Commons.settleBuilt_fits .flushed b

theorem State.flushQueue_steady (p : Port) (s : State) (c : Fin 4) :
    Steady s (State.flushQueue p s c) :=
  ((Steady.refl s).setPort p _).foldl (State.flushCopy_steady p) _

theorem State.flushForLink_steady (s : State) (p : Port) : Steady s (s.flushForLink p) := by
  have hclasses := (Steady.refl s).foldl (State.flushQueue_steady p) [0, 1, 2, 3]
  have hemptied := hclasses.onCommons (g := fun _ x => x.setMgmtOut p [])
    fun _ _ hx => Commons.setMgmtOut_fits hx p (Nat.zero_le 4)
  exact hemptied.foldl (State.flushBuilt_steady p) _

theorem State.endSessionForLink_steady (s : State) (p : Port) : Steady s (s.endSessionForLink p) := by
  unfold State.endSessionForLink
  split
  · split
    · exact s.endSession_steady .link
    · exact .refl s
  · exact .refl s

theorem State.leaveUp_steady (s : State) (p : Port) (o : OperState) : Steady s (s.leaveUp p o) := by
  have hwithdrawn := (Steady.refl s).onCommons (g := fun _ => Commons.withdrawClaimsFor p)
    fun _ x hx => hx.of_queues_eq (Commons.withdrawClaimsFor_queues p x)
  have hflushed := ((hwithdrawn.trans (State.endReceptionForLink_steady _ p)).trans
    (State.abortForLink_steady _ p)).trans (State.flushForLink_steady _ p)
  have hrefused := hflushed.onCommons (g := fun e x => Commons.arbiter e (Commons.refuseOffersAt p x))
    fun e x hx => Commons.arbiter_fits e (hx.of_queues_eq (Commons.refuseOffersAt_queues p x))
  exact ((hrefused.post _).trans (State.endSessionForLink_steady _ p)).onCommons
    fun _ x hx => hx.of_queues_eq (Commons.holdHead_queues p x)

theorem State.enterUp_steady (s : State) (p : Port) : Steady s (s.enterUp p) := by
  unfold State.enterUp
  refine Steady.onCommons (Steady.post (.refl s) _) fun e x hx => ?_
  split
  · exact Commons.trySend_fits e hx
  · exact Commons.resumeSender_fits e p hx

theorem State.changePort_steady (s : State) (p : Port) (u : PortUnit) :
    Steady s (s.changePort p u) := by
  have hset := (Steady.refl s).setPort p u
  unfold State.changePort
  dsimp only
  split
  · exact hset.trans (State.leaveUp_steady _ p _)
  · split
    · exact hset.trans (State.enterUp_steady _ p)
    · exact hset

/-! ### Reception (R124 to R127) -/

theorem State.discardReception_steady (s : State) (p : Port) (cells : List GeneralCell)
    (k : PortCounter) : Steady s (s.discardReception p cells k) :=
  (((Steady.refl s).setPort p _).count p k).giveGeneral cells

theorem State.startReception_steady (s : State) (p : Port) : Steady s (s.startReception p) := by
  unfold State.startReception
  split
  · exact .refl s
  · split
    · split
      · exact s.discardReception_steady p _ _
      · exact ((Steady.refl s).setPort p _).onCommons fun e _ => Commons.takeGeneral_fits e
    · exact .refl s

theorem State.receiveByte_steady (p : Port) (s : State) (v : Byte) :
    Steady s (State.receiveByte p s v) := by
  unfold State.receiveByte
  split
  · split
    · exact s.discardReception_steady p _ _
    · split
      · exact (Steady.refl s).setPort p _
      · split
        · exact s.discardReception_steady p _ _
        · exact ((Steady.refl s).setPort p _).onCommons fun e _ => Commons.takeGeneral_fits e
  · exact .refl s

theorem State.receiveBytes_steady (s : State) (p : Port) (bytes : List Byte) :
    Steady s (s.receiveBytes p bytes) :=
  (Steady.refl s).foldl (State.receiveByte_steady p) bytes

theorem State.abortReception_steady (s : State) (p : Port) : Steady s (s.abortReception p) := by
  unfold State.abortReception
  split
  · exact (((Steady.refl s).setPort p _).count p _).giveGeneral _
  · exact (Steady.refl s).setPort p _
  · exact .refl s

/-- A frame joins the command queue only below its 4 frames (R127). -/
theorem State.offerCommand_steady (s : State) (id : Nat) : Steady s (s.offerCommand id) := by
  unfold State.offerCommand
  split
  · rename_i hroom
    exact (Steady.refl s).setCommands fun _ => by simpa [Config.commandDepth] using hroom
  · refine Steady.release ?_ id
    exact .of_front rfl (·.of_queues_eq rfl)

/-- A record joins an ingress queue only below its 8 records (R28). -/
theorem State.offerIngress_steady (s : State) (p : Port) (id : Nat) :
    Steady s (s.offerIngress p id) := by
  unfold State.offerIngress
  split
  · rename_i hroom
    exact (Steady.refl s).setIngress p fun _ => by simpa [Config.ingressDepth] using hroom
  · exact ((Steady.refl s).count p _).release id

theorem State.routeGood_steady (s : State) (p : Port) (bytes : List Byte) (cells : List GeneralCell) :
    Steady s (s.routeGood p bytes cells) := by
  have hcounted := (Steady.of_front (s := s)
    (t := { s with commons := (Commons.store bytes (makeRecord p bytes cells) s.commons).1 })
    rfl (·.of_queues_eq rfl)).count p .receivedGood
  unfold State.routeGood
  dsimp only
  split
  · exact hcounted.trans (State.offerCommand_steady _ _)
  · exact hcounted.trans (State.offerIngress_steady _ p _)

theorem State.endReception_steady (s : State) (p : Port) : Steady s (s.endReception p) := by
  have hended := (Steady.refl s).setPort p { s.port p with reception := none }
  unfold State.endReception
  split
  · dsimp only
    split
    · exact (hended.count p _).giveGeneral _
    · exact hended.trans (State.routeGood_steady _ p _ _)
  · exact hended
  · exact .refl s

/-! ### Restarts (R149, R165) -/

/-- `t` is the part right after a reset, with the commands that wait in `s`. -/
def ResetFrom (s t : State) : Prop :=
  ∃ (straps : Straps) (a b : LinkState) (cause : RestartCause),
    t = { State.afterReset straps a b cause with pending := s.pending }

/-- A LIGHT restart empties every queue but the event queue, which its events join (R177). -/
theorem State.lightRestart_steady (s : State) : Steady s s.lightRestart := by
  refine ⟨rfl, rfl, ?_⟩
  rw [queuesBounded_iff, queuesBounded_iff]
  rintro ⟨-, -, hfit⟩
  have hblocks : s.lightBlocks.commons.QueuesFit :=
    ⟨fun p => by cases p <;> exact Nat.zero_le 4, hfit.events, Nat.zero_le 8⟩
  exact ⟨fun p => by cases p <;> exact Nat.zero_le 8, Nat.zero_le 4,
    Commons.trySend_fits _ (Commons.acceptAll_fits _ _ hblocks)⟩

/-- A happening keeps the mode and the queues, or ends in a reset. -/
def Becomes (s t : State) : Prop := Steady s t ∨ ResetFrom s t

theorem State.fullRestart_becomes {s t : State} (h : Steady s t) (straps : Straps) :
    ResetFrom s (t.fullRestart straps) :=
  ⟨straps, t.portA.link, t.portB.link, .full, by rw [← h.pending]; rfl⟩

theorem State.settleRestart_becomes {s t : State} (h : Steady s t) (straps : Straps) :
    Becomes s (t.settleRestart straps) := by
  unfold State.settleRestart
  split
  · exact .inl (h.trans t.lightRestart_steady)
  · exact .inr (State.fullRestart_becomes h straps)
  · exact .inl h

/-! ### Egress (R141 to R144) -/

theorem State.startBuilt_steady (s : State) {p : Port} {b : Built} {rest : List Built}
    (h : s.commons.mgmtOut p = b :: rest) : Steady s (s.startBuilt p b rest) := by
  unfold State.startBuilt
  refine ((Steady.refl s).setPort p _).trans (.of_front rfl fun hfit => ?_)
  rw [State.setPort_commons] at hfit
  have hrest : rest.length ≤ 4 := by
    have hout := hfit.mgmtOut p
    rw [h, List.length_cons] at hout
    omega
  rw [State.onCommons_commons, State.setPort_commons]
  exact Commons.admitOffers_fits _ p (Commons.setMgmtOut_fits hfit p hrest)

theorem State.startCopy_steady (s : State) (p : Port) (c : Fin 4) : Steady s (s.startCopy p c) := by
  unfold State.startCopy
  dsimp only
  split
  · exact .refl s
  · split
    · exact (Steady.refl s).setPort p _
    · exact .refl s

theorem State.startTransmission_steady (s : State) (p : Port) :
    Steady s (s.startTransmission p) := by
  unfold State.startTransmission
  split
  · split
    · rename_i hqueue
      exact s.startBuilt_steady hqueue
    · split
      · exact s.startCopy_steady p _
      · exact .refl s
  · exact .refl s

theorem State.endTransmission_steady (s : State) (p : Port) : Steady s (s.endTransmission p) := by
  unfold State.endTransmission
  split
  · exact .refl s
  · have hidle := (Steady.refl s).setPort p { s.port p with tx := none }
    dsimp only
    split
    · exact (hidle.count p _).release _
    · exact (hidle.count p _).onCommons fun e x hx =>
        Commons.releaseReserve_fits e _ (hx.of_queues_eq (by simp))

/-! ### Classification (R29, R34, R60 to R66) -/

theorem State.offerCopy_steady (id cells : Nat) (s : State) (o : CopyOffer) :
    Steady s (State.offerCopy id cells s o) := by
  unfold State.offerCopy
  dsimp only
  split
  · exact ((Steady.refl s).setPort o.port _).onCommons fun _ _ hx => hx.of_queues_eq rfl
  · exact (Steady.refl s).count o.port _

/-- An entry joins the punt queue only below its 8 entries (R178). -/
theorem State.offerPuntEntry_steady (id : Nat) (q : Port) (s : State) :
    Steady s (State.offerPuntEntry id q s) := by
  unfold State.offerPuntEntry
  split
  · exact (Steady.refl s).count q _
  · split
    · rename_i hroom
      refine .of_front rfl fun hfit => ⟨hfit.mgmtOut, hfit.events, ?_⟩
      have hjoined : (s.commons.events.puntQueue ++ [id]).length ≤ 8 := by
        simpa [Config.puntDepth] using hroom
      exact hjoined
    · exact (Steady.refl s).count q _

theorem State.countDrop_steady (p : Port) (s : State) (why : DropReason) :
    Steady s (State.countDrop p s why) := by
  cases why with
  | ruleDrop c => exact ((Steady.refl s).count p _).count p _
  | _ => exact (Steady.refl s).count p _

theorem State.dispose_steady (s : State) (id cells : Nat) (r : FrameRecord) :
    Steady s (s.dispose id cells r) := by
  have hoffered : ∀ u, Steady s u → Steady s
      ((copiesOf r.disp.final).foldl (State.offerCopy id cells) u) :=
    fun u hu => hu.foldl (State.offerCopy_steady id cells) _
  unfold State.dispose
  refine Steady.release ?_ id
  have hrecorded := (Steady.refl s).onCommons
    (g := fun _ => Commons.updateFrame id fun f => f.classified (r.setDisp r.disp.final))
    fun _ _ hx => hx.of_queues_eq rfl
  have hcounted : ∀ why, Steady s (State.countDrop r.ingress _ why) :=
    fun why => hrecorded.trans (State.countDrop_steady _ _ why)
  cases r.disp.final.drop <;> cases r.disp.final.punt
  · exact hoffered _ hrecorded
  · exact (hoffered _ hrecorded).trans (State.offerPuntEntry_steady id _ _)
  · exact hoffered _ (hcounted _)
  · exact (hoffered _ (hcounted _)).trans (State.offerPuntEntry_steady id _ _)

theorem State.classifyNormal_steady (s : State) (f : RxFrame) (r : FrameRecord) :
    Steady s (s.classifyNormal f r) := by
  by_cases h : prefilterDrops s.tables.activeBank r
  · rw [State.classifyNormal_dropped f h]
    exact (s.update_steady _ _ _ _).trans (State.dispose_steady _ _ _ _)
  · cases hn : lookup s.tables.activeBank (screenRecord s.tables.activeBank r) with
    | some n =>
      rw [State.classifyNormal_match f h hn]
      have hcounted := s.setCurrent_steady (countHit s.classifier.current n r.rxLen)
      exact (hcounted.trans (State.update_steady _ _ _ _ _)).trans (State.dispose_steady _ _ _ _)
    | none =>
      rw [State.classifyNormal_noMatch f h hn]
      exact (((s.update_steady _ _ _ _).count _ _).trans (State.update_steady _ _ _ _ _)).trans
        (State.dispose_steady _ _ _ _)

theorem State.classifyFrame_steady (s : State) (f : RxFrame) : Steady s (s.classifyFrame f) := by
  unfold State.classifyFrame
  dsimp only
  split
  · exact s.classifyNormal_steady f _
  · exact s.dispose_steady _ _ _

theorem State.taken_steady (s : State) {p : Port} {head : Nat} {rest : List Nat}
    (h : s.classifier.ingress p = head :: rest) : Steady s (s.taken p rest) := by
  have hpopped := (Steady.refl s).setIngress p (q := rest) fun hlen => by
    rw [h, List.length_cons] at hlen
    omega
  exact hpopped.trans (.of_front rfl id)

theorem State.classify_steady (s : State) : Steady s s.classify := by
  unfold State.classify
  split
  · exact .refl s
  · split
    · exact .refl s
    · rename_i hqueue
      dsimp only
      split
      · exact (s.taken_steady hqueue).trans (State.classifyFrame_steady _ _)
      · exact s.taken_steady hqueue

/-! ### Commands at the endpoint (R152 to R165) -/

/-- A command's run keeps the mode, the commands that wait and the queues' capacities. -/
def Run.Steady (run : Run) : Prop := ∀ (c : Command) (s : State), Machine.Steady s (run c s).1

theorem State.takeHead_steady (s : State) : Steady s s.takeHead := by
  unfold State.takeHead
  split
  · rename_i head rest hqueue
    refine Steady.release ((Steady.refl s).setCommands fun hlen => ?_) head
    rw [hqueue, List.length_cons] at hlen
    omega
  · exact .refl s

theorem State.respond_steady (s : State) (c : Command) (r : Reply) : Steady s (s.respond c r) :=
  .of_front rfl fun hfit => Commons.arbiter_fits s.env (hfit.of_queues_eq rfl)

theorem State.recordOwner_steady (s : State) (c : Command) (r : Reply) :
    Steady s (s.recordOwner c r) :=
  (Steady.refl s).restartIdle.withSession _

theorem State.judge_steady {run : Run} (hrun : Run.Steady run) (s : State)
    (perm : Command → Permission) (c : Command) : Steady s (s.judge perm run c) := by
  have hperm : Steady s (s.runPermitted (perm c) run c).1 := by
    unfold State.runPermitted
    split
    · exact .refl s
    · exact hrun c s
  unfold State.judge
  split
  · exact s.respond_steady c _
  · split
    · exact (Steady.refl s).restartIdle.trans (State.respond_steady _ c _)
    · refine Steady.trans ?_ (State.respond_steady _ c _)
      split
      · exact hperm.trans (State.recordOwner_steady _ c _)
      · exact hperm

theorem State.takeCommand_steady {run : Run} (hrun : Run.Steady run) (s : State)
    (takes : Command → Bool) (perm : Command → Permission) :
    Steady s (s.takeCommand takes perm run) := by
  unfold State.takeCommand
  split
  · split
    · exact s.takeHead_steady.trans (State.judge_steady hrun _ perm _)
    · exact .refl s
  · exact .refl s

theorem State.discardMalformed_steady (s : State) : Steady s s.discardMalformed := by
  unfold State.discardMalformed
  split
  · split
    · refine s.takeHead_steady.trans ?_
      exact .of_front rfl (·.of_queues_eq rfl)
    · exact .refl s
  · exact .refl s

theorem needs_steady {run : Run} (hrun : Run.Steady run) (n : Nat) : Run.Steady (needs n run) := by
  intro c s
  unfold needs
  split
  · exact .refl s
  · exact hrun c s

theorem counterRun_steady {run : Bool → Run} (hrun : ∀ b, Run.Steady (run b)) (n : Nat) :
    Run.Steady (counterRun n run) := by
  refine needs_steady (fun c s => ?_) 3
  split
  · exact .refl s
  · split
    · exact .refl s
    · split
      · exact .refl s
      · exact hrun _ c s

theorem runOpenSession_steady : Run.Steady runOpenSession := fun c s => by
  unfold runOpenSession
  split
  · exact (s.setEndpoint_steady _ _ _ _ _).post _
  · split
    · exact (Steady.refl s).restartIdle
    · exact .refl s

theorem runSetListener_steady : Run.Steady runSetListener :=
  needs_steady (fun c s => by
    split
    · split
      · exact (Steady.refl s).onCommons fun e _ => Commons.replaceListener_fits e _
      · exact .refl s
    · exact .refl s) 3

/-- SET_LISTENER none empties the punt queue (R178). -/
theorem State.clearListener_steady (s : State) : Steady s s.clearListener := by
  have hflush : ∀ (t : State) (entry : Nat), Steady t (t.flushPunt entry) := by
    intro t entry
    unfold State.flushPunt
    split
    · exact ((Steady.refl t).count _ _).release entry
    · exact .refl t
  have hcleared := (Steady.refl s).onCommons fun e _ => Commons.clearListener_fits e
  refine Steady.foldl ?_ hflush _
  exact hcleared.trans (.of_front rfl fun hfit => ⟨hfit.mgmtOut, hfit.events, Nat.zero_le 8⟩)

theorem runAckEvent_steady : Run.Steady runAckEvent :=
  needs_steady (fun c s => by
    split
    · rename_i x hacked
      exact .of_front rfl fun hfit => Commons.ackEvent_fits _ _ hfit hacked
    · exact .refl s) 2

theorem runRestart_steady : Run.Steady runRestart :=
  needs_steady (fun c s => by
    split
    · exact .refl s
    · split <;> exact .refl s) 1

theorem runReadTable_steady : Run.Steady runReadTable :=
  needs_steady (fun c s => by
    split
    · exact .refl s
    · split
      · exact .refl s
      · dsimp only
        split
        · exact .refl s
        · split
          · exact .refl s
          · unfold State.setCursor
            dsimp only
            split
            · exact (Steady.refl s).withSession _
            · exact .refl s) 6

theorem runReadNext_steady : Run.Steady runReadNext := fun c s => by
  unfold runReadNext
  split
  · exact .refl s
  · exact (Steady.refl s).withSession _

theorem runWriteTable_steady : Run.Steady runWriteTable :=
  needs_steady (fun c s => by
    split
    case h_5 => exact s.update_steady _ _ _ _
    all_goals exact .refl s) 3

theorem runCommit_steady : Run.Steady runCommit := fun c s => by
  unfold runCommit
  split
  · exact s.update_steady _ _ _ _
  · exact .refl s

theorem runAbortEdit_steady : Run.Steady runAbortEdit := fun c s => by
  unfold runAbortEdit
  split
  · exact .refl s
  · exact .refl s
  · exact s.update_steady _ _ _ _

theorem runHits_steady (clear : Bool) : Run.Steady (runHits clear) := fun c s => by
  unfold runHits
  split
  · exact .refl s
  · split
    · exact .refl s
    · split
      · exact .refl s
      · cases clear
        · exact .refl s
        · exact s.setCurrent_steady _

theorem runPort_steady (clear : Bool) : Run.Steady (runPort clear) := fun c s => by
  unfold runPort
  split
  · exact .refl s
  · cases clear
    · exact .refl s
    · exact (Steady.refl s).setPort _ _

theorem runMeters_steady (clear : Bool) : Run.Steady (runMeters clear) := fun c s => by
  unfold runMeters
  split
  · exact .refl s
  · cases clear
    · exact .refl s
    · exact s.update_steady _ _ _ _

theorem runPrefilter_steady (clear : Bool) : Run.Steady (runPrefilter clear) := fun c s => by
  cases clear
  · exact .refl s
  · exact s.update_steady _ _ _ _

theorem runMgmt_steady (clear : Bool) : Run.Steady (runMgmt clear) := fun c s => by
  cases clear
  · exact .refl s
  · exact .of_front rfl (·.of_queues_eq rfl)

theorem runIntegrity_steady (clear : Bool) : Run.Steady (runIntegrity clear) := fun c s => by
  cases clear
  · exact .refl s
  · exact s.update_steady _ _ _ _

theorem runGetSetting_steady : Run.Steady runGetSetting :=
  needs_steady (fun c s => by
    split <;> exact .refl s) 2

/-- A pool mark that takes a new value leaves the pool to evaluate its state (R134). -/
theorem State.setMark_steady (s : State) (mark : Pool → Pool) :
    Steady s (s.onCommons fun e x => Commons.evalPool e { x with pool := mark x.pool }) :=
  (Steady.refl s).onCommons fun e _ hx => Commons.evalPool_fits e (hx.of_queues_eq rfl)

theorem State.setSetting_steady {s t : State} (x : Setting) (v : Nat)
    (h : s.setSetting x v = some t) : Steady s t := by
  cases x with
  | portEnable p =>
    simp only [State.setSetting, State.setPortEnable, Option.ite_none_right_eq_some,
      Option.some.injEq] at h
    exact h.2 ▸ s.changePort_steady p _
  | fallback p =>
    have hset : ∀ f, Steady s { s with classifier := s.classifier.setFallback p f } :=
      fun f => .of_front (by cases p <;> rfl) id
    simp only [State.setSetting, State.setFallback] at h
    split at h
    · cases h
      exact hset .pass
    · simp only [Option.ite_none_right_eq_some, Option.some.injEq] at h
      exact h.2 ▸ hset .block
  | queueLimit p c =>
    simp only [State.setSetting, State.setQueueLimit, Option.ite_none_right_eq_some,
      Option.some.injEq] at h
    exact h.2 ▸ (Steady.refl s).setPort p _
  | poolLowMark =>
    simp only [State.setSetting, State.setPoolLowMark, Option.ite_none_right_eq_some,
      Option.some.injEq] at h
    exact h.2 ▸ s.setMark_steady fun pool => { pool with lowMark := v }
  | poolHighMark =>
    simp only [State.setSetting, State.setPoolHighMark, Option.ite_none_right_eq_some,
      Option.some.injEq] at h
    exact h.2 ▸ s.setMark_steady fun pool => { pool with highMark := v }
  | nodeAddress =>
    simp only [State.setSetting, State.setNodeAddress, Option.ite_none_right_eq_some,
      Option.some.injEq] at h
    exact h.2 ▸ s.setEndpoint_steady _ _ _ _ _
  | sessionTimeout =>
    simp only [State.setSetting, State.setSessionTimeout, Option.ite_none_right_eq_some,
      Option.some.injEq] at h
    exact h.2 ▸ (s.setEndpoint_steady _ _ _ _ _).restartIdle
  | verifyPeriod =>
    simp only [State.setSetting, State.setVerifyPeriod, Option.ite_none_right_eq_some,
      Option.some.injEq] at h
    exact h.2 ▸ s.update_steady _ _ _ _

theorem runSetSetting_steady : Run.Steady runSetSetting :=
  needs_steady (fun c s => by
    split
    · split
      · rename_i h
        exact State.setSetting_steady _ _ h
      · exact .refl s
    · exact .refl s) 4

/-- However the response of a RESTART is settled, up to the restart nothing outgrows its capacity (R143). -/
theorem State.settling_steady (s : State) (by_ : SettledBy) : Steady s (s.settling by_) := by
  cases by_ with
  | sent p => exact s.endTransmission_steady p
  | linkFell p => exact s.changePort_steady p _
  | lostAtOnce => exact s.takeCommand_steady runRestart_steady _ _

/-! ### The table controller and the verify unit (R97, R101, R115) -/

theorem State.signingStep_steady (s : State) : Steady s s.signingStep := by
  unfold State.signingStep
  split
  · split
    · exact (s.update_steady _ _ _ _).post _
    · exact s.update_steady _ _ _ _
  · exact .refl s

/-- A post that follows a change of the classifier which keeps the ingress queues keeps every queue
bounded. -/
theorem State.changeMode_post_bounded {s : State} (hs : QueuesBounded s) {c : Classifier}
    (hingress : ∀ p, c.ingress p = s.classifier.ingress p) (ms : Vector Meter 64)
    (tables : Controller) (v : Verify) (k : EventKind) :
    QueuesBounded
      ({ s with classifier := c, meters := ms, tables := tables, verify := v }.post k) := by
  refine ((Steady.refl _).post k).bounded ?_
  rw [queuesBounded_iff] at hs ⊢
  exact ⟨fun p => hingress p ▸ hs.1 p, hs.2⟩

/-- A swap makes the mode NORMAL or changes nothing, and its post keeps the queues bounded (R101). -/
theorem State.swap_mode (s : State) :
    (s.swap.classifier.mode = .normal ∨ s.swap.classifier.mode = s.classifier.mode) ∧
      (QueuesBounded s → QueuesBounded s.swap) := by
  unfold State.swap
  split
  · exact ⟨.inl rfl, fun hs =>
      State.changeMode_post_bounded hs (fun p => by cases p <;> rfl) _ _ _ _⟩
  · exact ⟨.inr rfl, id⟩

/-- A FAIL verdict makes the mode FAULTED or changes nothing, and its post keeps the queues bounded
(R115). -/
theorem State.verdictFail_mode (s : State) :
    (s.verdictFail.classifier.mode = .faulted ∨ s.verdictFail.classifier.mode = s.classifier.mode) ∧
      (QueuesBounded s → QueuesBounded s.verdictFail) := by
  unfold State.verdictFail
  split
  · split
    · exact ⟨.inr rfl, id⟩
    · exact ⟨.inl rfl, fun hs =>
        State.changeMode_post_bounded hs (fun p => by cases p <;> rfl) _ _ _ _⟩
  · exact ⟨.inr rfl, id⟩

/-! ### Every command -/

/-- An outcome that is a next state is that state. -/
theorem Becomes.of_next {s t u : State}
    (h : (Host.Outcome.next u : Host.Outcome State Fault Refusal) = .next t) (hu : Becomes s u) :
    Becomes s t := by
  cases h
  exact hu

/-- A next state that is steady. -/
theorem Steady.becomes {s t u : State} (hu : Steady s u)
    (h : (Host.Outcome.next u : Host.Outcome State Fault Refusal) = .next t) : Becomes s t :=
  .of_next h (.inl hu)

/-- Every command but a swap and a FAIL verdict keeps the mode and the queues or ends in a reset. -/
theorem exec_becomes {i : Instr} {s t : State} (h : exec i s = .next t) (hswap : i ≠ .swap)
    (hfail : i ≠ .verdictFail) : Becomes s t := by
  cases i with
  | pinReset pins => exact .of_next h (.inr ⟨pins.straps, pins.aLink, pins.bLink, .power, rfl⟩)
  | linkPinChange p level =>
    exact .of_next h (State.settleRestart_becomes (s.changePort_steady p _) s.straps)
  | frameStart p => exact (s.startReception_steady p).becomes h
  | receptionCellClaim p bytes => exact (s.receiveBytes_steady p bytes).becomes h
  | oversizeCutoff p bytes => exact (s.receiveBytes_steady p bytes).becomes h
  | lineAbort p => exact (s.abortReception_steady p).becomes h
  | frameEnd p bytes =>
    exact ((s.receiveBytes_steady p bytes).trans (State.endReception_steady _ p)).becomes h
  | classify => exact s.classify_steady.becomes h
  | malformedCommand => exact s.discardMalformed_steady.becomes h
  | unknownCommand => exact (s.takeCommand_steady (fun _ t => .refl t) _ _).becomes h
  | discover => exact (s.takeCommand_steady (fun _ t => .refl t) _ _).becomes h
  | openSession => exact (s.takeCommand_steady runOpenSession_steady _ _).becomes h
  | closeSession =>
    exact (s.takeCommand_steady (fun _ t => t.endSession_steady .closed) _ _).becomes h
  | getSetting => exact (s.takeCommand_steady runGetSetting_steady _ _).becomes h
  | setNodeAddress | setSessionTimeout | setVerifyPeriod | setFallback | setPortEnable | setQueueLimit
  | setPoolLowMark | setPoolHighMark =>
    exact (s.takeCommand_steady runSetSetting_steady _ _).becomes h
  | readTable => exact (s.takeCommand_steady runReadTable_steady _ _).becomes h
  | readNext => exact (s.takeCommand_steady runReadNext_steady _ _).becomes h
  | writeTable => exact (s.takeCommand_steady runWriteTable_steady _ _).becomes h
  | commit => exact (s.takeCommand_steady runCommit_steady _ _).becomes h
  | abortEdit => exact (s.takeCommand_steady runAbortEdit_steady _ _).becomes h
  | readCountersHits =>
    exact (s.takeCommand_steady (counterRun_steady runHits_steady 7) _ _).becomes h
  | readCountersPort =>
    exact (s.takeCommand_steady (counterRun_steady runPort_steady 3) _ _).becomes h
  | readCountersMeter =>
    exact (s.takeCommand_steady (counterRun_steady runMeters_steady 7) _ _).becomes h
  | readCountersPrefilter =>
    exact (s.takeCommand_steady (counterRun_steady runPrefilter_steady 3) _ _).becomes h
  | readCountersMgmt =>
    exact (s.takeCommand_steady (counterRun_steady runMgmt_steady 3) _ _).becomes h
  | readCountersIntegrity =>
    exact (s.takeCommand_steady (counterRun_steady runIntegrity_steady 3) _ _).becomes h
  | readStatus => exact (s.takeCommand_steady (fun _ t => .refl t) _ _).becomes h
  | setListener => exact (s.takeCommand_steady runSetListener_steady _ _).becomes h
  | setListenerNone =>
    exact (s.takeCommand_steady (fun _ t => t.clearListener_steady) _ _).becomes h
  | ackEvent => exact (s.takeCommand_steady runAckEvent_steady _ _).becomes h
  | restartLight | restartFull =>
    exact .of_next h
      (State.settleRestart_becomes (s.takeCommand_steady runRestart_steady _ _) s.straps)
  | lightRestart by_ =>
    refine .of_next h ?_
    split
    · exact .inl ((s.settling_steady by_).trans (State.lightRestart_steady _))
    · exact .inl (.refl s)
  | fullRestart by_ straps =>
    refine .of_next h ?_
    split
    · exact .inr (State.fullRestart_becomes (s.settling_steady by_) straps)
    · exact .inl (.refl s)
  | sessionIdleExpiry => exact (s.endSession_steady .expired).becomes h
  | signingStep => exact s.signingStep_steady.becomes h
  | swap => exact absurd rfl hswap
  | verdictPass =>
    refine .of_next h (.inl ?_)
    split
    · exact s.update_steady _ _ _ _
    · exact .refl s
  | verdictFail => exact absurd rfl hfail
  | storageUpset bank table index content =>
    refine .of_next h (.inl ?_)
    split
    · exact s.update_steady _ _ _ _
    · exact .refl s
  | reserveGrant =>
    exact .of_next h (State.settleRestart_becomes
      ((Steady.refl s).onCommons fun e _ => Commons.arbiter_fits e) s.straps)
  | mgmtOutAdmit p =>
    exact ((Steady.refl s).onCommons fun e _ => Commons.admitOffers_fits e p).becomes h
  | transmissionStart p => exact (s.startTransmission_steady p).becomes h
  | transmissionEnd p =>
    exact .of_next h (State.settleRestart_becomes (s.endTransmission_steady p) s.straps)
  | eventSend => exact ((Steady.refl s).onCommons fun e _ => Commons.trySend_fits e).becomes h
  | retryTimerExpiry =>
    exact ((Steady.refl s).onCommons fun e _ => Commons.retryExpiry_fits e).becomes h
  | puntTake => exact ((Steady.refl s).onCommons fun e _ => Commons.puntTake_fits e).becomes h
  | refill | copyingStep | endOfCopying | verifyPeriodExpiry | sweepStep =>
    exact (s.update_steady _ _ _ _).becomes h
  | uptimeCount => exact (s.setEndpoint_steady _ _ _ _ _).becomes h

/-- Right after a reset the queues hold the one event of the restart. -/
theorem ResetFrom.bounded {s t : State} (h : ResetFrom s t) : QueuesBounded t := by
  obtain ⟨straps, a, b, cause, rfl⟩ := h
  exact ⟨Nat.zero_le 8, Nat.zero_le 8, Nat.zero_le 4, Nat.zero_le 4, Nat.zero_le 4,
    (by decide : 1 ≤ 16), Nat.zero_le 8⟩

theorem exec_keeps_queuesBounded {i : Instr} {s t : State} (hs : QueuesBounded s)
    (h : exec i s = .next t) : QueuesBounded t := by
  by_cases hswap : i = .swap
  · subst hswap
    cases h
    exact s.swap_mode.2 hs
  by_cases hfail : i = .verdictFail
  · subst hfail
    cases h
    exact s.verdictFail_mode.2 hs
  obtain hsteady | hreset := exec_becomes h hswap hfail
  · exact hsteady.bounded hs
  · exact hreset.bounded

end Sys2Proof.Machine

namespace Sys2Proof.Settled

open Sys2Proof.Machine Sys2Proof.Safety

/-- Settles O11: each command keeps every queue within its capacity, and an idle step changes nothing. -/
theorem queuesStayBounded : Obligations.QueuesStayBounded := by
  intro s t hs h
  unfold step at h
  split at h
  · cases h
    exact hs
  · rename_i rest _
    exact exec_keeps_queuesBounded (s := { s with pending := rest }) hs h

/-- Settles O21: a swap and a FAIL verdict give their modes, and any other command keeps the mode or ends in
a reset. -/
theorem modeChangesOnlyBy : Obligations.ModeChangesOnlyBy := by
  intro i s t h hchanged
  by_cases hswap : i = .swap
  · subst hswap
    cases h
    exact .inl ⟨rfl, s.swap_mode.1.resolve_right hchanged⟩
  by_cases hfail : i = .verdictFail
  · subst hfail
    cases h
    exact .inr (.inl ⟨rfl, s.verdictFail_mode.1.resolve_right hchanged⟩)
  obtain hsteady | hreset := exec_becomes h hswap hfail
  · exact absurd hsteady.mode hchanged
  · obtain ⟨straps, a, b, cause, rfl⟩ := hreset
    exact .inr (.inr ⟨rfl, straps, a, b, cause, rfl⟩)

end Sys2Proof.Settled
end

section
/-! PROOF. Lookup and fallback: when a slot matches, field by field from its stored bytes (R17 to R22), and what
the classifier does outside NORMAL (R29, R32 to R34). -/

namespace Sys2Proof.Machine

/-! ### The fields of a slot (R17 to R20) -/

theorem slotMarker_toNat (b : Bank) (n : Nat) :
    (slotMarker b n).toNat = (b.read (slotOffset n)).toNat / 16 := by
  simp [slotMarker, Nat.shiftRight_eq_div_pow]

theorem slotPortBits_toNat (b : Bank) (n : Nat) :
    (slotPortBits b n).toNat = (b.read (slotOffset n)).toNat % 16 := by
  rw [slotPortBits, BitVec.toNat_and]
  exact Nat.and_two_pow_sub_one_eq_mod _ 4

/-- A marker is the code its upper four bits spell. -/
theorem slotMarker_eq_iff (b : Bank) (n : Nat) (code : Byte) :
    slotMarker b n = code ↔ (b.read (slotOffset n)).toNat / 16 = code.toNat := by
  rw [← slotMarker_toNat, BitVec.toNat_inj]

/-- The port match agrees when it is ANY or the code of the ingress port (R19, R22). -/
theorem portAgrees_iff (bits : Byte) (p : Port) :
    portAgrees bits p = true ↔ bits.toNat = 0 ∨ bits.toNat = if p = .a then 1 else 2 := by
  have hcode : (portCode p).toNat = if p = .a then 1 else 2 := by cases p <;> rfl
  simp only [portAgrees, Bool.or_eq_true, beq_iff_eq, ← BitVec.toNat_inj, hcode]
  rfl

theorem maskedEq_iff {w : Nat} (quantity value mask : BitVec w) :
    maskedEq quantity value mask = true ↔ quantity &&& mask = value &&& mask := by
  simp [maskedEq]

/-- A STANDARD slot matches on its own fields, a WIDE_HEAD at an even slot before a WIDE_TAIL on its own and
the tail's, and no other slot matches (R17, R21, R22). -/
theorem slotMatches_iff (b : Bank) (r : FrameRecord) (n : Nat) :
    slotMatches b r n = true ↔
      (slotMarker b n = markStandard ∧ headMatches b n r = true) ∨
        (slotMarker b n = markHead ∧ n % 2 = 0 ∧ slotMarker b (n + 1) = markTail ∧
          headMatches b n r = true ∧ tailMatches b (n + 1) r = true) := by
  have hdistinct : markHead ≠ markStandard := by decide
  unfold slotMatches
  split
  · rename_i hstandard
    simp [hstandard, hdistinct.symm]
  · rename_i hstandard
    split
    · rename_i hhead
      simp [hhead, hdistinct, and_assoc]
    · rename_i hhead
      simp [hstandard, hhead]

/-! ### The lowest match (R21) -/

theorem lookup_eq_some_iff (b : Bank) (r : FrameRecord) (n : Nat) :
    lookup b r = some n ↔
      n < 512 ∧ slotMatches b r n = true ∧ ∀ m < n, slotMatches b r m = false := by
  simp only [lookup, List.find?_range_eq_some, List.mem_range, Bool.not_eq_true']
  exact and_left_comm

theorem lookup_eq_none_iff (b : Bank) (r : FrameRecord) :
    lookup b r = none ↔ ∀ m < 512, slotMatches b r m = false := by
  simp [lookup]

/-! ### The arbiter (R29) -/

theorem Classifier.choose_of_both {c : Classifier} (ha : c.ingressA ≠ []) (hb : c.ingressB ≠ []) :
    c.choose = some (otherPort c.lastServed) := by
  obtain ⟨_, _, ha⟩ := List.exists_cons_of_ne_nil ha
  obtain ⟨_, _, hb⟩ := List.exists_cons_of_ne_nil hb
  simp [Classifier.choose, ha, hb]

theorem Classifier.choose_of_a {c : Classifier} (ha : c.ingressA ≠ []) (hb : c.ingressB = []) :
    c.choose = some .a := by
  obtain ⟨_, _, ha⟩ := List.exists_cons_of_ne_nil ha
  simp [Classifier.choose, ha, hb]

theorem Classifier.choose_of_b {c : Classifier} (ha : c.ingressA = []) (hb : c.ingressB ≠ []) :
    c.choose = some .b := by
  obtain ⟨_, _, hb⟩ := List.exists_cons_of_ne_nil hb
  simp [Classifier.choose, ha, hb]

/-! ### Outside NORMAL (R32 to R34) -/

theorem takeRecord_eq (generation : Word16) (r : FrameRecord) :
    takeRecord generation r =
      { r with generation := some generation, flags := r.flags &&& 0x0FFF#16 } := by
  rw [takeRecord, clearTakeFlags_eq]

/-- Outside NORMAL the classifier takes the head of the queue its arbiter chooses, and disposes of it as the
fallback of its ingress port says. -/
theorem State.classify_fallback {s : State} {p : Port} {id : Nat} {rest : List Nat} {f : RxFrame}
    (hmode : s.classifier.mode ≠ .normal) (hchoose : s.classifier.choose = some p)
    (hingress : s.classifier.ingress p = id :: rest) (hframe : s.commons.frame? id = some f) :
    s.classify = (s.taken p rest).dispose id f.cells
      (fallbackRecord (s.classifier.fallback f.record.ingress)
        (takeRecord s.tables.generation f.record)) := by
  have htaken : (s.taken p rest).classifier.mode ≠ .normal := by simpa [State.taken] using hmode
  have hfallback : ∀ q, (s.taken p rest).classifier.fallback q = s.classifier.fallback q :=
    fun q => by cases q <;> simp [State.taken, Classifier.fallback]
  have hframed : s.classify = (s.taken p rest).classifyFrame f := by
    simp only [State.classify, hchoose, hingress, hframe, State.taken]
  rw [hframed, State.classifyFrame, if_neg htaken, hfallback, Commons.frame?_id hframe]
  rfl

theorem PortSet.only_otherPort (q : Port) :
    PortSet.only (otherPort q) = { a := q == .b, b := q == .a } := by
  cases q <;> rfl

/-- A frame that goes out of one port in class 0 and nowhere else is offered there and released. -/
theorem State.dispose_forwarded (s : State) (id cells : Nat) (r : FrameRecord) (p : Port) :
    let forwarded := r.setDisp { Disposition.initial with dest := PortSet.only p }
    s.dispose id cells forwarded =
      ((s.onCommons fun _ => Commons.updateFrame id fun f => f.classified forwarded).offerCopy id cells
        { port := p, cls := 0, mirror := false }).release id := by
  cases p <;> rfl

end Sys2Proof.Machine

namespace Sys2Proof.Settled

open Sys2Proof.Machine

/-- Settles O31: the lookup is the first match of the 512 slots, and a match is opened into the fields that the
bank stores from the slot's offset, 21164 + 20 n, on. -/
theorem lookupTakesFirstMatch : Obligations.LookupTakesFirstMatch := by
  refine fun b r => ⟨lookup_eq_some_iff b r, lookup_eq_none_iff b r, fun n => ?_⟩
  rw [slotMatches_iff]
  simp only [slotMarker_eq_iff, headMatches, tailMatches, Bool.and_eq_true, decide_eq_true_eq,
    maskedEq_iff, portAgrees_iff, slotPortBits_toNat, and_assoc]
  cases r.tags <;> rfl

/-- Settles O38: the arbiter by the queues that hold records, and the two fallbacks as a dropped and as a
forwarded disposition. -/
theorem fallbackDisposition : Obligations.FallbackDisposition := by
  refine ⟨fun c => ⟨fun ha hb => by simp [Classifier.choose, ha, hb], Classifier.choose_of_a,
    Classifier.choose_of_b, fun ha hb => ?_⟩, ?_⟩
  · rw [Classifier.choose_of_both ha hb]
    cases c.lastServed <;> rfl
  intro s p id rest f hmode hchoose hingress hframe q r taken disposed
  have hclassify := State.classify_fallback hmode hchoose hingress hframe
  rw [takeRecord_eq] at hclassify
  refine ⟨fun hblock => congrArg Host.Outcome.next ?_, fun hpass => congrArg Host.Outcome.next ?_⟩
  · rw [hclassify, hblock]
    exact State.dispose_dropped _ id f.cells _ .fallbackBlock rfl
  · rw [hclassify, hpass]
    refine (State.dispose_forwarded _ id f.cells _ (otherPort q)).trans ?_
    rw [PortSet.only_otherPort]
    rfl

end Sys2Proof.Settled
end

section
/-! PROOF. The steps of an action list: guards, step faults, verbs and operands, one rule for each operation, and the
order and end of a list (R12, R42 to R58). -/

namespace Sys2Proof.Machine

/-! ### Guards (R46) -/

/-- Flags hold every flag of a set exactly when each bit of the set is among them. -/
theorem and_eq_right_iff (flags set : Word16) :
    flags &&& set = set ↔ ∀ i < 16, set.getLsbD i = true → flags.getLsbD i = true := by
  rw [BitVec.eq_of_getLsbD_eq_iff]
  refine forall₂_congr fun i _ => ?_
  rw [BitVec.getLsbD_and]
  cases set.getLsbD i <;> simp

/-- Flags hold no flag of a set exactly when each bit of the set is not among them. -/
theorem and_eq_zero_iff (flags set : Word16) :
    flags &&& set = 0#16 ↔ ∀ i < 16, set.getLsbD i = true → flags.getLsbD i = false := by
  rw [BitVec.eq_of_getLsbD_eq_iff]
  refine forall₂_congr fun i _ => ?_
  rw [BitVec.getLsbD_and, BitVec.getLsbD_zero]
  cases set.getLsbD i <;> simp

theorem guardHolds_iff (flags required forbidden : Word16) :
    guardHolds flags required forbidden = true ↔
      ∀ i < 16, (required.getLsbD i = true → flags.getLsbD i = true) ∧
        (forbidden.getLsbD i = true → flags.getLsbD i = false) := by
  simp only [guardHolds, Bool.and_eq_true, beq_iff_eq, and_eq_right_iff, and_eq_zero_iff,
    ← forall_and]

/-! ### Verbs and operands (R44, R47) -/

/-- A number below the bound is read from its byte. -/
theorem operandFin_ofNat {n : Nat} (k : Fin n) (hn : n ≤ 256) :
    operandFin n (BitVec.ofNat 8 k.val) = some k := by
  have hk : (BitVec.ofNat 8 k.val).toNat = k.val := by
    rw [BitVec.toNat_ofNat]
    exact Nat.mod_eq_of_lt (k.isLt.trans_le hn)
  have hlt : (BitVec.ofNat 8 k.val).toNat < n := hk.symm ▸ k.isLt
  rw [operandFin, dif_pos hlt]
  exact congrArg some (Fin.ext hk)

theorem inRange_eq_ok_iff {α : Type} {o : Option α} {g : α → StepOp} {op : StepOp} :
    inRange o g = .ok op ↔ ∃ v, o = some v ∧ g v = op := by
  cases o <;> simp [inRange]

/-- A number operand below the bound of its verb runs as the operation on that number. -/
theorem inRange_operandFin {n : Nat} (g : Fin n → StepOp) (hn : n ≤ 256) (k : Fin n) :
    inRange (operandFin n (BitVec.ofNat 8 k.val)) g = .ok (g k) :=
  inRange_eq_ok_iff.2 ⟨k, operandFin_ofNat k hn, rfl⟩

theorem operandFin_eq_none {n : Nat} {o : Byte} (h : n ≤ o.toNat) : operandFin n o = none :=
  dif_neg (Nat.not_lt.2 h)

/-- FORWARD's operand holds Port A in bit 0 and Port B in bit 1. -/
theorem operandPortSet_bits (d : PortSet) :
    operandPortSet (BitVec.ofNat 8 (d.a.toNat + 2 * d.b.toNat)) = some d := by
  obtain ⟨a, b⟩ := d
  cases a <;> cases b <;> rfl

theorem operandPortSet_eq_none {o : Byte} (h : 4 ≤ o.toNat) : operandPortSet o = none := by
  simp (disch := bv_omega) only [operandPortSet, if_neg]

theorem operandField_eq_none {o : Byte} (h : 7 ≤ o.toNat) : operandField o = none := by
  simp (disch := bv_omega) only [operandField, if_neg]

theorem operandRewriteField_eq_none {o : Byte} (h : 6 ≤ o.toNat) : operandRewriteField o = none := by
  by_cases hlength : o = 6#8
  · exact hlength ▸ rfl
  · rw [operandRewriteField, operandField_eq_none (by bv_omega)]

/-- A field that REWRITE names, COMPARE names with the same operand. -/
theorem operandField_of_rewrite {o : Byte} {f : Field} (h : operandRewriteField o = some f) :
    operandField o = some f := by
  unfold operandRewriteField at h
  split at h
  · cases h
  · exact h

theorem portOfCode_eq_none {o : Byte} (ha : o ≠ 1#8) (hb : o ≠ 2#8) : portOfCode o = none := by
  rw [portOfCode, if_neg ha, if_neg hb]

/-- Verb codes from 14 on are unassigned. -/
theorem decodeStep_unassigned {verb : Byte} (operand : Byte) (h : 14 ≤ verb.toNat) :
    decodeStep verb operand = .badVerb := by
  simp (disch := bv_omega) only [decodeStep, if_neg]

/-- A step whose verb is none or unassigned, or whose operand is out of the range of its verb (R44, R47). -/
def BadStep (verb operand : Byte) : Prop :=
  verb = 0#8 ∨ 14 ≤ verb.toNat ∨ ((verb = 1#8 ∨ verb = 2#8) ∧ 4 ≤ operand.toNat) ∨
    (verb = 3#8 ∧ 6 ≤ operand.toNat) ∨ (verb = 5#8 ∧ 7 ≤ operand.toNat) ∨
    ((verb = 6#8 ∨ verb = 7#8) ∧ 8 ≤ operand.toNat) ∨ (verb = 10#8 ∧ 64 ≤ operand.toNat) ∨
    (verb = 11#8 ∧ operand ≠ 1#8 ∧ operand ≠ 2#8) ∨ (verb = 13#8 ∧ 16 ≤ operand.toNat)

/-- A bad step decodes to no operation. -/
theorem decodeStep_bad {verb operand : Byte} (h : BadStep verb operand) :
    decodeStep verb operand = .badVerb ∨ decodeStep verb operand = .badOperand := by
  have outOfRange {α : Type} {x : Option α} (g : α → StepOp) (hx : x = none) :
      inRange x g = .badVerb ∨ inRange x g = .badOperand := .inr (by rw [hx]; rfl)
  rcases h with rfl | hverb | ⟨rfl | rfl, ho⟩ | ⟨rfl, ho⟩ | ⟨rfl, ho⟩ | ⟨rfl | rfl, ho⟩ | ⟨rfl, ho⟩ |
    ⟨rfl, ha, hb⟩ | ⟨rfl, ho⟩
  · exact .inl rfl
  · exact .inl (decodeStep_unassigned operand hverb)
  · exact outOfRange .forward (operandPortSet_eq_none ho)
  · exact outOfRange .cls (operandFin_eq_none ho)
  · exact outOfRange .rewrite (operandRewriteField_eq_none ho)
  · exact outOfRange .compare (operandField_eq_none ho)
  · exact outOfRange .setFlag (operandFin_eq_none ho)
  · exact outOfRange .clearFlag (operandFin_eq_none ho)
  · exact outOfRange .meter (operandFin_eq_none ho)
  · exact outOfRange .mirror (portOfCode_eq_none ha hb)
  · exact outOfRange .drop (operandFin_eq_none ho)

/-- The same operand names the same field to REWRITE and to COMPARE. -/
theorem decodeStep_compare_of_rewrite {o : Byte} {f : Field} (h : decodeStep 3#8 o = .ok (.rewrite f)) :
    decodeStep 5#8 o = .ok (.compare f) := by
  obtain ⟨g, hg, hgf⟩ := inRange_eq_ok_iff.1 (show inRange (operandRewriteField o) .rewrite = _ from h)
  obtain rfl := StepOp.rewrite.inj hgf
  exact inRange_eq_ok_iff.2 ⟨g, operandField_of_rewrite hg, rfl⟩

/-! ### A step examined (R45 to R47) -/

theorem examineStep_skipped {r : FrameRecord} (ms : Vector Meter 64) {st : ActionStep}
    (h : guardHolds r.flags st.required st.forbidden = false) : examineStep r ms st = stepOn r ms := by
  simp [examineStep, h]

theorem examineStep_runs {r : FrameRecord} (ms : Vector Meter 64) {st : ActionStep} {op : StepOp}
    (hguard : guardHolds r.flags st.required st.forbidden = true)
    (hop : decodeStep st.verb st.operand = .ok op) :
    examineStep r ms st = runOp r ms op st.value st.mask := by
  simp only [examineStep, hguard, hop, if_true]

/-- A bad step whose guard holds is a step fault (R47). -/
theorem examineStep_bad {r : FrameRecord} (ms : Vector Meter 64) {st : ActionStep}
    (hguard : guardHolds r.flags st.required st.forbidden = true)
    (hbad : BadStep st.verb st.operand) : examineStep r ms st = stepFault r ms := by
  obtain h | h := decodeStep_bad hbad <;> simp only [examineStep, hguard, h, if_true]

/-! ### A list (R42, R45, R47) -/

/-- A step of a list from the bytes of its record. -/
theorem Bank.step_eq (b : Bank) (i k : Nat) :
    let o := 429 + 81 * i + 10 * k
    b.step i k = { verb := b.read o, required := b.u16 (o + 1), forbidden := b.u16 (o + 3)
                   operand := b.read (o + 5), value := b.u16 (o + 6), mask := b.u16 (o + 8) } := by
  have hoffset : recordOffset .actions i + 1 + 10 * k = 429 + 81 * i + 10 * k := by
    simp only [recordOffset, tableBase, recordSize]
    omega
  simp only [Bank.step, hoffset]

/-! ### HOP (R54) -/

/-- HOP on a budget of 0 or 1 leaves 0 and drops the frame. -/
theorem runHop_expired {r : FrameRecord} (ms : Vector Meter 64) (h : r.hop.toNat ≤ 1) :
    runHop r ms = stepDrop { r with hop := 0#8 } ms .hopExpired := by
  have hcases : r.hop = 0#8 ∨ r.hop = 1#8 := by bv_omega
  obtain hzero | hone := hcases
  · rw [runHop, if_pos hzero, ← hzero]
  · simp [runHop, hone]

theorem runHop_budget_left {r : FrameRecord} (ms : Vector Meter 64) (h : 2 ≤ r.hop.toNat) :
    runHop r ms = stepOn { r with hop := r.hop - 1#8 } ms := by
  rw [runHop, if_neg (by bv_omega), if_neg (by bv_omega)]

/-! ### The tag stack and its flags (R12, R55, R56) -/

theorem FrameRecord.setTags_empty (r : FrameRecord) :
    r.setTags .empty = { r with tags := .empty, flags := r.flags &&& 0xFCFF#16 } :=
  congrArg (fun flags => { r with tags := .empty, flags := flags }) (BitVec.and_assoc r.flags _ _)

theorem FrameRecord.setTags_one (r : FrameRecord) (o : Word16) :
    r.setTags (.one o) =
      { r with tags := .one o, flags := (r.flags ||| 0x0100#16) &&& 0xFDFF#16 } := rfl

theorem FrameRecord.setTags_two (r : FrameRecord) (o i : Word16) :
    r.setTags (.two o i) = { r with tags := .two o i, flags := r.flags ||| 0x0300#16 } :=
  congrArg (fun flags => { r with tags := .two o i, flags := flags }) (BitVec.or_assoc r.flags _ _)

theorem runPush_empty {r : FrameRecord} (ms : Vector Meter 64) (value : Word16) (h : r.tags = .empty) :
    runPush r ms value = stepOn (r.setTags (.one value)) ms := by
  simp only [runPush, h]

theorem runPush_one {r : FrameRecord} (ms : Vector Meter 64) (value : Word16) {o : Word16}
    (h : r.tags = .one o) : runPush r ms value = stepOn (r.setTags (.two value o)) ms := by
  simp only [runPush, h]

theorem runPush_two {r : FrameRecord} (ms : Vector Meter 64) (value : Word16) {o i : Word16}
    (h : r.tags = .two o i) : runPush r ms value = stepFault r ms := by
  simp only [runPush, h]

theorem runPop_empty {r : FrameRecord} (ms : Vector Meter 64) (h : r.tags = .empty) :
    runPop r ms = stepFault r ms := by
  simp only [runPop, h]

theorem runPop_one {r : FrameRecord} (ms : Vector Meter 64) {o : Word16} (h : r.tags = .one o) :
    runPop r ms = stepOn (r.setTags .empty) ms := by
  simp only [runPop, h]

theorem runPop_two {r : FrameRecord} (ms : Vector Meter 64) {o i : Word16} (h : r.tags = .two o i) :
    runPop r ms = stepOn (r.setTags (.one i)) ms := by
  simp only [runPop, h]

/-- PUSH_TAG changes no meter and lets the list go on, whatever the stack. -/
theorem runPush_goes_on (r : FrameRecord) (ms : Vector Meter 64) (value : Word16) :
    (runPush r ms value).ended = false ∧ (runPush r ms value).meters = ms := by
  cases h : r.tags with
  | empty => rw [runPush_empty ms value h]; exact ⟨rfl, rfl⟩
  | one o => rw [runPush_one ms value h]; exact ⟨rfl, rfl⟩
  | two o i => rw [runPush_two ms value h]; exact ⟨rfl, rfl⟩

/-- POP_TAG changes no meter and lets the list go on, whatever the stack. -/
theorem runPop_goes_on (r : FrameRecord) (ms : Vector Meter 64) :
    (runPop r ms).ended = false ∧ (runPop r ms).meters = ms := by
  cases h : r.tags with
  | empty => rw [runPop_empty ms h]; exact ⟨rfl, rfl⟩
  | one o => rw [runPop_one ms h]; exact ⟨rfl, rfl⟩
  | two o i => rw [runPop_two ms h]; exact ⟨rfl, rfl⟩

/-! ### Fields (R53, R57) -/

/-- A masked replacement takes each bit that the mask names from the value. -/
theorem getLsbD_replaceBits (old value mask : Word16) {i : Nat} (hi : i < 16) :
    (replaceBits old value mask).getLsbD i =
      if mask.getLsbD i then value.getLsbD i else old.getLsbD i := by
  simp only [replaceBits, BitVec.getLsbD_or, BitVec.getLsbD_and, BitVec.getLsbD_not, hi]
  cases mask.getLsbD i <;> simp

/-- A replacement within the bits of a field leaves the field's other bits, which are 0, as they were. -/
theorem getLsbD_replaceBits_within {old bits : Word16} (value mask : Word16) (hold : old &&& bits = old)
    {i : Nat} (hi : i < 16) :
    (replaceBits old value (mask &&& bits) &&& bits).getLsbD i =
      if mask.getLsbD i && bits.getLsbD i then value.getLsbD i else old.getLsbD i := by
  have hbit : (old.getLsbD i && bits.getLsbD i) = old.getLsbD i := by
    rw [← BitVec.getLsbD_and, hold]
  rw [BitVec.getLsbD_and, getLsbD_replaceBits _ _ _ hi, BitVec.getLsbD_and]
  cases hb : bits.getLsbD i
  · rw [hb, Bool.and_false] at hbit
    simp [← hbit]
  · simp

/-- The low half of a word, as a byte and back. -/
theorem setWidth_setWidth_low (w : Word16) : (w.setWidth 8).setWidth 16 = w &&& 0x00FF#16 :=
  BitVec.eq_of_toNat_eq (by
    have hlow : w.toNat % 256 < 65536 := by omega
    simpa [Nat.and_two_pow_sub_one_eq_mod w.toNat 8] using hlow)

/-- A field holds no bit outside its width. -/
theorem FrameRecord.field?_and_fieldBits {r : FrameRecord} {f : Field} {old : Word16}
    (h : r.field? f = some old) : old &&& fieldBits f = old := by
  have hall : old &&& 0xFFFF#16 = old := BitVec.and_allOnes
  have hbyte : ∀ b : Byte, b.setWidth 16 &&& 0x00FF#16 = b.setWidth 16 := fun b => by
    rw [← setWidth_setWidth_low]
    simp
  cases f with
  | kind => obtain rfl := Option.some.inj h; exact hbyte r.kind
  | hop => obtain rfl := Option.some.inj h; exact hbyte r.hop
  | _ => exact hall

/-- KIND and HOP use the low 8 bits of value and mask, every other field all 16 (R44). -/
theorem fieldBits_eq (f : Field) :
    fieldBits f = if f = .kind ∨ f = .hop then 0x00FF#16 else 0xFFFF#16 := by
  cases f <;> rfl

@[simp] theorem TagStack.outer?_setOuter (t : TagStack) (w : Word16) :
    (t.setOuter w).outer? = t.outer?.map fun _ => w := by cases t <;> rfl
@[simp] theorem TagStack.inner?_setOuter (t : TagStack) (w : Word16) :
    (t.setOuter w).inner? = t.inner? := by cases t <;> rfl
@[simp] theorem TagStack.outer?_setInner (t : TagStack) (w : Word16) :
    (t.setInner w).outer? = t.outer? := by cases t <;> rfl
@[simp] theorem TagStack.inner?_setInner (t : TagStack) (w : Word16) :
    (t.setInner w).inner? = t.inner?.map fun _ => w := by cases t <;> rfl

/-- A field that is written is read back, within its width. -/
theorem FrameRecord.field?_setField {r : FrameRecord} {f : Field} {old : Word16} (w : Word16)
    (h : r.field? f = some old) (hf : f ≠ .length) :
    (r.setField f w).field? f = some (w &&& fieldBits f) := by
  have hall : w &&& 0xFFFF#16 = w := BitVec.and_allOnes
  cases f with
  | dest => exact congrArg some hall.symm
  | src => exact congrArg some hall.symm
  | kind => exact congrArg some (setWidth_setWidth_low w)
  | hop => exact congrArg some (setWidth_setWidth_low w)
  | outerTag =>
    have htag : r.tags.outer? = some old := h
    simp [field?, setField, fieldBits, htag, hall]
  | innerTag =>
    have htag : r.tags.inner? = some old := h
    simp [field?, setField, fieldBits, htag, hall]
  | length => exact absurd rfl hf

/-- Writing a field leaves every other one; a tag that is written leaves the tag beside it. -/
theorem FrameRecord.field?_setField_ne (r : FrameRecord) {f g : Field} (w : Word16) (h : g ≠ f) :
    (r.setField f w).field? g = r.field? g := by
  cases f <;> cases g <;> simp_all [setField, field?]

/-- Writing a field changes nothing of a record but dest, src, kind, hop and the tags. -/
theorem FrameRecord.setField_header (r : FrameRecord) (f : Field) (w : Word16) :
    { r.setField f w with dest := r.dest, src := r.src, kind := r.kind, hop := r.hop, tags := r.tags } =
      r := by
  cases f <;> rfl

/-! ### REWRITE and COMPARE (R53, R57) -/

theorem runRewrite_present {r : FrameRecord} (ms : Vector Meter 64) {f : Field} {old : Word16}
    (value mask : Word16) (h : r.field? f = some old) :
    runRewrite r ms f value mask =
      stepOn (r.setField f (replaceBits old value (mask &&& fieldBits f))) ms := by
  simp only [runRewrite, h]

theorem runRewrite_absent {r : FrameRecord} (ms : Vector Meter 64) {f : Field} (value mask : Word16)
    (h : r.field? f = none) : runRewrite r ms f value mask = stepFault r ms := by
  simp only [runRewrite, h]

/-- COMPARE of a field that is there sets EQ and LT from the masked values (R57). -/
theorem runCompare_present {r : FrameRecord} (ms : Vector Meter 64) {f : Field} {v : Word16}
    (value mask : Word16) (h : r.field? f = some v) :
    let x := v &&& mask &&& fieldBits f
    let y := value &&& mask &&& fieldBits f
    runCompare r ms f value mask =
      stepOn { r with
        flags := putFlag (putFlag r.flags .eq (decide (x = y))) .lt (decide (x.toNat < y.toNat)) } ms := by
  simp only [runCompare, h, BitVec.and_assoc]
  rfl

theorem runCompare_absent {r : FrameRecord} (ms : Vector Meter 64) {f : Field} (value mask : Word16)
    (h : r.field? f = none) : runCompare r ms f value mask = stepFault r ms := by
  simp only [runCompare, h]

end Sys2Proof.Machine

namespace Sys2Proof.Settled

open Sys2Proof.Machine

/-- Settles O32: the guard bit by bit, a step by its guard and its decoding, the codes one by one, and the list by
the bytes of its record. -/
theorem guardsAndFaults : Obligations.GuardsAndFaults := by
  refine ⟨guardHolds_iff, fun r ms st hguard => ?_, fun r ms st hguard hbad => ?_,
    fun r ms st op => examineStep_runs ms, ?_, ?_, ?_⟩
  · rw [examineStep_skipped ms hguard]
    exact ⟨rfl, rfl, rfl⟩
  · rw [examineStep_bad ms hguard hbad]
    exact ⟨rfl, rfl, rfl⟩
  · exact ⟨fun d => inRange_eq_ok_iff.2 ⟨d, operandPortSet_bits d, rfl⟩,
      inRange_operandFin .cls (by decide), rfl, rfl, rfl, rfl, rfl, rfl, fun f _ o => decodeStep_compare_of_rewrite, rfl,
      fun o => ⟨rfl, rfl, rfl, rfl⟩,
      fun n => ⟨inRange_operandFin .setFlag (by decide) n, inRange_operandFin .clearFlag (by decide) n⟩,
      inRange_operandFin .meter (by decide), rfl, rfl, inRange_operandFin .drop (by decide)⟩
  · intro r ms value mask keeps
    exact ⟨fun _ => rfl, fun _ => rfl, fun _ => rfl, rfl, fun _ => ⟨rfl, rfl⟩, fun _ => rfl⟩
  · exact fun b i r ms => ⟨rfl, rfl, fun _ _ => rfl, b.step_eq i⟩

/-- Settles O33: both verbs by whether the record holds the field, and the field that REWRITE leaves bit by bit. -/
theorem rewriteAndCompare : Obligations.RewriteAndCompare := by
  intro r ms f value mask old
  have hrewrite : runOp r ms (.rewrite f) value mask = runRewrite r ms f value mask := rfl
  have hcompare : runOp r ms (.compare f) value mask = runCompare r ms f value mask := rfl
  simp only [hrewrite, hcompare, ← fieldBits_eq]
  refine ⟨fun hfield hlength => ?_, fun hfield => ?_, fun habsent => ?_⟩
  · rw [runRewrite_present ms value mask hfield]
    exact ⟨_, FrameRecord.field?_setField _ hfield hlength,
      fun i hi => getLsbD_replaceBits_within value mask (FrameRecord.field?_and_fieldBits hfield) hi,
      fun g hg => r.field?_setField_ne _ hg, r.setField_header f _, rfl, rfl⟩
  · rw [runCompare_present ms value mask hfield]
    exact ⟨rfl, rfl, rfl⟩
  · rw [runRewrite_absent ms value mask habsent, runCompare_absent ms value mask habsent]
    exact ⟨rfl, rfl⟩

/-- Settles O34: HOP by the budget that is left, PUSH_TAG and POP_TAG by the stack they meet. -/
theorem hopAndTagVerbs : Obligations.HopAndTagVerbs := by
  intro r ms value mask x y
  have hpush : runOp r ms .pushTag value mask = runPush r ms value := rfl
  have hpop : runOp r ms .popTag value mask = runPop r ms := rfl
  have hhop : runOp r ms .hop value mask = runHop r ms := rfl
  simp only [hpush, hpop, hhop]
  refine ⟨fun h => ?_, fun h => ?_, fun h => ?_, fun h => ?_, fun h => ?_, ?_⟩
  · rw [runHop_expired ms h]
    exact ⟨rfl, rfl, rfl⟩
  · rw [runHop_budget_left ms h]
    refine ⟨?_, rfl, rfl, rfl⟩
    simp only [stepOn]
    bv_omega
  · rw [runPush_empty ms value h, runPop_empty ms h, r.setTags_one]
    exact ⟨rfl, rfl⟩
  · rw [runPush_one ms value h, runPop_one ms h, r.setTags_two, r.setTags_empty]
    exact ⟨rfl, rfl⟩
  · rw [runPush_two ms value h, runPop_two ms h, r.setTags_one]
    exact ⟨rfl, rfl⟩
  · obtain ⟨hpushEnded, hpushMeters⟩ := runPush_goes_on r ms value
    obtain ⟨hpopEnded, hpopMeters⟩ := runPop_goes_on r ms
    exact ⟨hpushEnded, hpopEnded, hpushMeters, hpopMeters⟩

end Sys2Proof.Settled
end

section
/-! PROOF. Disposition: the copies it offers, how a class queue and the punt queue judge what they are offered, and
the order of its effects (R60 to R67, R138, R178). -/

namespace Sys2Proof.Machine

/-! ### Copies (R60 to R63) -/

/-- A frame that is dropped is offered to no port (R60). -/
theorem copiesOf_dropped {d : Disposition} {why : DropReason} (h : d.drop = some why) :
    copiesOf d = [] := by
  simp [copiesOf, h]

/-- A frame that is sent to both ports leaves the mirror port nothing to add (R63). -/
theorem copiesOf_both (c : Fin 4) (m : Option Port) (punt : Bool) :
    copiesOf { dest := { a := true, b := true }, cls := c, mirror := m, punt := punt, drop := none } =
      [{ port := .a, cls := c, mirror := false }, { port := .b, cls := c, mirror := false }] := by
  cases m with
  | none => rfl
  | some p => cases p <;> rfl

/-- A frame that is sent to one port is mirrored to the other where the mirror port names it (R63). -/
theorem copiesOf_only (p : Port) (c : Fin 4) (m : Option Port) (punt : Bool) :
    copiesOf { dest := PortSet.only p, cls := c, mirror := m, punt := punt, drop := none } =
      { port := p, cls := c, mirror := false } ::
        (if m = some (otherPort p) then [{ port := otherPort p, cls := 0, mirror := true }] else []) := by
  cases m with
  | none => cases p <;> rfl
  | some q => cases p <;> cases q <;> rfl

/-! ### What holding a frame and setting a queue change -/

theorem Commons.hold_frames (id : Nat) (x : Commons) :
    (x.hold id).frames =
      x.frames.map fun f => if f.id = id then { f with holders := f.holders + 1 } else f := rfl

@[simp] theorem Commons.hold_pool (id : Nat) (x : Commons) : (x.hold id).pool = x.pool := rfl

@[simp] theorem PortUnit.setQueue_counter (u : PortUnit) (c : Fin 4) (q : ClassQueue) (k : PortCounter) :
    (u.setQueue c q).counter k = u.counter k := rfl

/-! ### Admission to a class queue (R138) -/

theorem State.isUp_eq_true_iff (s : State) (p : Port) : s.isUp p = true ↔ (s.port p).oper = .up := by
  simp [State.isUp]

/-- A copy to a port that is not UP is refused and counted. -/
theorem State.offerCopy_notUp {s : State} (id cells : Nat) {o : CopyOffer}
    (h : (s.port o.port).oper ≠ .up) :
    s.offerCopy id cells o = s.count o.port (if o.mirror then .mirrorDrop else .linkDown) := by
  have hup : s.isUp o.port = false := by simp [State.isUp, h]
  simp [State.offerCopy, refusalCounter, hup]

/-- A copy that would take its queue over the limit is refused and counted. -/
theorem State.offerCopy_full {s : State} (id cells : Nat) {o : CopyOffer}
    (hup : (s.port o.port).oper = .up)
    (hfull : ((s.port o.port).queue o.cls).limit < ((s.port o.port).queue o.cls).occupancy + cells) :
    s.offerCopy id cells o = s.count o.port (if o.mirror then .mirrorDrop else .queueFull) := by
  simp [State.offerCopy, refusalCounter, (s.isUp_eq_true_iff _).2 hup, Nat.not_le.2 hfull]

/-- A copy that fits joins the tail of its queue and holds the frame. -/
theorem State.offerCopy_fits {s : State} (id : Nat) {cells : Nat} {o : CopyOffer}
    (hup : (s.port o.port).oper = .up)
    (hfits : ((s.port o.port).queue o.cls).occupancy + cells ≤ ((s.port o.port).queue o.cls).limit) :
    s.offerCopy id cells o =
      (s.setPort o.port ((s.port o.port).setQueue o.cls
        { (s.port o.port).queue o.cls with
          entries := ((s.port o.port).queue o.cls).entries ++ [{ frame := id, cells := cells }] })).onCommons
        fun _ => Commons.hold id :=
  if_pos ⟨(s.isUp_eq_true_iff _).2 hup, hfits⟩

/-! ### Admission to the punt queue (R64, R178) -/

theorem State.offerPuntEntry_noListener {s : State} (id : Nat) (q : Port)
    (h : s.commons.events.listener = none) :
    s.offerPuntEntry id q = s.count q .puntNoListener := by
  simp only [State.offerPuntEntry, h]

theorem State.offerPuntEntry_full {s : State} (id : Nat) (q : Port) {l : Listener}
    (h : s.commons.events.listener = some l) (hfull : 8 ≤ s.commons.events.puntQueue.length) :
    s.offerPuntEntry id q = s.count q .puntFull := by
  simp only [State.offerPuntEntry, h]
  exact if_neg (Nat.not_lt.2 hfull)

/-- An admitted punt entry joins the tail of the punt queue and holds the frame. -/
theorem State.offerPuntEntry_fits {s : State} (id : Nat) (q : Port) {l : Listener}
    (h : s.commons.events.listener = some l) (hfits : s.commons.events.puntQueue.length < 8) :
    s.offerPuntEntry id q = s.onCommons fun _ x => Commons.hold id { x with events :=
      { x.events with puntQueue := x.events.puntQueue ++ [id] } } := by
  simp only [State.offerPuntEntry, h]
  exact if_pos hfits

/-! ### The disposition that counts (R61) -/

theorem PortSet.isEmpty_iff (d : PortSet) : d.isEmpty = true ↔ d = { a := false, b := false } := by
  obtain ⟨a, b⟩ := d
  cases a <;> cases b <;> decide

/-- A frame neither dropped nor sent anywhere is dropped for NO_DESTINATION, and any other disposition
stays (R61). -/
theorem Disposition.final_eq (d : Disposition) :
    d.final = if d.drop = none ∧ d.dest = { a := false, b := false } then
      { d with drop := some .noDestination } else d := by
  unfold Disposition.final
  cases h : d.drop with
  | some why => simp
  | none => simp [← PortSet.isEmpty_iff]

end Sys2Proof.Machine

namespace Sys2Proof.Settled

open Sys2Proof.Machine

/-- Settles O37: the copies by the destination set, the judgement of each queue by its room, and the disposition
as its definition orders it, with the reason NO_DESTINATION opened. -/
theorem dispositionOffersCopies : Obligations.DispositionOffersCopies := by
  refine ⟨fun dst c m punt why => copiesOf_dropped rfl, fun c m punt =>
    ⟨rfl, copiesOf_both c m punt, copiesOf_only .a c m punt, copiesOf_only .b c m punt⟩,
    fun s id cells o => ⟨State.offerCopy_notUp id cells, State.offerCopy_full id cells,
      fun hup hfits => ?_⟩,
    fun s id q => ⟨State.offerPuntEntry_noListener id q, fun l hl =>
      ⟨State.offerPuntEntry_full id q hl, State.offerPuntEntry_fits id q hl⟩⟩,
    fun s id cells r => ?_⟩
  · rw [State.offerCopy_fits id hup hfits]
    exact ⟨by simp, by simp, by simp, by simp [Commons.hold_frames], by simp⟩
  · dsimp only
    rw [← Disposition.final_eq, State.dispose]
    cases r.disp.final.drop with
    | none => rfl
    | some why => cases why <;> rfl

end Sys2Proof.Settled
end

section
/-! PROOF. The tag prefilter: the bucket of a key (R72), and the outcome for each form of the tag stack, read from the
bytes of the bank (R70, R71, R77). -/

namespace Sys2Proof.Machine

/-! ### The bucket of a key (R72) -/

/-- Rotation left by 3 moves the five low bits up three places and brings the three high bits round. -/
theorem toNat_rotateLeft_three (x : Byte) :
    (x.rotateLeft 3).toNat = 8 * x.toNat % 256 + x.toNat / 32 := by
  have hcarried : x.toNat / 32 < 2 ^ 3 := by omega
  have hmoved : 8 * x.toNat % 256 = (x.toNat % 32) <<< 3 := by
    rw [Nat.shiftLeft_eq]
    omega
  rw [hmoved, Nat.shiftLeft_add_eq_or_of_lt hcarried, ← hmoved, BitVec.toNat_rotateLeft,
    Nat.shiftLeft_eq, Nat.shiftRight_eq_div_pow, Nat.mul_comm 8]

/-- The bucket from the two bytes of the key. -/
theorem bucketOf_append (high low : Byte) : bucketOf (high ++ low) = low ^^^ high.rotateLeft 3 := by
  rw [bucketOf, BitVec.extractLsb'_append_eq_right, BitVec.extractLsb'_append_eq_left]

theorem bucketOf_toNat (k : Word16) :
    (bucketOf k).toNat =
      (k.toNat % 256) ^^^ (8 * (k.toNat / 256) % 256 + k.toNat / 256 / 32) := by
  have hlow : (k.extractLsb' 0 8).toNat = k.toNat % 256 := by simp
  have hhigh : (k.extractLsb' 8 8).toNat = k.toNat / 256 := by
    rw [BitVec.extractLsb'_toNat, Nat.shiftRight_eq_div_pow]
    omega
  rw [bucketOf, BitVec.toNat_xor, toNat_rotateLeft_three, hlow, hhigh]

/-- A key whose high byte is 0 falls in the bucket of its own number. -/
theorem bucketOf_zero_append (n : Byte) : bucketOf (0#8 ++ n) = n := by
  have hrotated : (0#8).rotateLeft 3 = 0#8 := by decide
  rw [bucketOf_append, hrotated, BitVec.xor_zero]

/-! ### The PREFILTER record (R77) -/

theorem pfEnabled_iff (b : Bank) : pfEnabled b = true ↔ b.read 6 = 1#8 := beq_iff_eq

theorem pfWidth12_iff (b : Bank) : pfWidth12 b = true ↔ b.read 7 = 0#8 := beq_iff_eq

theorem pfInnermost_iff (b : Bank) : pfInnermost b = true ↔ b.read 8 = 1#8 := beq_iff_eq

theorem pfKeyZero_iff (b : Bank) : pfKeyZero b = true ↔ b.read 9 = 1#8 := beq_iff_eq

theorem tagClass_eq (t : Word16) : tagClass t = t.toNat / 4096 := by
  rw [tagClass, BitVec.toNat_ushiftRight, Nat.shiftRight_eq_div_pow]

theorem pfEligible_tagClass (b : Bank) (t : Word16) :
    pfEligible b (tagClass t) = (b.u16 10).getLsbD (t.toNat / 4096) := by
  rw [tagClass_eq]
  rfl

/-- The key of a tag under the key width that the bank holds (R71). -/
theorem keyOf_pfWidth12 (b : Bank) (t : Word16) :
    keyOf (pfWidth12 b) t = if b.read 7 = 0#8 then t &&& 0x0FFF#16 else t := by
  simp only [keyOf, pfWidth12_iff]

/-- The tag that the bank selects from a stack of two (R71). -/
theorem selectTag_two (b : Bank) (o i : Word16) :
    selectTag (pfInnermost b) (.two o i) = some (if b.read 8 = 1#8 then i else o) := by
  simp only [selectTag, pfInnermost_iff]

/-- The membership set starts at byte 12 of the bank, 8 buckets in a byte. -/
theorem pfMember_eq (b : Bank) (n : Byte) :
    pfMember b n = (b.read (12 + n.toNat / 8)).getLsbD (n.toNat % 8) := rfl

/-! ### The outcome (R70) -/

theorem lookupKey_eq (b : Bank) (key : Word16) :
    lookupKey b key =
      if (b.read (12 + (bucketOf key).toNat / 8)).getLsbD ((bucketOf key).toNat % 8) = true then .hit
      else .miss := by
  rw [lookupKey, pfMember_eq]

theorem prefilterOutcome_disabled {b : Bank} (h : b.read 6 ≠ 1#8) (tags : TagStack) :
    prefilterOutcome b tags = .bypass :=
  if_neg (mt (pfEnabled_iff b).1 h)

/-- An enabled prefilter treats an empty stack as untagged handling says. -/
theorem prefilterOutcome_empty {b : Bank} (h : b.read 6 = 1#8) :
    prefilterOutcome b .empty = if b.read 9 = 1#8 then lookupKey b 0#16 else .bypass := by
  rw [prefilterOutcome, if_pos ((pfEnabled_iff b).2 h)]
  simp only [selectTag, pfKeyZero_iff]

/-- An enabled prefilter looks up the key of the selected tag when the tag's class is eligible. -/
theorem prefilterOutcome_selected {b : Bank} {tags : TagStack} {t : Word16} (h : b.read 6 = 1#8)
    (hsel : selectTag (pfInnermost b) tags = some t) :
    prefilterOutcome b tags =
      if (b.u16 10).getLsbD (t.toNat / 4096) = true then
        lookupKey b (if b.read 7 = 0#8 then t &&& 0x0FFF#16 else t)
      else .bypass := by
  rw [prefilterOutcome, if_pos ((pfEnabled_iff b).2 h), ← pfEligible_tagClass, ← keyOf_pfWidth12]
  simp only [hsel]

end Sys2Proof.Machine

namespace Sys2Proof.Settled

open Sys2Proof.Machine

/-- Settles O29: the bytes of a key give its bucket's number, and the 256 keys whose high byte is 0 reach every
bucket. -/
theorem bucketOfKey : Obligations.BucketOfKey := by
  refine ⟨bucketOf_toNat, by decide, by decide, by decide, by decide, by decide, by decide,
    fun k hk => ⟨by omega, by omega⟩, fun n => ⟨0#8 ++ n, ?_, bucketOf_zero_append n⟩⟩
  have hkey : (0#8 ++ n).toNat = n.toNat := by
    rw [BitVec.toNat_append]
    simp
  omega

/-- Settles O30: each form of the tag stack by the tag that it selects; the membership bit opens by its address. -/
theorem prefilterOutcomes : Obligations.PrefilterOutcomes := fun b =>
  ⟨lookupKey_eq b, prefilterOutcome_disabled, fun h =>
    ⟨fun hbypass => (prefilterOutcome_empty h).trans (if_neg hbypass),
      fun hkeyZero => (prefilterOutcome_empty h).trans (if_pos hkeyZero),
      fun o i => ⟨prefilterOutcome_selected h rfl, prefilterOutcome_selected h (selectTag_two b o i)⟩⟩⟩

end Sys2Proof.Settled
end

section
/-! PROOF. Observations of the part from behind its ports: what the line, the shared blocks and the endpoint do
leaves every one of them as it was (the operations of R121 to R146 and R152 to R165). -/

namespace Sys2Proof.Machine

/-- The observation `g` sees neither the ports, nor what they share, nor the endpoint, nor which records wait
at the classifier. -/
structure Inward {β : Type} (g : State → β) : Prop where
  ports : ∀ (s : State) (p : Port) (u : PortUnit), g (s.setPort p u) = g s
  shared : ∀ (s : State) (x : Commons) (e : Endpoint), g { s with commons := x, endpoint := e } = g s
  ingress : ∀ (s : State) (p : Port) (ids : List Nat),
    g { s with classifier := s.classifier.setIngress p ids } = g s

/-- What holds of the state that a command answers holds of the next state. -/
theorem holds_of_next {P : State → Prop} {t u : State}
    (h : (Host.Outcome.next u : Host.Outcome State Fault Refusal) = .next t) (hu : P u) : P t := by
  cases h
  exact hu

/-- A command's run leaves the observation `g` as it was. -/
def Run.Keeps {β : Type} (run : Run) (g : State → β) : Prop :=
  ∀ (c : Command) (s : State), g (run c s).1 = g s

theorem needs_keeps {β : Type} {g : State → β} {run : Run} (hrun : run.Keeps g) (n : Nat) :
    (needs n run).Keeps g := by
  intro c s
  unfold needs
  split
  · rfl
  · exact hrun c s

theorem counterRun_keeps {β : Type} {g : State → β} {run : Bool → Run} (hrun : ∀ b, (run b).Keeps g)
    (n : Nat) : (counterRun n run).Keeps g := by
  refine needs_keeps (fun c s => ?_) 3
  split
  · rfl
  · split
    · rfl
    · split
      · rfl
      · exact hrun _ c s

namespace Inward

section
variable {β : Type} {g : State → β} (hg : Inward g)
include hg

/-! ### Shared operations -/

theorem onCommons (s : State) (f : Env → Commons → Commons) : g (s.onCommons f) = g s :=
  hg.shared s _ s.endpoint

theorem setCommons (s : State) (x : Commons) : g { s with commons := x } = g s :=
  hg.shared s x s.endpoint

theorem setEndpoint (s : State) (e : Endpoint) : g { s with endpoint := e } = g s :=
  hg.shared s s.commons e

theorem count (s : State) (p : Port) (k : PortCounter) : g (s.count p k) = g s := hg.ports s p _

theorem post (s : State) (k : EventKind) : g (s.post k) = g s := hg.onCommons s _

theorem release (s : State) (id : Nat) : g (s.release id) = g s := hg.onCommons s _

theorem withSession (s : State) (f : Session → Session) : g (s.withSession f) = g s :=
  hg.setEndpoint s _

theorem restartIdle (s : State) : g s.restartIdle = g s := hg.withSession s _

theorem endSession (s : State) (reason : EndReason) : g (s.endSession reason) = g s := by
  unfold State.endSession
  split
  · exact (hg.post _ _).trans (hg.setEndpoint s _)
  · rfl

/-! ### Ports (R121 to R123) -/

theorem endReceptionForLink (s : State) (p : Port) : g (s.endReceptionForLink p) = g s := by
  unfold State.endReceptionForLink
  split
  · exact ((hg.onCommons _ _).trans (hg.count _ p _)).trans (hg.ports s p _)
  · exact hg.ports s p _
  · rfl

theorem abortForLink (s : State) (p : Port) : g (s.abortForLink p) = g s := by
  have hidle : g ((s.setPort p { s.port p with tx := none }).count p .txAbort) = g s :=
    (hg.count _ p _).trans (hg.ports s p _)
  unfold State.abortForLink
  split
  · dsimp only
    split <;> exact (hg.onCommons _ _).trans hidle
  · rfl

theorem flushQueue (p : Port) (s : State) (c : Fin 4) : g (State.flushQueue p s c) = g s :=
  (foldl_keeps (fun t _ => (hg.release _ _).trans (hg.count t p _)) _ _).trans (hg.ports s p _)

theorem flushForLink (s : State) (p : Port) : g (s.flushForLink p) = g s := by
  have hclasses := foldl_keeps (hg.flushQueue p) [0, 1, 2, 3] s
  have hbuilt : ∀ (t : State) (b : Built), g (State.flushBuilt p t b) = g t := fun t _ =>
    (hg.onCommons _ _).trans (hg.count t p _)
  exact (foldl_keeps hbuilt _ _).trans ((hg.onCommons _ _).trans hclasses)

theorem endSessionForLink (s : State) (p : Port) : g (s.endSessionForLink p) = g s := by
  unfold State.endSessionForLink
  split
  · split
    · exact hg.endSession s .link
    · rfl
  · rfl

theorem leaveUp (s : State) (p : Port) (o : OperState) : g (s.leaveUp p o) = g s := by
  simp only [State.leaveUp, hg.onCommons, hg.endSessionForLink, hg.post, hg.flushForLink,
    hg.abortForLink, hg.endReceptionForLink]

theorem enterUp (s : State) (p : Port) : g (s.enterUp p) = g s := by
  simp only [State.enterUp, hg.onCommons, hg.post]

theorem changePort (s : State) (p : Port) (u : PortUnit) : g (s.changePort p u) = g s := by
  have hset := hg.ports s p u
  unfold State.changePort
  dsimp only
  split
  · exact (hg.leaveUp _ p _).trans hset
  · split
    · exact (hg.enterUp _ p).trans hset
    · exact hset

/-! ### Reception (R124 to R127) -/

theorem discardReception (s : State) (p : Port) (cells : List GeneralCell) (k : PortCounter) :
    g (s.discardReception p cells k) = g s :=
  ((hg.onCommons _ _).trans (hg.count _ p k)).trans (hg.ports s p _)

theorem startReception (s : State) (p : Port) : g (s.startReception p) = g s := by
  unfold State.startReception
  split
  · rfl
  · split
    · split
      · exact hg.discardReception s p _ _
      · exact (hg.onCommons _ _).trans (hg.ports s p _)
    · rfl

theorem receiveByte (p : Port) (s : State) (v : Byte) : g (State.receiveByte p s v) = g s := by
  unfold State.receiveByte
  split
  · split
    · exact hg.discardReception s p _ _
    · split
      · exact hg.ports s p _
      · split
        · exact hg.discardReception s p _ _
        · exact (hg.onCommons _ _).trans (hg.ports s p _)
  · rfl

theorem receiveBytes (s : State) (p : Port) (bytes : List Byte) : g (s.receiveBytes p bytes) = g s :=
  foldl_keeps (hg.receiveByte p) bytes s

theorem abortReception (s : State) (p : Port) : g (s.abortReception p) = g s := by
  unfold State.abortReception
  split
  · exact ((hg.onCommons _ _).trans (hg.count _ p _)).trans (hg.ports s p _)
  · exact hg.ports s p _
  · rfl

theorem offerCommand (s : State) (id : Nat) : g (s.offerCommand id) = g s := by
  unfold State.offerCommand
  split
  · exact hg.setEndpoint s _
  · exact (hg.release _ id).trans (hg.setCommons s _)

theorem offerIngress (s : State) (p : Port) (id : Nat) : g (s.offerIngress p id) = g s := by
  unfold State.offerIngress
  split
  · exact hg.ingress s p _
  · exact (hg.release _ id).trans (hg.count s p _)

theorem routeGood (s : State) (p : Port) (bytes : List Byte) (cells : List GeneralCell) :
    g (s.routeGood p bytes cells) = g s := by
  unfold State.routeGood
  dsimp only
  split
  · rw [hg.offerCommand, hg.count, hg.setCommons]
  · rw [hg.offerIngress, hg.count, hg.setCommons]

theorem endReception (s : State) (p : Port) : g (s.endReception p) = g s := by
  have hnone := hg.ports s p { s.port p with reception := none }
  unfold State.endReception
  split
  · dsimp only
    split
    · exact ((hg.onCommons _ _).trans (hg.count _ p _)).trans hnone
    · exact (hg.routeGood _ p _ _).trans hnone
  · exact hnone
  · rfl

/-! ### Egress (R141 to R144) -/

theorem startCopy (s : State) (p : Port) (c : Fin 4) : g (s.startCopy p c) = g s := by
  unfold State.startCopy
  dsimp only
  split
  · rfl
  · split
    · exact hg.ports s p _
    · rfl

theorem startTransmission (s : State) (p : Port) : g (s.startTransmission p) = g s := by
  unfold State.startTransmission
  split
  · split
    · exact (hg.onCommons _ _).trans (hg.ports s p _)
    · split
      · exact hg.startCopy s p _
      · rfl
  · rfl

theorem endTransmission (s : State) (p : Port) : g (s.endTransmission p) = g s := by
  have hidle := hg.ports s p { s.port p with tx := none }
  unfold State.endTransmission
  split
  · rfl
  · dsimp only
    split <;> exact ((hg.onCommons _ _).trans (hg.count _ p _)).trans hidle

/-! ### Commands at the endpoint (R152 to R165) -/

theorem takeHead (s : State) : g s.takeHead = g s := by
  unfold State.takeHead
  split
  · exact (hg.release _ _).trans (hg.setEndpoint s _)
  · rfl

theorem respond (s : State) (c : Command) (r : Reply) : g (s.respond c r) = g s :=
  (hg.onCommons _ _).trans (hg.setCommons s _)

theorem judge {run : Run} (hrun : run.Keeps g) (s : State) (perm : Command → Permission) (c : Command) :
    g (s.judge perm run c) = g s := by
  have hpermitted : g (s.runPermitted (perm c) run c).1 = g s := by
    unfold State.runPermitted
    split
    · rfl
    · exact hrun c s
  unfold State.judge
  split
  · exact hg.respond s c _
  · split
    · exact (hg.respond _ c _).trans (hg.restartIdle s)
    · refine (hg.respond _ c _).trans ?_
      split
      · exact ((hg.withSession _ _).trans (hg.restartIdle _)).trans hpermitted
      · exact hpermitted

/-- A command row whose run keeps the observation keeps it. -/
theorem takeCommand {run : Run} (hrun : run.Keeps g) (s : State) (takes : Command → Bool)
    (perm : Command → Permission) : g (s.takeCommand takes perm run) = g s := by
  unfold State.takeCommand
  split
  · split
    · exact (hg.judge hrun _ perm _).trans (hg.takeHead s)
    · rfl
  · rfl

theorem discardMalformed (s : State) : g s.discardMalformed = g s := by
  unfold State.discardMalformed
  split
  · split
    · exact (hg.setCommons _ _).trans (hg.takeHead s)
    · rfl
  · rfl

theorem runOpenSession_keeps : runOpenSession.Keeps g := fun c s => by
  unfold runOpenSession
  split
  · exact (hg.post _ _).trans (hg.setEndpoint s _)
  · split
    · exact hg.restartIdle s
    · rfl

theorem runSetListener_keeps : runSetListener.Keeps g :=
  needs_keeps (fun c s => by
    split
    · split
      · exact hg.onCommons s fun e => Commons.replaceListener e _
      · rfl
    · rfl) 3

theorem clearListener (s : State) : g s.clearListener = g s := by
  have hflush : ∀ (t : State) (id : Nat), g (t.flushPunt id) = g t := by
    intro t id
    unfold State.flushPunt
    split
    · exact (hg.release _ id).trans (hg.count t _ _)
    · rfl
  exact (foldl_keeps hflush _ _).trans ((hg.setCommons _ _).trans (hg.onCommons s _))

theorem runAckEvent_keeps : runAckEvent.Keeps g :=
  needs_keeps (fun c s => by
    split
    · exact hg.setCommons s _
    · rfl) 2

theorem runReadTable_keeps : runReadTable.Keeps g :=
  needs_keeps (fun c s => by
    split
    · rfl
    · split
      · rfl
      · dsimp only
        split
        · rfl
        · split
          · rfl
          · unfold State.setCursor
            dsimp only
            split
            · exact hg.withSession s _
            · rfl) 6

theorem runReadNext_keeps : runReadNext.Keeps g := fun c s => by
  unfold runReadNext
  split
  · rfl
  · exact hg.withSession s _

theorem runPort_keeps (clear : Bool) : (runPort clear).Keeps g := fun c s => by
  unfold runPort
  split
  · rfl
  · cases clear
    · rfl
    · exact hg.ports s _ _

theorem runMgmt_keeps (clear : Bool) : (runMgmt clear).Keeps g := fun c s => by
  cases clear
  · rfl
  · exact hg.setCommons s _

/-- Of the settings fallback and verify_period alone lie behind the ports. -/
theorem setSetting {s t : State} {x : Setting} {v : Nat} (h : s.setSetting x v = some t)
    (hfallback : ∀ p f, g { s with classifier := s.classifier.setFallback p f } = g s)
    (hperiod : g { s with verify := s.verify.setPeriod s.classifier.mode v } = g s) : g t = g s := by
  cases x with
  | fallback p =>
    simp only [State.setSetting, State.setFallback] at h
    split at h
    · cases h
      exact hfallback p .pass
    · simp only [Option.ite_none_right_eq_some, Option.some.injEq] at h
      exact h.2 ▸ hfallback p .block
  | _ =>
    simp only [State.setSetting, State.setNodeAddress, State.setSessionTimeout, State.setVerifyPeriod,
      State.setPortEnable, State.setQueueLimit, State.setPoolLowMark, State.setPoolHighMark,
      Option.ite_none_right_eq_some, Option.some.injEq] at h
    simp only [← h.2, hperiod, hg.setEndpoint, hg.restartIdle, hg.changePort, hg.ports, hg.onCommons]

end

end Inward

/-- A RESTART's run leaves the part as it is; the restart comes with its response (R165). -/
theorem runRestart_keeps {β : Type} (g : State → β) : runRestart.Keeps g :=
  needs_keeps (fun c s => by
    split
    · rfl
    · split <;> rfl) 1

theorem runGetSetting_keeps {β : Type} (g : State → β) : runGetSetting.Keeps g :=
  needs_keeps (fun c s => by
    split <;> rfl) 2

end Sys2Proof.Machine
end

section
/-! PROOF. Meters: one reading rule for each operation of the meter block, what a list can do to the tokens, and
that every command keeps every meter within its burst (R78 to R88). -/

namespace Sys2Proof.Machine

open Sys2Proof.Safety

/-! ### The operations of the meter block (R80, R81, R84, R86, R88) -/

theorem meterBurst_eq (b : Bank) (m : Nat) :
    meterBurst b m = min (b.u32 (44 + 6 * m + 2)).toNat 1048575 := rfl

theorem storedRate_eq (b : Bank) (m : Nat) : storedRate b m = (b.u16 (44 + 6 * m)).toNat := rfl

theorem refillMeters_getElem (b : Bank) (ms : Vector Meter 64) (m : Fin 64) :
    (refillMeters b ms)[m] = refillMeter b m.val ms[m] := by
  simp [refillMeters]

theorem fillMeters_getElem (b : Bank) (ms : Vector Meter 64) (m : Fin 64) :
    (fillMeters b ms)[m] = { ms[m] with tokens := meterBurst b m.val } := by
  simp [fillMeters]

theorem reseedMeters_getElem (old new : Bank) (ms : Vector Meter 64) (m : Fin 64) :
    (reseedMeters old new ms)[m] =
      if sameConfig old new m.val then ms[m]
      else { Meter.zero with tokens := meterBurst new m.val } := by
  simp [reseedMeters]

theorem clampMeter_getElem (b : Bank) (i : Nat) (ms : Vector Meter 64) (m : Fin 64) :
    (clampMeter b i ms)[m] =
      if m.val = i then { ms[m] with tokens := min (ms[m]).tokens (meterBurst b i) } else ms[m] := by
  simp [clampMeter]

/-- A clear of the counts keeps the tokens (R87). -/
theorem clearMeters_tokens (ms : Vector Meter 64) (first n : Nat) (m : Fin 64) :
    ((clearMeters ms first n)[m]).tokens = (ms[m]).tokens := by
  simp only [clearMeters, Fin.getElem_fin, Vector.getElem_ofFn]
  split <;> rfl

/-- A meter whose stored configuration is the same in both banks has the same burst in both (R84, R86). -/
theorem meterBurst_of_sameConfig {old new : Bank} {m : Nat} (h : sameConfig old new m = true) :
    meterBurst old m = meterBurst new m := by
  simp only [sameConfig, Bool.and_eq_true, beq_iff_eq] at h
  rw [meterBurst, h.2, meterBurst]

theorem Meter.answer_green {t : Meter} {len : Nat} (h : len ≤ t.tokens) :
    t.answer len = (false, { t with tokens := t.tokens - len, green := satInc t.green }) := if_pos h

theorem Meter.answer_red {t : Meter} {len : Nat} (h : t.tokens < len) :
    t.answer len = (true, { t with red := satInc t.red }) := if_neg (Nat.not_le.mpr h)

/-- No answer adds tokens. -/
theorem Meter.answer_tokens_le (t : Meter) (len : Nat) : (t.answer len).2.tokens ≤ t.tokens := by
  obtain h | h := le_or_gt len t.tokens
  · rw [Meter.answer_green h]
    exact Nat.sub_le _ _
  · rw [Meter.answer_red h]

/-! ### METER (R59, R81) -/

theorem runMeter_record (r : FrameRecord) (ms : Vector Meter 64) (m : Fin 64) :
    (runMeter r ms m).record =
      { r with flags := putFlag r.flags .red ((ms[m]).answer r.rxLen).1 } := rfl

theorem runMeter_meter (r : FrameRecord) (ms : Vector Meter 64) (m : Fin 64) :
    (runMeter r ms m).meters[m] = ((ms[m]).answer r.rxLen).2 := by
  simp [runMeter, stepOn]

theorem runMeter_other (r : FrameRecord) (ms : Vector Meter 64) {m k : Fin 64} (h : k ≠ m) :
    (runMeter r ms m).meters[k] = ms[k] := by
  have hne : m.val ≠ k.val := fun e => h (Fin.ext e.symm)
  simp [runMeter, stepOn, hne]

/-! ### The tokens that a list leaves -/

/-- No meter of `x` holds more tokens than it does in `ms`. -/
def TokensLe (x ms : Vector Meter 64) : Prop := ∀ m : Fin 64, (x[m]).tokens ≤ (ms[m]).tokens

theorem TokensLe.of_eq {x ms : Vector Meter 64} (h : x = ms) : TokensLe x ms := fun m => by rw [h]

theorem TokensLe.trans {x y z : Vector Meter 64} (h : TokensLe x y) (k : TokensLe y z) : TokensLe x z :=
  fun m => (h m).trans (k m)

theorem runMeter_tokensLe (r : FrameRecord) (ms : Vector Meter 64) (m : Fin 64) :
    TokensLe (runMeter r ms m).meters ms := by
  intro k
  by_cases h : k = m
  · subst h
    rw [runMeter_meter]
    exact Meter.answer_tokens_le _ _
  · rw [runMeter_other r ms h]

theorem runHop_meters (r : FrameRecord) (ms : Vector Meter 64) : (runHop r ms).meters = ms := by
  obtain h | h := le_or_gt r.hop.toNat 1
  · rw [runHop_expired ms h]
    rfl
  · rw [runHop_budget_left ms h]
    rfl

theorem runRewrite_meters (r : FrameRecord) (ms : Vector Meter 64) (f : Field) (value mask : Word16) :
    (runRewrite r ms f value mask).meters = ms := by
  cases h : r.field? f with
  | some old => rw [runRewrite_present ms value mask h]; rfl
  | none => rw [runRewrite_absent ms value mask h]; rfl

theorem runCompare_meters (r : FrameRecord) (ms : Vector Meter 64) (f : Field) (value mask : Word16) :
    (runCompare r ms f value mask).meters = ms := by
  cases h : r.field? f with
  | some v => rw [runCompare_present ms value mask h]; rfl
  | none => rw [runCompare_absent ms value mask h]; rfl

/-- METER alone changes a meter, and it adds no tokens. -/
theorem runOp_tokensLe (r : FrameRecord) (ms : Vector Meter 64) (op : StepOp) (value mask : Word16) :
    TokensLe (runOp r ms op value mask).meters ms := by
  cases op with
  | meter m => exact runMeter_tokensLe r ms m
  | rewrite f => exact .of_eq (runRewrite_meters r ms f value mask)
  | hop => exact .of_eq (runHop_meters r ms)
  | compare f => exact .of_eq (runCompare_meters r ms f value mask)
  | pushTag => exact .of_eq (runPush_goes_on r ms value).2
  | popTag => exact .of_eq (runPop_goes_on r ms).2
  | forward | cls | setFlag | clearFlag | mirror | punt | drop => exact .of_eq rfl

theorem examineStep_tokensLe (r : FrameRecord) (ms : Vector Meter 64) (st : ActionStep) :
    TokensLe (examineStep r ms st).meters ms := by
  unfold examineStep
  split
  · split
    · exact runOp_tokensLe r ms _ _ _
    · exact .of_eq rfl
    · exact .of_eq rfl
  · exact .of_eq rfl

theorem runSteps_tokensLe (steps : List ActionStep) (r : FrameRecord) (ms : Vector Meter 64) :
    TokensLe (runSteps steps r ms).2 ms := by
  induction steps generalizing r ms with
  | nil => exact .of_eq rfl
  | cons st rest ih =>
    have hstep := examineStep_tokensLe r ms st
    rw [runSteps]
    split
    · exact hstep
    · exact (ih _ _).trans hstep

theorem runList_tokensLe (b : Bank) (i : Nat) (r : FrameRecord) (ms : Vector Meter 64) :
    TokensLe (runList b i r ms).2 ms := runSteps_tokensLe _ _ _

/-! ### The burst of a meter under a write (R86, R91, R118) -/

/-- The burst of a meter is read from the bytes of its own record. -/
theorem meterBurst_congr {b c : Bank} {m : Nat}
    (h : ∀ k < 6, c.read (44 + 6 * m + k) = b.read (44 + 6 * m + k)) :
    meterBurst c m = meterBurst b m := by
  have hread : ∀ a, 44 + 6 * m ≤ a → a < 44 + 6 * m + 6 → c.read a = b.read a := fun a hlo hhi => by
    simpa [Nat.add_sub_cancel' hlo] using h (a - (44 + 6 * m)) (by omega)
  simp only [meterBurst_eq, Bank.u32, Bank.u16]
  repeat rw [hread _ (by omega) (by omega)]

/-- A record written whole leaves every burst but that of its own meter. -/
theorem meterBurst_setRecords_other (b : Bank) {t : Table} {i : Nat} {content : List Byte} {m : Fin 64}
    (hfits : upsetFits t i content = true) (h : ¬(t = .meters ∧ m.val = i)) :
    meterBurst (b.setRecords t i content) m.val = meterBurst b m.val := by
  simp only [upsetFits, Bool.and_eq_true, decide_eq_true_eq] at hfits
  obtain ⟨hindex, hsize⟩ := hfits
  have hm := m.isLt
  refine meterBurst_congr fun k hk => Bank.read_writeBytes_outside b content ?_
  rw [hsize]
  cases t with
  | meters =>
    have hne : m.val ≠ i := fun e => h ⟨rfl, e⟩
    simp only [recordOffset, tableBase, recordSize]
    omega
  | _ =>
    simp only [recordCount] at hindex
    simp only [recordOffset, tableBase, recordSize]
    omega

/-! ### What the bound depends on -/

/-- The tokens of every meter and the bank that their bursts are read from. -/
def State.metering (s : State) : (Fin 64 → Nat) × Bank :=
  (fun m => (s.meters[m]).tokens, s.tables.activeBank)

/-- The line, the shared blocks and the endpoint hold no meter and no bank. -/
theorem metering_inward : Inward State.metering where
  ports s p u := by cases p <;> rfl
  shared _ _ _ := rfl
  ingress _ _ _ := rfl

end Sys2Proof.Machine

namespace Sys2Proof.Safety

open Sys2Proof.Machine

theorem metersBounded_iff (s : State) :
    MetersBounded s ↔ ∀ m : Fin 64, s.metering.1 m ≤ meterBurst s.metering.2 m.val := Iff.rfl

/-- Whether meters are bounded depends on the tokens and the active bank alone. -/
theorem MetersBounded.of_metering_eq {s t : State} (hs : MetersBounded s)
    (h : t.metering = s.metering) : MetersBounded t := by
  rw [metersBounded_iff, h]
  exact hs

end Sys2Proof.Safety

namespace Sys2Proof.Machine

open Sys2Proof.Safety

/-! ### Classification (R34, R81) -/

theorem State.dispose_metering (s : State) (id cells : Nat) (r : FrameRecord) :
    (s.dispose id cells r).metering = s.metering := by
  simp [State.metering, s.dispose_frame id cells r]

/-- A list that runs on the meters leaves them bounded. -/
theorem metersBounded_of_runList {s t : State} (hs : MetersBounded s) (b : Bank) (i : Nat) (r : FrameRecord)
    (hmeters : t.meters = (runList b i r s.meters).2)
    (htables : t.tables = s.tables) : MetersBounded t := fun m => by
  rw [hmeters, htables]
  exact (runList_tokensLe b i r s.meters m).trans (hs m)

theorem State.classifyNormal_metersBounded {s : State} (hs : MetersBounded s) (f : RxFrame)
    (r0 : FrameRecord) : MetersBounded (s.classifyNormal f r0) := by
  obtain ⟨-, htables, -⟩ := s.classifyNormal_frame f r0
  by_cases h : prefilterDrops s.tables.activeBank r0
  · rw [State.classifyNormal_dropped f h]
    exact hs.of_metering_eq (State.dispose_metering _ _ _ _)
  · cases hn : lookup s.tables.activeBank (screenRecord s.tables.activeBank r0) with
    | some n =>
      obtain ⟨-, -, hmeters, -⟩ := State.classifyNormal_match_effects f h hn
      exact metersBounded_of_runList hs _ _ _ hmeters htables
    | none =>
      obtain ⟨-, -, hmeters, -⟩ := State.classifyNormal_noMatch_effects f h hn
      exact metersBounded_of_runList hs _ _ _ hmeters htables

theorem State.classifyFrame_metersBounded {s : State} (hs : MetersBounded s) (f : RxFrame) :
    MetersBounded (s.classifyFrame f) := by
  unfold State.classifyFrame
  dsimp only
  split
  · exact State.classifyNormal_metersBounded hs f _
  · exact hs.of_metering_eq (State.dispose_metering _ _ _ _)

theorem State.classify_metersBounded {s : State} (hs : MetersBounded s) : MetersBounded s.classify := by
  unfold State.classify
  split
  · exact hs
  · split
    · exact hs
    · rename_i p _ _ _ rest _
      have htaken : MetersBounded
          { s with classifier := { s.classifier.setIngress p rest with lastServed := p } } := hs
      dsimp only
      split
      · exact State.classifyFrame_metersBounded htaken _
      · exact htaken

/-! ### Restarts (R88, R149) -/

theorem Controller.lightRestart_activeBank (c : Controller) :
    c.lightRestart.activeBank = c.activeBank := by
  unfold Controller.lightRestart
  split <;> rfl

/-- After a pin reset or FULL restart every meter is empty (R88). -/
theorem State.afterReset_metersBounded (straps : Straps) (a b : LinkState) (cause : RestartCause)
    (pending : List Instr) :
    MetersBounded { State.afterReset straps a b cause with pending := pending } := fun m => by
  simp [State.afterReset]

/-- A LIGHT restart fills every meter to its burst (R88). -/
theorem State.lightRestart_metersBounded (s : State) : MetersBounded s.lightRestart := by
  have hblocks : MetersBounded s.lightBlocks := fun m => by
    simp only [State.lightBlocks, Controller.lightRestart_activeBank, fillMeters_getElem, Nat.le_refl]
  exact hblocks.of_metering_eq (metering_inward.onCommons _ _)

theorem State.settleRestart_metersBounded {s : State} (hs : MetersBounded s) (straps : Straps) :
    MetersBounded (s.settleRestart straps) := by
  unfold State.settleRestart
  split
  · exact s.lightRestart_metersBounded
  · exact State.afterReset_metersBounded _ _ _ _ _
  · exact hs

/-! ### The table controller (R84, R86, R95, R103, R118) -/

theorem Controller.writeTable_activeBank {c t : Controller} {code : Byte} {start : Nat}
    {body : List Byte} (h : c.writeTable code start body = .written t) : t.activeBank = c.activeBank := by
  unfold Controller.writeTable at h
  split at h
  · cases h
  · split at h
    · cases h
    · split at h
      · cases h
      · split at h
        · cases h
        · cases h
          exact c.setShadow_activeBank _

theorem Controller.commit_activeBank {c t : Controller} {origin : Word16}
    (h : c.commit origin = some t) : t.activeBank = c.activeBank := by
  simp only [Controller.commit, Option.ite_none_right_eq_some, Option.some.injEq] at h
  rw [← h.2]
  rfl

theorem Controller.abortEdit_activeBank {c t : Controller} {mode : Mode}
    (h : c.abortEdit mode = .accepted t) : t.activeBank = c.activeBank := by
  unfold Controller.abortEdit at h
  split at h
  · cases h
  · split at h
    · cases h
    · cases h
      rfl

theorem Controller.copyingStep_activeBank (c : Controller) :
    c.copyingStep.activeBank = c.activeBank := by
  unfold Controller.copyingStep
  split
  · exact c.setShadow_activeBank _
  · rfl

theorem Controller.endCopying_activeBank (c : Controller) :
    c.endCopying.activeBank = c.activeBank := by
  unfold Controller.endCopying
  split <;> rfl

theorem Controller.swapped_activeBank (c : Controller) (signature : Word32) :
    (c.swapped signature).activeBank = c.shadowBank := rfl

theorem Controller.setBank_activeBank (c : Controller) (i : BankId) (b : Bank) :
    (c.setBank i b).activeBank = if i = c.active then b else c.activeBank := by
  obtain ⟨b0, b1, a, g, sg, st, d, o⟩ := c
  cases i <;> cases a <;> rfl

/-- A change of the tables that keeps the active bank keeps what the bound depends on. -/
theorem State.metering_of_activeBank (s : State) {tables : Controller}
    (h : tables.activeBank = s.tables.activeBank) :
    State.metering { s with tables := tables } = s.metering := by
  simp only [State.metering, h]

theorem State.signingStep_metering (s : State) : s.signingStep.metering = s.metering := by
  unfold State.signingStep
  split
  · split
    · exact (metering_inward.post _ _).trans (s.metering_of_activeBank rfl)
    · exact s.metering_of_activeBank rfl
  · rfl

/-- A swap keeps the meters whose configuration stays and fills the others to their new burst (R84). -/
theorem State.swap_metersBounded {s : State} (hs : MetersBounded s) : MetersBounded s.swap := by
  unfold State.swap
  split
  · refine MetersBounded.of_metering_eq (fun m => ?_) (metering_inward.post _ _)
    rw [Controller.swapped_activeBank, reseedMeters_getElem]
    split
    · rename_i hsame
      exact meterBurst_of_sameConfig hsame ▸ hs m
    · exact Nat.le_refl _
  · exact hs

theorem State.verdictFail_metering (s : State) : s.verdictFail.metering = s.metering := by
  unfold State.verdictFail
  split
  · split
    · rfl
    · exact metering_inward.post _ _
  · rfl

/-- An upset of a meter's record lowers its tokens to its new burst, and no other burst changes (R86,
R118). -/
theorem State.storageUpset_metersBounded {s : State} (hs : MetersBounded s) (i : BankId) {t : Table}
    {index : Nat} {content : List Byte} (hfits : upsetFits t index content = true) :
    MetersBounded (s.storageUpset i t index content) := by
  intro m
  simp only [State.storageUpset, Controller.setBank_activeBank]
  by_cases hactive : i = s.tables.active
  · subst hactive
    have hother := meterBurst_setRecords_other s.tables.activeBank (m := m) hfits
    simp only [and_true, if_true]
    split
    · rename_i ht
      rw [clampMeter_getElem]
      split
      · rename_i hm
        rw [← hm]
        exact Nat.min_le_right _ _
      · rename_i hm
        exact (hother fun h => hm h.2).symm ▸ hs m
    · rename_i ht
      exact (hother fun h => ht h.1).symm ▸ hs m
  · simp only [hactive, and_false, if_false]
    exact hs m

/-! ### Commands that change what lies behind the ports -/

/-- The classifier holds no meter and no bank. -/
theorem State.setClassifier_metering (s : State) (c : Classifier) :
    State.metering { s with classifier := c } = s.metering := rfl

theorem runWriteTable_keeps_metering : runWriteTable.Keeps State.metering :=
  needs_keeps (fun c s => by
    split
    case h_5 => exact s.metering_of_activeBank (Controller.writeTable_activeBank ‹_›)
    all_goals rfl) 3

theorem runCommit_keeps_metering : runCommit.Keeps State.metering := fun c s => by
  unfold runCommit
  split
  · exact s.metering_of_activeBank (Controller.commit_activeBank ‹_›)
  · rfl

theorem runAbortEdit_keeps_metering : runAbortEdit.Keeps State.metering := fun c s => by
  unfold runAbortEdit
  split
  · rfl
  · rfl
  · exact s.metering_of_activeBank (Controller.abortEdit_activeBank ‹_›)

theorem runHits_keeps_metering (clear : Bool) : (runHits clear).Keeps State.metering := fun c s => by
  unfold runHits
  split
  · rfl
  · split
    · rfl
    · split
      · rfl
      · cases clear
        · rfl
        · exact s.setClassifier_metering _

/-- A read that clears sets green and red to 0 and keeps the tokens (R87). -/
theorem runMeters_keeps_metering (clear : Bool) : (runMeters clear).Keeps State.metering := fun c s => by
  unfold runMeters
  split
  · rfl
  · cases clear
    · rfl
    · simp only [if_true, State.metering, clearMeters_tokens]

theorem runPrefilter_keeps_metering (clear : Bool) : (runPrefilter clear).Keeps State.metering :=
  fun c s => by cases clear <;> rfl

theorem runIntegrity_keeps_metering (clear : Bool) : (runIntegrity clear).Keeps State.metering :=
  fun c s => by cases clear <;> rfl

theorem runSetSetting_keeps_metering : runSetSetting.Keeps State.metering :=
  needs_keeps (fun c s => by
    split
    · split
      · exact metering_inward.setSetting ‹_› (fun _ _ => s.setClassifier_metering _) rfl
      · rfl
    · rfl) 4

/-! ### Every command -/

/-- A command row whose run keeps the tokens and the active bank keeps the meters bounded. -/
theorem State.takeCommand_metersBounded {s : State} (hs : MetersBounded s) {run : Run}
    (hrun : run.Keeps State.metering) (takes : Command → Bool) (perm : Command → Permission) :
    MetersBounded (s.takeCommand takes perm run) :=
  hs.of_metering_eq (metering_inward.takeCommand hrun s takes perm)

/-- Every command keeps the meters bounded. -/
theorem exec_keeps_metersBounded {i : Instr} {s t : State} (hs : MetersBounded s)
    (h : exec i s = .next t) : MetersBounded t := by
  have hin := metering_inward
  have outward : ∀ {u : State}, u.metering = s.metering → MetersBounded u := hs.of_metering_eq
  cases i with
  | pinReset pins => exact holds_of_next h (State.afterReset_metersBounded _ _ _ _ _)
  | linkPinChange p level =>
    exact holds_of_next h (State.settleRestart_metersBounded (outward (hin.changePort s p _)) _)
  | frameStart p => exact holds_of_next h (outward (hin.startReception s p))
  | receptionCellClaim p bytes => exact holds_of_next h (outward (hin.receiveBytes s p bytes))
  | oversizeCutoff p bytes => exact holds_of_next h (outward (hin.receiveBytes s p bytes))
  | lineAbort p => exact holds_of_next h (outward (hin.abortReception s p))
  | frameEnd p bytes =>
    exact holds_of_next h (outward ((hin.endReception _ p).trans (hin.receiveBytes s p bytes)))
  | classify => exact holds_of_next h (State.classify_metersBounded hs)
  | refill =>
    refine holds_of_next h fun m => ?_
    rw [refillMeters_getElem]
    exact Nat.min_le_left _ _
  | malformedCommand => exact holds_of_next h (outward (hin.discardMalformed s))
  | unknownCommand | discover | readStatus =>
    exact holds_of_next h (State.takeCommand_metersBounded hs (fun _ _ => rfl) _ _)
  | openSession => exact holds_of_next h (State.takeCommand_metersBounded hs hin.runOpenSession_keeps _ _)
  | closeSession =>
    exact holds_of_next h
      (State.takeCommand_metersBounded hs (fun _ t => hin.endSession t .closed) _ _)
  | getSetting => exact holds_of_next h (State.takeCommand_metersBounded hs (runGetSetting_keeps _) _ _)
  | setNodeAddress | setSessionTimeout | setVerifyPeriod | setFallback | setPortEnable | setQueueLimit
  | setPoolLowMark | setPoolHighMark =>
    exact holds_of_next h (State.takeCommand_metersBounded hs runSetSetting_keeps_metering _ _)
  | readTable => exact holds_of_next h (State.takeCommand_metersBounded hs hin.runReadTable_keeps _ _)
  | readNext => exact holds_of_next h (State.takeCommand_metersBounded hs hin.runReadNext_keeps _ _)
  | writeTable =>
    exact holds_of_next h (State.takeCommand_metersBounded hs runWriteTable_keeps_metering _ _)
  | commit => exact holds_of_next h (State.takeCommand_metersBounded hs runCommit_keeps_metering _ _)
  | abortEdit => exact holds_of_next h (State.takeCommand_metersBounded hs runAbortEdit_keeps_metering _ _)
  | readCountersHits =>
    exact holds_of_next h
      (State.takeCommand_metersBounded hs (counterRun_keeps runHits_keeps_metering 7) _ _)
  | readCountersPort =>
    exact holds_of_next h (State.takeCommand_metersBounded hs (counterRun_keeps hin.runPort_keeps 3) _ _)
  | readCountersMeter =>
    exact holds_of_next h
      (State.takeCommand_metersBounded hs (counterRun_keeps runMeters_keeps_metering 7) _ _)
  | readCountersPrefilter =>
    exact holds_of_next h
      (State.takeCommand_metersBounded hs (counterRun_keeps runPrefilter_keeps_metering 3) _ _)
  | readCountersMgmt =>
    exact holds_of_next h (State.takeCommand_metersBounded hs (counterRun_keeps hin.runMgmt_keeps 3) _ _)
  | readCountersIntegrity =>
    exact holds_of_next h
      (State.takeCommand_metersBounded hs (counterRun_keeps runIntegrity_keeps_metering 3) _ _)
  | setListener =>
    exact holds_of_next h (State.takeCommand_metersBounded hs hin.runSetListener_keeps _ _)
  | setListenerNone =>
    exact holds_of_next h (State.takeCommand_metersBounded hs (fun _ t => hin.clearListener t) _ _)
  | ackEvent => exact holds_of_next h (State.takeCommand_metersBounded hs hin.runAckEvent_keeps _ _)
  | restartLight | restartFull =>
    exact holds_of_next h (State.settleRestart_metersBounded
      (State.takeCommand_metersBounded hs (runRestart_keeps _) _ _) _)
  | lightRestart by_ =>
    refine holds_of_next h ?_
    split
    · exact State.lightRestart_metersBounded _
    · exact hs
  | fullRestart by_ straps =>
    refine holds_of_next h ?_
    split
    · exact State.afterReset_metersBounded _ _ _ _ _
    · exact hs
  | sessionIdleExpiry => exact holds_of_next h (outward (hin.endSession s .expired))
  | signingStep => exact holds_of_next h (outward s.signingStep_metering)
  | swap => exact holds_of_next h (State.swap_metersBounded hs)
  | copyingStep =>
    exact holds_of_next h (outward (s.metering_of_activeBank s.tables.copyingStep_activeBank))
  | endOfCopying =>
    exact holds_of_next h (outward (s.metering_of_activeBank s.tables.endCopying_activeBank))
  | verdictPass =>
    refine holds_of_next h ?_
    split <;> exact hs
  | verdictFail => exact holds_of_next h (outward s.verdictFail_metering)
  | storageUpset bank table index content =>
    refine holds_of_next h ?_
    split
    · exact State.storageUpset_metersBounded hs bank ‹_›
    · exact hs
  | reserveGrant =>
    exact holds_of_next h (State.settleRestart_metersBounded (outward (hin.onCommons s _)) _)
  | transmissionStart p => exact holds_of_next h (outward (hin.startTransmission s p))
  | transmissionEnd p =>
    exact holds_of_next h (State.settleRestart_metersBounded (outward (hin.endTransmission s p)) _)
  | mgmtOutAdmit | eventSend | retryTimerExpiry | puntTake | uptimeCount | verifyPeriodExpiry
  | sweepStep => exact holds_of_next h (outward rfl)

end Sys2Proof.Machine

namespace Sys2Proof.Settled

open Sys2Proof.Machine Sys2Proof.Safety

/-- Settles O15: each command keeps every meter within its burst, and an idle step changes nothing. -/
theorem meterTokensStayBounded : Obligations.MeterTokensStayBounded := by
  intro s t hs h
  unfold step at h
  split at h
  · exact holds_of_next h hs
  · rename_i rest _
    exact exec_keeps_metersBounded (s := { s with pending := rest }) hs h

/-- Settles O35: METER by its answer, GREEN with the tokens for the frame and RED without. -/
theorem meterAnswers : Obligations.MeterAnswers := by
  intro r ms m value mask
  have hop : runOp r ms (.meter m) value mask = runMeter r ms m := rfl
  simp only [hop, runMeter_record, runMeter_meter]
  refine ⟨fun h => ?_, fun h => ?_, fun k hk => runMeter_other r ms hk, rfl⟩
  · rw [Meter.answer_green h]
    exact ⟨rfl, rfl⟩
  · rw [Meter.answer_red h]
    exact ⟨rfl, rfl⟩

/-- Settles O45: each meter is refilled from the bytes of its record in the active bank. -/
theorem refillAddsTheRate : Obligations.RefillAddsTheRate := fun s =>
  ⟨refillMeters s.tables.activeBank s.meters, rfl, fun m => by
    rw [refillMeters_getElem, refillMeter, meterBurst_eq, storedRate_eq]⟩

end Sys2Proof.Settled
end

section
/-! PROOF. The table controller, the classifier mode and the verify unit: the ways in which one command can
change them (R31, R92 to R118), and from these the canonical form of the banks, the agreement of mode,
generation and verify state, and what alone changes a bank. -/

namespace Sys2Proof.Machine

open Sys2Proof.Safety

/-! ### What the tables, the mode and the verify unit share -/

/-- The table controller, the classifier mode, and the state and the setting of the verify unit. -/
structure Control where
  tables : Controller
  mode : Mode
  verify : VerifyState
  period : Nat

/-- The control of the part. -/
def State.control (s : State) : Control where
  tables := s.tables
  mode := s.classifier.mode
  verify := s.verify.state
  period := s.verify.period

/-- The line, the shared blocks and the endpoint hold nothing of the control. -/
theorem control_inward : Inward State.control where
  ports s p u := by cases p <;> rfl
  shared _ _ _ := rfl
  ingress s p _ := by cases p <;> rfl

/-- A verify unit that is not STOPPED. -/
abbrev VerifyState.Runs (v : VerifyState) : Prop := v ≠ .stopped

/-- The ways in which one command can change the control. -/
inductive ControlChange : Instr → Control → Control → Prop
  | kept {i c} : ControlChange i c c
  /-- WRITE_TABLE in EDITING (R93, R95). -/
  | written {c code start body tables} (h : c.tables.writeTable code start body = .written tables) :
      ControlChange .writeTable c { c with tables := tables }
  /-- COMMIT (R96). -/
  | committed {i c origin tables} (h : c.tables.commit origin = some tables) :
      ControlChange i c { c with tables := tables }
  /-- ABORT_EDIT (R105). -/
  | aborted {i c tables} (h : c.tables.abortEdit c.mode = .accepted tables) :
      ControlChange i c { c with tables := tables }
  /-- A new verify_period (R112); of the unit `v` only state and setting are held here. -/
  | periodSet {i c} {v : Verify} (hv : v.state = c.verify) (n : Nat) :
      ControlChange i c { c with verify := (v.setPeriod c.mode n).state, period := n }
  /-- A LIGHT restart (R107, R117). -/
  | lightRestart {i c} : ControlChange i c { c with
      tables := c.tables.lightRestart
      verify := if c.mode = .normal ∧ c.period ≠ 0 then .waiting c.period else .stopped }
  /-- SIGNING takes a valid record (R97). -/
  | signed {i c pos check} : ControlChange i c { c with
      tables := { c.tables with state := .signing pos check } }
  /-- SIGNING ends at an invalid record (R100). -/
  | refused {i c} : ControlChange i c { c with
      tables := { c.tables with state := .editing, origin := none } }
  /-- SWAP (R101, R116). -/
  | swapped {c signature} : ControlChange .swap c
      { tables := c.tables.swapped signature
        mode := .normal
        verify := if c.verify = .stopped ∧ c.period = 0 then .stopped else .waiting c.period
        period := c.period }
  /-- COPYING_STEP (R103). -/
  | copied {c} {r : RecordRef} {pos} : ControlChange .copyingStep c { c with
      tables := { c.tables.setShadow (c.tables.shadowBank.setRecords r.table r.index
        (c.tables.activeBank.record r.table r.index)) with state := .copying pos } }
  /-- END_OF_COPYING (R103). -/
  | copyEnded {i c} : ControlChange i c { c with
      tables := { c.tables with state := .editing, dirty := false, origin := none } }
  /-- STORAGE_UPSET (R118). -/
  | upset {c} (bank : BankId) (table : Table) (index : Nat) (content : List Byte) :
      ControlChange (.storageUpset bank table index content) c { c with
        tables := c.tables.setBank bank ((c.tables.bank bank).setRecords table index content) }
  /-- A sweep begins, goes on or passes (R112 to R114). -/
  | swept {i c v} (hc : c.verify.Runs) (hv : v.Runs) : ControlChange i c { c with verify := v }
  /-- A sweep fails (R115). -/
  | failed {i c} (hc : c.verify.Runs) :
      ControlChange i c { c with mode := .faulted, verify := .stopped }

/-- A change by which the control stays as it was. -/
theorem ControlChange.of_eq {i : Instr} {c d : Control} (h : d = c) : ControlChange i c d := by
  rw [h]
  exact .kept

/-! ### Classification (R34) -/

theorem State.dispose_control (s : State) (id cells : Nat) (r : FrameRecord) :
    (s.dispose id cells r).control = s.control := by
  simp [State.control, s.dispose_frame id cells r]

theorem State.classifyFrame_control (s : State) (f : RxFrame) :
    (s.classifyFrame f).control = s.control := by
  unfold State.classifyFrame
  dsimp only
  split
  · obtain ⟨-, htables, hverify, -, hclassifier⟩ :=
      s.classifyNormal_frame f (takeRecord s.tables.generation f.record)
    have hmode := congrArg Classifier.mode hclassifier
    dsimp only at hmode
    simp only [State.control, htables, hverify, hmode]
  · exact s.dispose_control _ _ _

/-- A classification reads the control and leaves it as it was. -/
theorem State.classify_control (s : State) : s.classify.control = s.control := by
  have htaken : ∀ p rest, (s.taken p rest).control = s.control := fun p rest =>
    control_inward.ingress s p rest
  unfold State.classify
  split
  · rfl
  · split
    · rfl
    · dsimp only
      split
      · exact (State.classifyFrame_control _ _).trans (htaken _ _)
      · exact htaken _ _

/-! ### Commands at the endpoint -/

/-- What a command row does to an observation from behind the ports: nothing, or what its run does once the
permission test is passed (R152). -/
theorem Inward.takeCommand_cases {β : Type} {g : State → β} (hg : Inward g) (s : State)
    (takes : Command → Bool) (perm : Command → Permission) (run : Run) :
    g (s.takeCommand takes perm run) = g s ∨
      ∃ f, s.headFrame = some f ∧ s.permissionFails (perm (readCommand f)) (readCommand f) = none ∧
        g (s.takeCommand takes perm run) = g (run (readCommand f) s.takeHead).1 := by
  cases hf : s.headFrame with
  | none => exact .inl (by rw [State.takeCommand_none takes perm run hf])
  | some f =>
    by_cases ht : 4 ≤ (rxPayload f.bytes).length ∧ takes (readCommand f) = true
    case neg => exact .inl (by simp [State.takeCommand, hf, ht])
    obtain ⟨hlen, htakes⟩ := ht
    rw [State.takeCommand_judge takes perm run ⟨hf, hlen⟩ htakes]
    by_cases hversion : (readCommand f).version = 1#8
    case neg =>
      rw [State.judge_version _ _ _ hversion, hg.respond, hg.takeHead]
      exact .inl rfl
    cases hreplay : s.takeHead.replayOf (readCommand f) with
    | some r =>
      refine .inl ?_
      simp only [State.judge, hversion, hreplay, ne_eq, not_true_eq_false, if_false]
      rw [hg.respond, hg.restartIdle, hg.takeHead]
    | none =>
      have hanswered : ∀ (t : State) (r : Reply), g (answered s.takeHead t (readCommand f) r) = g t := by
        intro t r
        unfold answered
        split
        · rw [hg.respond, State.recordOwner, hg.withSession, hg.restartIdle]
        · rw [hg.respond]
      cases hp : s.takeHead.permissionFails (perm (readCommand f)) (readCommand f) with
      | some st =>
        rw [State.judge_refused perm run ⟨hversion, hreplay⟩ hp, hanswered, hg.takeHead]
        exact .inl rfl
      | none =>
        rw [State.judge_permitted perm run ⟨hversion, hreplay⟩ hp, hanswered]
        exact .inr ⟨f, rfl, by simpa using hp, rfl⟩

/-- A row whose run changes the control as a command may, changes it so. -/
theorem State.takeCommand_control {i : Instr} {run : Run}
    (hrun : ∀ c u, ControlChange i (State.control u) (run c u).1.control) (s : State)
    (takes : Command → Bool) (perm : Command → Permission) :
    ControlChange i s.control (s.takeCommand takes perm run).control := by
  obtain h | ⟨f, -, -, h⟩ := control_inward.takeCommand_cases s takes perm run
  · exact .of_eq h
  · rw [h, ← control_inward.takeHead s]
    exact hrun _ _

/-- A row whose run keeps the control keeps it. -/
theorem State.takeCommand_keeps_control {run : Run} (hrun : run.Keeps State.control) {i : Instr}
    (s : State) (takes : Command → Bool) (perm : Command → Permission) :
    ControlChange i s.control (s.takeCommand takes perm run).control :=
  .of_eq (control_inward.takeCommand hrun s takes perm)

/-- A run that changes the control as a command may does so behind its parameter count. -/
theorem needs_control {i : Instr} {run : Run}
    (hrun : ∀ c u, ControlChange i (State.control u) (run c u).1.control) (n : Nat) (c : Command)
    (u : State) : ControlChange i u.control (needs n run c u).1.control := by
  unfold needs
  split
  · exact .kept
  · exact hrun c u

theorem runWriteTable_control (c : Command) (u : State) :
    ControlChange .writeTable u.control (runWriteTable c u).1.control :=
  needs_control (fun c u => by
    split
    case h_5 => exact .written (c := u.control) ‹_›
    all_goals exact .kept) 3 c u

theorem runCommit_control {i : Instr} (c : Command) (u : State) :
    ControlChange i u.control (runCommit c u).1.control := by
  unfold runCommit
  split
  · exact .committed (c := u.control) ‹_›
  · exact .kept

theorem runAbortEdit_control {i : Instr} (c : Command) (u : State) :
    ControlChange i u.control (runAbortEdit c u).1.control := by
  unfold runAbortEdit
  split
  · exact .kept
  · exact .kept
  · exact .aborted (c := u.control) ‹_›

/-- Of the settings verify_period alone changes the control (R112). -/
theorem State.setSetting_control {i : Instr} {u t : State} (x : Setting) (n : Nat)
    (h : u.setSetting x n = some t) : ControlChange i u.control t.control := by
  cases x with
  | verifyPeriod =>
    simp only [State.setSetting, State.setVerifyPeriod, Option.ite_none_right_eq_some,
      Option.some.injEq] at h
    exact h.2 ▸ .periodSet (c := u.control) (v := u.verify) rfl n
  | fallback p =>
    simp only [State.setSetting, State.setFallback] at h
    have hkept : ∀ f, State.control { u with classifier := u.classifier.setFallback p f } = u.control :=
      fun f => by cases p <;> rfl
    split at h
    · cases h
      exact .of_eq (hkept .pass)
    · simp only [Option.ite_none_right_eq_some, Option.some.injEq] at h
      exact .of_eq (h.2 ▸ hkept .block)
  | _ =>
    simp only [State.setSetting, State.setNodeAddress, State.setSessionTimeout, State.setPortEnable,
      State.setQueueLimit, State.setPoolLowMark, State.setPoolHighMark, Option.ite_none_right_eq_some,
      Option.some.injEq] at h
    have hin := control_inward
    refine .of_eq ?_
    simp only [← h.2, hin.setEndpoint, hin.restartIdle, hin.changePort, hin.ports, hin.onCommons]

theorem runSetSetting_control {i : Instr} (c : Command) (u : State) :
    ControlChange i u.control (runSetSetting c u).1.control :=
  needs_control (fun c u => by
    split
    · split
      · exact State.setSetting_control _ _ ‹_›
      · exact .kept
    · exact .kept) 4 c u

/-- Hit counters are no part of the control. -/
theorem State.setCurrent_control (s : State) (hits : Vector HitCounter 512) :
    State.control { s with classifier := { s.classifier with current := hits } } = s.control := rfl

/-- Nor are the meters. -/
theorem State.setMeters_control (s : State) (ms : Vector Meter 64) :
    State.control { s with meters := ms } = s.control := rfl

theorem runHits_keeps_control (clear : Bool) : (runHits clear).Keeps State.control := fun c s => by
  unfold runHits
  split
  · rfl
  · split
    · rfl
    · split
      · rfl
      · cases clear
        · rfl
        · exact s.setCurrent_control _

theorem runMeters_keeps_control (clear : Bool) : (runMeters clear).Keeps State.control := fun c s => by
  unfold runMeters
  split
  · rfl
  · cases clear
    · rfl
    · exact s.setMeters_control _

theorem runPrefilter_keeps_control (clear : Bool) : (runPrefilter clear).Keeps State.control :=
  fun c s => by cases clear <;> rfl

theorem runIntegrity_keeps_control (clear : Bool) : (runIntegrity clear).Keeps State.control :=
  fun c s => by cases clear <;> rfl

/-! ### Restarts (R149, R165) -/

theorem State.lightRestart_control {i : Instr} (s : State) :
    ControlChange i s.control s.lightRestart.control := by
  have hblocks : s.lightRestart.control = s.lightBlocks.control := control_inward.onCommons _ _
  rw [hblocks]
  exact .lightRestart (c := s.control)

/-- A happening changes the control as a command may, or ends in a reset. -/
def Controls (i : Instr) (s t : State) : Prop := ResetFrom s t ∨ ControlChange i s.control t.control

theorem Controls.of_eq {i : Instr} {s t : State} (h : t.control = s.control) : Controls i s t :=
  .inr (.of_eq h)

theorem State.settleRestart_controls {i : Instr} {s t : State} (hsteady : Steady s t)
    (h : t.control = s.control) (straps : Straps) : Controls i s (t.settleRestart straps) := by
  unfold State.settleRestart
  split
  · exact .inr (by rw [← h]; exact t.lightRestart_control)
  · exact .inl (State.fullRestart_becomes hsteady straps)
  · exact .of_eq h

/-- However the response of a RESTART is settled, up to the restart the control stays (R143). -/
theorem State.settling_control (s : State) (by_ : SettledBy) : (s.settling by_).control = s.control := by
  cases by_ with
  | sent p => exact control_inward.endTransmission s p
  | linkFell p => exact control_inward.changePort s p _
  | lostAtOnce => exact control_inward.takeCommand (runRestart_keeps _) s _ _

/-! ### The table controller and the verify unit (R97, R101, R112 to R118) -/

theorem State.signingStep_control {i : Instr} (s : State) :
    ControlChange i s.control s.signingStep.control := by
  unfold State.signingStep
  split
  · split
    · rw [control_inward.post]
      exact .refused (c := s.control)
    · exact .signed (c := s.control)
  · exact .kept

theorem State.swap_control (s : State) : ControlChange .swap s.control s.swap.control := by
  unfold State.swap
  split
  · rw [control_inward.post]
    exact .swapped (c := s.control)
  · exact .kept

theorem copyingStep_control (s : State) :
    ControlChange .copyingStep s.control
      (State.control { s with tables := s.tables.copyingStep }) := by
  unfold Controller.copyingStep
  split
  · exact .copied (c := s.control)
  · exact .kept

theorem endCopying_control {i : Instr} (s : State) :
    ControlChange i s.control (State.control { s with tables := s.tables.endCopying }) := by
  unfold Controller.endCopying
  split
  · exact .copyEnded (c := s.control)
  · exact .kept

theorem startSweep_control {i : Instr} (s : State) :
    ControlChange i s.control (State.control { s with verify := s.verify.startSweep }) := by
  unfold Verify.startSweep
  split
  · rename_i h
    exact .swept (c := s.control) (by simp [State.control, h]) (by simp)
  · exact .kept

theorem sweepStep_control {i : Instr} (s : State) :
    ControlChange i s.control
      (State.control { s with verify := s.verify.sweepStep s.tables.activeBank }) := by
  unfold Verify.sweepStep
  split
  · rename_i h
    exact .swept (c := s.control) (by simp [State.control, h]) (by simp)
  · exact .kept

/-- A unit with a completed sweep is not STOPPED. -/
theorem Verify.runs_of_computed {v : Verify} {w : Word32} (h : v.computed? = some w) :
    v.state.Runs := by
  intro hstopped
  simp [Verify.computed?, hstopped] at h

theorem verdictPass_control {i : Instr} {s : State} {w : Word32} (h : s.verify.computed? = some w) :
    ControlChange i s.control (State.control { s with verify := s.verify.passed }) :=
  .swept (c := s.control) (Verify.runs_of_computed h) (v := .waiting s.verify.period) (by simp)

theorem State.verdictFail_control {i : Instr} (s : State) :
    ControlChange i s.control s.verdictFail.control := by
  unfold State.verdictFail
  split
  · rename_i h
    split
    · exact .kept
    · rw [control_inward.post]
      exact .failed (c := s.control) (Verify.runs_of_computed h)
  · exact .kept

/-! ### Every command -/

/-- Every command changes the control in one of the ways listed or ends in a reset. -/
theorem exec_controls {i : Instr} {s t : State} (h : exec i s = .next t) : Controls i s t := by
  have hin := control_inward
  cases i with
  | pinReset pins => exact holds_of_next h (.inl ⟨pins.straps, pins.aLink, pins.bLink, .power, rfl⟩)
  | linkPinChange p level =>
    exact holds_of_next h
      (State.settleRestart_controls (s.changePort_steady p _) (hin.changePort s p _) _)
  | frameStart p => exact holds_of_next h (.of_eq (hin.startReception s p))
  | receptionCellClaim p bytes | oversizeCutoff p bytes =>
    exact holds_of_next h (.of_eq (hin.receiveBytes s p bytes))
  | lineAbort p => exact holds_of_next h (.of_eq (hin.abortReception s p))
  | frameEnd p bytes =>
    exact holds_of_next h (.of_eq ((hin.endReception _ p).trans (hin.receiveBytes s p bytes)))
  | classify => exact holds_of_next h (.of_eq s.classify_control)
  | malformedCommand => exact holds_of_next h (.of_eq (hin.discardMalformed s))
  | unknownCommand | discover | readStatus =>
    exact holds_of_next h (.inr (s.takeCommand_keeps_control (fun _ _ => rfl) _ _))
  | openSession =>
    exact holds_of_next h (.inr (s.takeCommand_keeps_control hin.runOpenSession_keeps _ _))
  | closeSession =>
    exact holds_of_next h (.inr (s.takeCommand_keeps_control (fun _ u => hin.endSession u .closed) _ _))
  | getSetting => exact holds_of_next h (.inr (s.takeCommand_keeps_control (runGetSetting_keeps _) _ _))
  | setNodeAddress | setSessionTimeout | setVerifyPeriod | setFallback | setPortEnable | setQueueLimit
  | setPoolLowMark | setPoolHighMark =>
    exact holds_of_next h (.inr (State.takeCommand_control runSetSetting_control s _ _))
  | readTable => exact holds_of_next h (.inr (s.takeCommand_keeps_control hin.runReadTable_keeps _ _))
  | readNext => exact holds_of_next h (.inr (s.takeCommand_keeps_control hin.runReadNext_keeps _ _))
  | writeTable => exact holds_of_next h (.inr (State.takeCommand_control runWriteTable_control s _ _))
  | commit => exact holds_of_next h (.inr (State.takeCommand_control runCommit_control s _ _))
  | abortEdit => exact holds_of_next h (.inr (State.takeCommand_control runAbortEdit_control s _ _))
  | readCountersHits =>
    exact holds_of_next h
      (.inr (s.takeCommand_keeps_control (counterRun_keeps runHits_keeps_control 7) _ _))
  | readCountersPort =>
    exact holds_of_next h
      (.inr (s.takeCommand_keeps_control (counterRun_keeps hin.runPort_keeps 3) _ _))
  | readCountersMeter =>
    exact holds_of_next h
      (.inr (s.takeCommand_keeps_control (counterRun_keeps runMeters_keeps_control 7) _ _))
  | readCountersPrefilter =>
    exact holds_of_next h
      (.inr (s.takeCommand_keeps_control (counterRun_keeps runPrefilter_keeps_control 3) _ _))
  | readCountersMgmt =>
    exact holds_of_next h
      (.inr (s.takeCommand_keeps_control (counterRun_keeps hin.runMgmt_keeps 3) _ _))
  | readCountersIntegrity =>
    exact holds_of_next h
      (.inr (s.takeCommand_keeps_control (counterRun_keeps runIntegrity_keeps_control 3) _ _))
  | setListener =>
    exact holds_of_next h (.inr (s.takeCommand_keeps_control hin.runSetListener_keeps _ _))
  | setListenerNone =>
    exact holds_of_next h (.inr (s.takeCommand_keeps_control (fun _ u => hin.clearListener u) _ _))
  | ackEvent => exact holds_of_next h (.inr (s.takeCommand_keeps_control hin.runAckEvent_keeps _ _))
  | restartLight | restartFull =>
    exact holds_of_next h (State.settleRestart_controls (s.takeCommand_steady runRestart_steady _ _)
      (hin.takeCommand (runRestart_keeps _) s _ _) _)
  | lightRestart by_ =>
    refine holds_of_next h ?_
    split
    · exact .inr (by rw [← s.settling_control by_]; exact State.lightRestart_control _)
    · exact .inr .kept
  | fullRestart by_ straps =>
    refine holds_of_next h ?_
    split
    · exact .inl (State.fullRestart_becomes (s.settling_steady by_) straps)
    · exact .inr .kept
  | sessionIdleExpiry => exact holds_of_next h (.of_eq (hin.endSession s .expired))
  | signingStep => exact holds_of_next h (.inr s.signingStep_control)
  | swap => exact holds_of_next h (.inr s.swap_control)
  | copyingStep => exact holds_of_next h (.inr (copyingStep_control s))
  | endOfCopying => exact holds_of_next h (.inr (endCopying_control s))
  | verifyPeriodExpiry => exact holds_of_next h (.inr (startSweep_control s))
  | sweepStep => exact holds_of_next h (.inr (sweepStep_control s))
  | verdictPass =>
    refine holds_of_next h (.inr ?_)
    split
    · exact verdictPass_control ‹_›
    · exact .kept
  | verdictFail => exact holds_of_next h (.inr s.verdictFail_control)
  | storageUpset bank table index content =>
    refine holds_of_next h (.inr ?_)
    split
    · exact .upset (c := s.control) bank table index content
    · exact .kept
  | reserveGrant =>
    exact holds_of_next h (State.settleRestart_controls
      ((Steady.refl s).onCommons fun e _ => Commons.arbiter_fits e) (hin.onCommons s _) _)
  | transmissionStart p => exact holds_of_next h (.of_eq (hin.startTransmission s p))
  | transmissionEnd p =>
    exact holds_of_next h
      (State.settleRestart_controls (s.endTransmission_steady p) (hin.endTransmission s p) _)
  | refill => exact holds_of_next h (.of_eq (s.setMeters_control _))
  | mgmtOutAdmit | eventSend | retryTimerExpiry | puntTake =>
    exact holds_of_next h (.of_eq (hin.onCommons s _))
  | uptimeCount => exact holds_of_next h (.of_eq (hin.setEndpoint s _))

/-! ### What the controller's operations do to it (R93 to R107) -/

/-- A WRITE_TABLE that is written finds EDITING, and stores records of one table in the shadow bank. -/
theorem Controller.writeTable_written {c t : Controller} {code : Byte} {start : Nat} {body : List Byte}
    (h : c.writeTable code start body = .written t) :
    c.state = .editing ∧
      ∃ table, t = { c.setShadow (c.shadowBank.setRecords table start body) with dirty := true } := by
  unfold Controller.writeTable at h
  split at h
  · cases h
  · rename_i hstate
    split at h
    · cases h
    · rename_i table _
      split at h
      · cases h
      · split at h
        · cases h
        · cases h
          exact ⟨Decidable.not_not.mp hstate, table, rfl⟩

theorem Controller.commit_some {c t : Controller} {origin : Word16} (h : c.commit origin = some t) :
    t = { c with state := .signing (some firstRecord) checkInit, origin := some origin } := by
  simp only [Controller.commit, Option.ite_none_right_eq_some, Option.some.injEq] at h
  exact h.2.symm

theorem Controller.abortEdit_accepted {c t : Controller} {mode : Mode}
    (h : c.abortEdit mode = .accepted t) : t = { c with state := .copying (some firstRecord) } := by
  unfold Controller.abortEdit at h
  split at h
  · cases h
  · split at h <;> cases h
    rfl

theorem Controller.lightRestart_eq (c : Controller) :
    ∃ dirty, c.lightRestart = { c with state := .editing, dirty := dirty, origin := none } := by
  unfold Controller.lightRestart
  split
  · rename_i hstate
    exact ⟨c.dirty, by rw [← hstate]⟩
  · exact ⟨true, rfl⟩

/-! ### Canonical banks (R89) -/

/-- Both banks are in canonical form. -/
def Controller.Canonical (c : Controller) : Prop := ∀ i, (c.bank i).wf = true

theorem banksCanonical_iff (s : State) : BanksCanonical s ↔ s.tables.Canonical :=
  ⟨fun ⟨h0, h1⟩ i => by cases i <;> assumption, fun h => ⟨h .bank0, h .bank1⟩⟩

theorem Controller.Canonical.setBank {c : Controller} (hc : c.Canonical) (i : BankId) {b : Bank}
    (hb : b.wf = true) : (c.setBank i b).Canonical := by
  intro j
  by_cases hj : j = i
  · rw [hj, Controller.setBank_bank]
    exact hb
  · have hother : j = otherBank i := by cases i <;> cases j <;> simp_all [otherBank]
    rw [hother, Controller.setBank_other]
    exact hc _

/-- Every change of the control keeps the banks canonical. -/
theorem ControlChange.canonical {i : Instr} {c d : Control} (h : ControlChange i c d)
    (hc : c.tables.Canonical) : d.tables.Canonical := by
  have hshadow : ∀ {b : Bank}, b.wf = true → (c.tables.setShadow b).Canonical := hc.setBank _
  cases h with
  | kept | periodSet | signed | refused | swapped | copyEnded | swept | failed => exact hc
  | written h =>
    obtain ⟨-, table, rfl⟩ := Controller.writeTable_written h
    exact hshadow (Bank.wf_setRecords _ _ _ (hc _))
  | committed h => exact Controller.commit_some h ▸ hc
  | aborted h => exact Controller.abortEdit_accepted h ▸ hc
  | lightRestart =>
    obtain ⟨_, h⟩ := c.tables.lightRestart_eq
    exact h ▸ hc
  | copied => exact hshadow (Bank.wf_setRecords _ _ _ (hc _))
  | upset bank table index content => exact hc.setBank bank (Bank.wf_setRecords _ _ _ (hc bank))

/-! ### Mode, generation and verify state (R90, R92, R111) -/

/-- The generation is 0 exactly in UNLOADED, with signature 0 there; the verify unit is STOPPED exactly outside
NORMAL or with period 0; in EDITING no origin is pending. -/
structure Control.Agrees (c : Control) : Prop where
  generation : c.tables.generation = 0#16 ↔ c.mode = .unloaded
  signature : c.mode = .unloaded → c.tables.signature = 0#32
  verify : c.verify = .stopped ↔ (c.mode ≠ .normal ∨ c.period = 0)
  origin : c.tables.state = .editing → c.tables.origin = none

theorem modesAgree_iff (s : State) : ModesAgree s ↔ s.control.Agrees :=
  ⟨fun ⟨hg, hs, hv, ho⟩ => ⟨hg, hs, hv, ho⟩, fun ⟨hg, hs, hv, ho⟩ => ⟨hg, hs, hv, ho⟩⟩

/-- No pending generation is 0 (R90). -/
theorem pendingGeneration_ne_zero (g : Word16) : pendingGeneration g ≠ 0#16 := by
  unfold pendingGeneration
  split
  · decide
  · bv_omega

/-- A unit that runs stands in NORMAL with a period, so the generation is not 0. -/
theorem Control.Agrees.of_runs {c : Control} (hc : c.Agrees) (hruns : c.verify.Runs) :
    c.mode = .normal ∧ c.period ≠ 0 ∧ c.tables.generation ≠ 0#16 := by
  have hnot : ¬(c.mode ≠ .normal ∨ c.period = 0) := fun h => hruns (hc.verify.mpr h)
  push Not at hnot
  obtain ⟨hmode, hperiod⟩ := hnot
  exact ⟨hmode, hperiod, fun h => by simpa [hmode] using hc.generation.mp h⟩

/-- A change of the controller that keeps generation and signature, and holds no origin in EDITING. -/
theorem Control.Agrees.setTables {c : Control} (hc : c.Agrees) {tables : Controller}
    (hgeneration : tables.generation = c.tables.generation)
    (hsignature : tables.signature = c.tables.signature)
    (horigin : tables.state = .editing → tables.origin = none) :
    Control.Agrees { c with tables := tables } where
  generation := by simpa [hgeneration] using hc.generation
  signature := by simpa [hsignature] using hc.signature
  verify := hc.verify
  origin := horigin

/-- A new verify_period stops the unit at 0 and starts it in NORMAL (R112). -/
theorem Verify.setPeriod_stopped_iff {v : Verify} {mode : Mode}
    (hv : v.state ≠ .stopped → mode = .normal) (n : Nat) :
    (v.setPeriod mode n).state = .stopped ↔ (mode ≠ .normal ∨ n = 0) := by
  unfold Verify.setPeriod
  by_cases hn : n = 0
  · simp [hn]
  · cases hstate : v.state with
    | stopped => by_cases hmode : mode = .normal <;> simp [hn, hmode]
    | _ => simp [hn, hv (by simp [hstate])]

/-- Every change of the control keeps it in agreement. -/
theorem ControlChange.agrees {i : Instr} {c d : Control} (h : ControlChange i c d) (hc : c.Agrees) :
    d.Agrees := by
  cases h with
  | kept => exact hc
  | written h =>
    obtain ⟨hstate, table, rfl⟩ := Controller.writeTable_written h
    exact hc.setTables (by simp) (by simp) fun _ => by simpa using hc.origin hstate
  | committed h => exact Controller.commit_some h ▸ hc.setTables rfl rfl nofun
  | aborted h => exact Controller.abortEdit_accepted h ▸ hc.setTables rfl rfl nofun
  | periodSet hv n =>
    refine ⟨hc.generation, hc.signature, Verify.setPeriod_stopped_iff (fun h => ?_) n, hc.origin⟩
    exact (hc.of_runs (hv ▸ h)).1
  | lightRestart =>
    obtain ⟨_, h⟩ := c.tables.lightRestart_eq
    rw [h]
    refine ⟨hc.generation, hc.signature, ?_, fun _ => rfl⟩
    by_cases hmode : c.mode = .normal <;> by_cases hperiod : c.period = 0 <;> simp [hmode, hperiod]
  | signed => exact hc.setTables rfl rfl nofun
  | refused | copyEnded => exact hc.setTables rfl rfl fun _ => rfl
  | swapped =>
    have hgeneration := pendingGeneration_ne_zero c.tables.generation
    have hstopped : c.period = 0 → c.verify = .stopped := fun h => hc.verify.mpr (.inr h)
    refine ⟨by simpa [Controller.swapped] using hgeneration, nofun, ?_, nofun⟩
    by_cases hperiod : c.period = 0
    · simp [hperiod, hstopped]
    · simp [hperiod]
  | copied => exact hc.setTables (by simp) (by simp) nofun
  | upset => exact hc.setTables (by simp) (by simp) (by simpa using hc.origin)
  | swept hruns hv =>
    obtain ⟨hmode, hperiod, -⟩ := hc.of_runs hruns
    exact ⟨hc.generation, hc.signature, by simp [hv, hmode, hperiod], hc.origin⟩
  | failed hruns =>
    obtain ⟨-, -, hgeneration⟩ := hc.of_runs hruns
    exact ⟨by simpa using hgeneration, nofun, by simp, hc.origin⟩

/-! ### What changes a bank (R89, R93, R103, R118) -/

/-- Beside a swap and an upset every change of the control keeps the roles and the active bank, and only
COPYING_STEP and WRITE_TABLE in EDITING change the shadow bank. -/
theorem ControlChange.banks {i : Instr} {c d : Control} (h : ControlChange i c d) (hswap : i ≠ .swap)
    (hupset : ∀ b tb n content, i ≠ .storageUpset b tb n content) :
    d.tables.active = c.tables.active ∧ d.tables.activeBank = c.tables.activeBank ∧
      (d.tables.shadowBank ≠ c.tables.shadowBank →
        i = .copyingStep ∨ (i = .writeTable ∧ c.tables.state = .editing)) := by
  cases h with
  | kept | periodSet | signed | refused | copyEnded | swept | failed =>
    exact ⟨rfl, rfl, fun h => absurd rfl h⟩
  | written h =>
    obtain ⟨hstate, table, rfl⟩ := Controller.writeTable_written h
    exact ⟨Controller.setShadow_active _ _, Controller.setShadow_activeBank _ _,
      fun _ => .inr ⟨rfl, hstate⟩⟩
  | committed h => exact Controller.commit_some h ▸ ⟨rfl, rfl, fun h => absurd rfl h⟩
  | aborted h => exact Controller.abortEdit_accepted h ▸ ⟨rfl, rfl, fun h => absurd rfl h⟩
  | lightRestart =>
    obtain ⟨_, h⟩ := c.tables.lightRestart_eq
    exact h ▸ ⟨rfl, rfl, fun h => absurd rfl h⟩
  | swapped => exact absurd rfl hswap
  | copied =>
    exact ⟨Controller.setShadow_active _ _, Controller.setShadow_activeBank _ _, fun _ => .inl rfl⟩
  | upset bank table index content => exact absurd rfl (hupset bank table index content)

/-- A WRITE_TABLE that changes anything of the control is the session owner's (R155). -/
theorem owner_of_writeTable_changes {s t : State} (h : exec .writeTable s = .next t)
    (hchanged : t.control ≠ s.control) :
    ∃ f, s.headFrame = some f ∧ s.isOwner (readCommand f) = true := by
  cases h
  obtain hkept | ⟨f, hf, hpermitted, -⟩ :=
    control_inward.takeCommand_cases s (hasCode 8#8) (always .owner) runWriteTable
  · exact absurd hkept hchanged
  · refine ⟨f, hf, ?_⟩
    by_contra hnot
    simp only [always, State.permissionFails, hnot, if_false] at hpermitted
    split at hpermitted <;> cases hpermitted

end Sys2Proof.Machine

namespace Sys2Proof.Settled

open Sys2Proof.Machine Sys2Proof.Safety

/-- Settles O7: each way in which a command changes the tables keeps both banks canonical, a reset clears them,
and an idle step changes nothing. -/
theorem banksStayCanonical : Obligations.BanksStayCanonical := by
  intro s t hs h
  unfold step at h
  split at h
  · exact holds_of_next h hs
  · obtain ⟨straps, a, b, cause, rfl⟩ | hchange := exec_controls h
    · exact State.reset_banks_wf
    · rw [banksCanonical_iff] at hs ⊢
      exact hchange.canonical hs

/-- Settles O14: each way in which a command changes mode, generation, verify state or origin keeps them in
agreement, and the values of a reset agree. -/
theorem modesStayConsistent : Obligations.ModesStayConsistent := by
  intro s t hs h
  unfold step at h
  split at h
  · exact holds_of_next h hs
  · obtain ⟨straps, a, b, cause, rfl⟩ | hchange := exec_controls h
    · simp [ModesAgree, State.afterReset, Controller.afterReset, Classifier.afterReset,
        Verify.afterReset]
    · rw [modesAgree_iff] at hs ⊢
      exact hchange.agrees hs

/-- Settles O22: beside a swap, an upset and a reset, the changes of the tables leave the active bank, and the
shadow bank but for the copy-back and a WRITE_TABLE, which passed the permission test. -/
theorem banksChangeOnlyBy : Obligations.BanksChangeOnlyBy := by
  intro i s t h hswap hupset hreset
  obtain ⟨straps, a, b, cause, rfl⟩ | hchange := exec_controls h
  · exact absurd rfl (hreset straps a b cause)
  obtain ⟨hactive, hbank, hshadow⟩ := hchange.banks hswap hupset
  refine ⟨hactive, hbank, fun hchanged => ?_⟩
  obtain hcopy | ⟨rfl, hediting⟩ := hshadow hchanged
  · exact .inl hcopy
  · have hcontrol : t.control ≠ s.control := fun e =>
      hchanged (congrArg (fun c => c.tables.shadowBank) e)
    exact .inr ⟨rfl, hediting, owner_of_writeTable_changes h hcontrol⟩

end Sys2Proof.Settled
end

section
/-! PROOF. Whole sweeps of a bank: an induction over its 834 records in serialization order, a signing that signs
the serialized bytes and a copy-back that makes the banks alike (R5, R89, R91, R97, R103). -/

namespace Sys2Proof.Machine

/-! ### Serialization order (R91) -/

/-- The sweep position once `n` records of a table have been taken: the next one, or the first of the table that
follows. -/
def positionIn (t : Table) (n : Nat) : Option RecordRef :=
  if n < recordCount t then some { table := t, index := n }
  else (nextTable t).map fun t' => { table := t', index := 0 }

theorem nextRecord_eq_positionIn (t : Table) (i : Nat) :
    nextRecord { table := t, index := i } = positionIn t (i + 1) := rfl

theorem positionIn_of_lt {t : Table} {n : Nat} (h : n < recordCount t) :
    positionIn t n = some { table := t, index := n } := if_pos h

/-- Records of a table follow one another without a gap. -/
theorem recordOffset_succ (t : Table) (i : Nat) :
    recordOffset t (i + 1) = recordOffset t i + recordSize t := by
  simp only [recordOffset, Nat.mul_succ, Nat.add_assoc]

theorem repeat_add {α : Type} (f : α → α) (m n : Nat) (x : α) :
    Nat.repeat f (m + n) x = Nat.repeat f n (Nat.repeat f m x) := by
  induction n with
  | zero => rfl
  | succ n ih => exact congrArg f ih

section
variable {σ : Type} {f : σ → σ} {Inv : Option RecordRef → Nat → σ → Prop}

/-- What one step keeps, from a record with its bytes taken to the next position, holds after `n` records of a
table; the number counts the serialized bytes that have been taken. -/
theorem tableSweep
    (hstep : ∀ t i x, i < recordCount t → Inv (some { table := t, index := i }) (recordOffset t i) x →
      Inv (nextRecord { table := t, index := i }) (recordOffset t i + recordSize t) (f x))
    {t : Table} {x : σ} (hx : Inv (some { table := t, index := 0 }) (recordOffset t 0) x) {n : Nat}
    (hn : n ≤ recordCount t) : Inv (positionIn t n) (recordOffset t n) (Nat.repeat f n x) := by
  induction n with
  | zero =>
    have hpos : 0 < recordCount t := by cases t <;> decide
    rw [positionIn_of_lt hpos]
    exact hx
  | succ n ih =>
    have htaken := ih (Nat.le_of_succ_le hn)
    rw [positionIn_of_lt hn] at htaken
    rw [recordOffset_succ, ← nextRecord_eq_positionIn]
    exact hstep t n _ hn htaken

/-- What one step keeps holds after the 834 records of the bank, which are its 31,404 bytes. -/
theorem bankSweep
    (hstep : ∀ t i x, i < recordCount t → Inv (some { table := t, index := i }) (recordOffset t i) x →
      Inv (nextRecord { table := t, index := i }) (recordOffset t i + recordSize t) (f x))
    {x : σ} (hx : Inv (some firstRecord) 0 x) : Inv none 31404 (Nat.repeat f 834 x) := by
  have hprefilter := tableSweep hstep (t := .policy) hx (Nat.le_refl 1)
  have hmeters := tableSweep hstep (t := .prefilter) hprefilter (Nat.le_refl 1)
  have hactions := tableSweep hstep (t := .meters) hmeters (Nat.le_refl 64)
  have hrules := tableSweep hstep (t := .actions) hactions (Nat.le_refl 256)
  have hend := tableSweep hstep (t := .rules) hrules (Nat.le_refl 512)
  rw [← repeat_add, ← repeat_add, ← repeat_add, ← repeat_add] at hend
  exact hend

end

/-! ### Signing (R5, R97) -/

theorem Bank.readBytes_append (b : Bank) (a m n : Nat) :
    b.readBytes a (m + n) = b.readBytes a m ++ b.readBytes (a + m) n := by
  simp [Bank.readBytes, List.range_add, Nat.add_assoc]

theorem checkBytes_append (c : Word32) (l m : List Byte) :
    checkBytes c (l ++ m) = checkBytes (checkBytes c l) m := List.foldl_append

/-- The serialized bytes up to a record, and that record. -/
theorem Bank.serialized_upto_record (b : Bank) (t : Table) (i : Nat) :
    b.readBytes 0 (recordOffset t i + recordSize t) =
      b.readBytes 0 (recordOffset t i) ++ b.record t i := by
  rw [Bank.readBytes_append, Nat.zero_add]
  rfl

/-- A signing step takes a valid record into the check computation. -/
theorem State.signingStep_valid {s : State} {r : RecordRef} {check : Word32}
    (hstate : s.tables.state = .signing (some r) check)
    (hvalid : validateRecord s.tables.shadowBank r = none) :
    s.signingStep = { s with tables := { s.tables with
      state := .signing (nextRecord r)
        (checkBytes check (s.tables.shadowBank.record r.table r.index)) } } := by
  simp [State.signingStep, hstate, hvalid]

/-- The part `s` with its signing at a position, once `n` serialized bytes have been taken. -/
def State.signedUpto (s : State) (pos : Option RecordRef) (n : Nat) : State :=
  { s with tables := { s.tables with
      state := .signing pos (checkBytes checkInit (s.tables.shadowBank.readBytes 0 n)) } }

theorem State.signingStep_signedUpto {s : State} {t : Table} {i : Nat}
    (hvalid : validateRecord s.tables.shadowBank { table := t, index := i } = none) :
    (s.signedUpto (some { table := t, index := i }) (recordOffset t i)).signingStep =
      s.signedUpto (nextRecord { table := t, index := i }) (recordOffset t i + recordSize t) := by
  rw [State.signingStep_valid (s := s.signedUpto _ _) rfl hvalid, State.signedUpto, State.signedUpto,
    Bank.serialized_upto_record, checkBytes_append]
  rfl

/-! ### Copying (R89, R103) -/

/-- A copying step stores the active bank's record in the shadow bank. -/
theorem Controller.copyingStep_copies {c : Controller} {r : RecordRef}
    (hstate : c.state = .copying (some r)) :
    c.copyingStep = { c.setShadow
      (c.shadowBank.setRecords r.table r.index (c.activeBank.record r.table r.index)) with
        state := .copying (nextRecord r) } := by
  simp [Controller.copyingStep, hstate]

theorem Controller.copyingStep_shadowBank {c : Controller} {r : RecordRef}
    (hstate : c.state = .copying (some r)) :
    c.copyingStep.shadowBank =
      c.shadowBank.setRecords r.table r.index (c.activeBank.record r.table r.index) := by
  rw [Controller.copyingStep_copies hstate]
  exact c.setShadow_shadowBank _

theorem Bank.byteAt_record (b : Bank) (t : Table) (i : Nat) {k : Nat} (hk : k < recordSize t) :
    byteAt (b.record t i) k = b.read (recordOffset t i + k) := by
  simp [byteAt, Bank.record, Bank.readBytes, hk]

/-- A bank that takes a record of another holds that record's bytes, and its own elsewhere. -/
theorem Bank.read_copyRecord {b : Bank} (source : Bank) (t : Table) (i a : Nat) (hb : b.wf = true) :
    (b.setRecords t i (source.record t i)).read a =
      if recordOffset t i ≤ a ∧ a < recordOffset t i + recordSize t then source.read a else b.read a := by
  split
  · rename_i h
    obtain ⟨k, rfl⟩ := Nat.exists_eq_add_of_le h.1
    have hk : k < recordSize t := by omega
    rw [Bank.setRecords, Bank.read_writeBytes _ k _ hb (by simpa using hk), Bank.byteAt_record _ _ _ hk]
  · rename_i h
    refine Bank.read_writeBytes_outside b _ ?_
    rw [Bank.length_record]
    omega

/-- The controller `d` copies from the active bank of `c`, and `n` serialized bytes have been copied. -/
structure CopiedUpto (c : Controller) (pos : Option RecordRef) (n : Nat) (d : Controller) : Prop where
  state : d.state = .copying pos
  canonical : d.Canonical
  activeBank : d.activeBank = c.activeBank
  copied : ∀ a < n, d.shadowBank.read a = c.activeBank.read a

theorem CopiedUpto.copyingStep {c d : Controller} {t : Table} {i : Nat}
    (h : CopiedUpto c (some { table := t, index := i }) (recordOffset t i) d) :
    CopiedUpto c (nextRecord { table := t, index := i }) (recordOffset t i + recordSize t)
      d.copyingStep := by
  have hshadow : d.shadowBank.wf = true := h.canonical _
  have hstep := Controller.copyingStep_copies h.state
  refine ⟨hstep ▸ rfl, ?_, d.copyingStep_activeBank.trans h.activeBank, fun a ha => ?_⟩
  · rw [hstep]
    exact h.canonical.setBank _ (Bank.wf_setRecords _ _ _ hshadow)
  · have hread := Bank.read_copyRecord d.activeBank t i a hshadow
    rw [Controller.copyingStep_shadowBank h.state, hread, h.activeBank]
    split
    · rfl
    · exact h.copied a (by omega)

end Sys2Proof.Machine

namespace Sys2Proof.Settled

open Sys2Proof.Machine Sys2Proof.Safety

/-- Settles O25: each step takes the next record's bytes, over the 834 records of the bank. -/
theorem signingSignsTheSerializedBank : Obligations.SigningSignsTheSerializedBank := by
  intro s hstate hvalid
  have hstart : s = s.signedUpto (some firstRecord) 0 := by
    show s = { s with tables := { s.tables with
      state := .signing (some { table := .policy, index := 0 }) 0xFFFFFFFF#32 } }
    rw [← hstate]
  refine bankSweep (f := State.signingStep) (Inv := fun pos n x => x = s.signedUpto pos n) ?_ hstart
  rintro t i _ hi rfl
  exact State.signingStep_signedUpto (hvalid t i hi)

/-- Settles O28: each step makes the next record's bytes alike, over the 834 records of the bank. -/
theorem copyingEqualizesBanks : Obligations.CopyingEqualizesBanks := by
  intro c hstate h0 h1
  have hstart : CopiedUpto c (some firstRecord) 0 c :=
    ⟨hstate, fun i => by cases i <;> assumption, rfl, nofun⟩
  obtain ⟨hend, -, hactive, hcopied⟩ :=
    bankSweep (f := Controller.copyingStep) (fun _ _ _ _ h => h.copyingStep) hstart
  exact ⟨hend, hactive, hcopied⟩

end Sys2Proof.Settled
end

section
/-! PROOF. The controller step by step: the swap, the records that signing finds valid, table by table from their
stored bytes, and the steps of signing and copying (R97 to R103). -/

namespace Sys2Proof.Machine

open Sys2Proof.Safety

/-! ### The swap (R84, R101) -/

/-- The part at the swap, before COMMIT_DONE is posted. -/
def State.swapBlocks (s : State) (signature : Word32) : State :=
  { s with
    tables := s.tables.swapped signature
    classifier := s.classifier.swapped
    meters := reseedMeters s.tables.activeBank s.tables.shadowBank s.meters
    verify := s.verify.swapped }

theorem State.swap_signed {s : State} {check : Word32} (h : s.tables.state = .signing none check) :
    s.swap = (s.swapBlocks (checkFinish check)).post
      (.commitDone (pendingGeneration s.tables.generation) (checkFinish check) s.tables.origin) := by
  simp only [State.swap, h]
  rfl

theorem sameConfig_iff (old new : Bank) (m : Nat) :
    sameConfig old new m = true ↔
      storedRate old m = storedRate new m ∧ storedBurst old m = storedBurst new m := by
  simp [sameConfig]

/-! ### A signing step that ends the signing (R100) -/

theorem State.signingStep_invalid {s : State} {r : RecordRef} {check : Word32} {why : Invalid}
    (hstate : s.tables.state = .signing (some r) check)
    (hinvalid : validateRecord s.tables.shadowBank r = some why) :
    s.signingStep = { s with tables := { s.tables with state := .editing, origin := none } }.post
      (.commitFailed r why.step why.reason s.tables.origin) := by
  simp [State.signingStep, hstate, hinvalid]

/-- A post that finds room joins the tail of the event queue with the stamps of its part (R169). -/
theorem State.post_queue {s : State} (k : EventKind) (hroom : s.commons.events.queue.length < 16) :
    (s.post k).commons.events.queue = s.commons.events.queue ++
      [{ seq := s.commons.events.nextSeq, uptime := s.endpoint.uptime
         generation := s.tables.generation, kind := k }] := by
  have haccepted : Accepted s s.commons (s.post k).commons k :=
    (Commons.post_postedOn s k s.commons).1
  rw [Accepted, if_pos hroom] at haccepted
  exact haccepted.1

/-! ### Valid records (R98, R99) -/

theorem validatePolicy_eq (b : Bank) :
    validatePolicy b =
      if 2 ≤ (b.read 1).toNat ∨ 2 ≤ (b.read 4).toNat then failed .enum else none := rfl

theorem validatePrefilter_eq (b : Bank) :
    validatePrefilter b =
      if 2 ≤ (b.read 6).toNat ∨ 2 ≤ (b.read 7).toNat ∨ 2 ≤ (b.read 8).toNat ∨ 2 ≤ (b.read 9).toNat then
        failed .enum
      else none := by
  have hrange : List.range 4 = [0, 1, 2, 3] := rfl
  simp [validatePrefilter, hrange, recordOffset, tableBase, Nat.succ_le_iff]

theorem validateMeter_eq (b : Bank) (m : Nat) :
    validateMeter b m = if 1048575 < (b.u32 (46 + 6 * m)).toNat then failed .burst else none := by
  have hoffset : recordOffset .meters m + 2 = 46 + 6 * m := by
    simp only [recordOffset, tableBase, recordSize]
    omega
  rw [validateMeter, storedBurst, hoffset]
  rfl

/-- The verb is one of the thirteen (12.3). -/
def VerbKnown (verb : Nat) : Prop := 1 ≤ verb ∧ verb ≤ 13

/-- The operand lies in the range of its verb (R44, R99). -/
def OperandRanged (verb operand : Nat) : Prop :=
  (verb = 1 ∨ verb = 2 → operand < 4) ∧ (verb = 3 → operand < 6) ∧ (verb = 5 → operand < 7) ∧
    (verb = 6 ∨ verb = 7 → operand < 8) ∧ (verb = 10 → operand < 64) ∧
    (verb = 11 → operand = 1 ∨ operand = 2) ∧ (verb = 13 → operand < 16)

/-- A decoded step is refused for its operand unless `p` holds. -/
def OperandDecides (d : StepDecode) (p : Prop) : Prop :=
  (p → ∃ op, d = .ok op) ∧ (¬p → d = .badOperand)

/-- A verb without an operand. -/
theorem OperandDecides.of_ok (op : StepOp) {p : Prop} (hp : p) : OperandDecides (.ok op) p :=
  ⟨fun _ => ⟨op, rfl⟩, fun hn => absurd hp hn⟩

/-- A verb that reads its operand exactly where `q` holds. -/
theorem OperandDecides.of_isSome {α : Type} {o : Option α} (g : α → StepOp) {p q : Prop}
    (h : o.isSome = true ↔ q) (hpq : p ↔ q) : OperandDecides (inRange o g) p := by
  rw [OperandDecides, hpq, ← h]
  cases o with
  | none => exact ⟨nofun, fun _ => rfl⟩
  | some v => exact ⟨fun _ => ⟨g v, rfl⟩, fun hn => absurd rfl hn⟩

/-- A reading of bytes that ends at `n` and reads each of the first `n`. -/
theorem isSome_iff_lt {α : Type} {f : Byte → Option α} {n : Nat}
    (hnone : ∀ o : Byte, n ≤ o.toNat → f o = none)
    (hsome : ∀ k < n, (f (BitVec.ofNat 8 k)).isSome = true) (o : Byte) :
    (f o).isSome = true ↔ o.toNat < n := by
  constructor
  · intro h
    by_contra hn
    simp [hnone o (Nat.not_lt.1 hn)] at h
  · intro h
    have hread := hsome o.toNat h
    rwa [BitVec.ofNat_toNat, BitVec.setWidth_eq] at hread

theorem operandPortSet_isSome (o : Byte) : (operandPortSet o).isSome = true ↔ o.toNat < 4 :=
  isSome_iff_lt (fun _ => operandPortSet_eq_none) (by decide) o

theorem operandRewriteField_isSome (o : Byte) :
    (operandRewriteField o).isSome = true ↔ o.toNat < 6 :=
  isSome_iff_lt (fun _ => operandRewriteField_eq_none) (by decide) o

theorem operandField_isSome (o : Byte) : (operandField o).isSome = true ↔ o.toNat < 7 :=
  isSome_iff_lt (fun _ => operandField_eq_none) (by decide) o

theorem operandFin_isSome (n : Nat) (o : Byte) : (operandFin n o).isSome = true ↔ o.toNat < n := by
  unfold operandFin
  split <;> simp [*]

theorem portOfCode_isSome (o : Byte) : (portOfCode o).isSome = true ↔ o.toNat = 1 ∨ o.toNat = 2 := by
  by_cases ha : o = 1#8
  · simp [ha, portOfCode]
  · by_cases hb : o = 2#8
    · simp [hb, portOfCode]
    · have hnot : ¬(o.toNat = 1 ∨ o.toNat = 2) := by bv_omega
      simp [portOfCode_eq_none ha hb, hnot]

/-- A known verb leaves its operand to decide. -/
theorem decodeStep_known {verb operand : Byte} (h : VerbKnown verb.toNat) :
    OperandDecides (decodeStep verb operand) (OperandRanged verb.toNat operand.toNat) := by
  have hverb : verb = 1#8 ∨ verb = 2#8 ∨ verb = 3#8 ∨ verb = 4#8 ∨ verb = 5#8 ∨ verb = 6#8 ∨
      verb = 7#8 ∨ verb = 8#8 ∨ verb = 9#8 ∨ verb = 10#8 ∨ verb = 11#8 ∨ verb = 12#8 ∨
      verb = 13#8 := by
    obtain ⟨hlow, hhigh⟩ := h
    bv_omega
  rcases hverb with rfl | rfl | rfl | rfl | rfl | rfl | rfl | rfl | rfl | rfl | rfl | rfl | rfl
  · exact .of_isSome .forward (operandPortSet_isSome _) (by simp [OperandRanged])
  · exact .of_isSome .cls (operandFin_isSome 4 _) (by simp [OperandRanged])
  · exact .of_isSome .rewrite (operandRewriteField_isSome _) (by simp [OperandRanged])
  · exact .of_ok .hop (by simp [OperandRanged])
  · exact .of_isSome .compare (operandField_isSome _) (by simp [OperandRanged])
  · exact .of_isSome .setFlag (operandFin_isSome 8 _) (by simp [OperandRanged])
  · exact .of_isSome .clearFlag (operandFin_isSome 8 _) (by simp [OperandRanged])
  · exact .of_ok .pushTag (by simp [OperandRanged])
  · exact .of_ok .popTag (by simp [OperandRanged])
  · exact .of_isSome .meter (operandFin_isSome 64 _) (by simp [OperandRanged])
  · exact .of_isSome .mirror (portOfCode_isSome _) (by simp [OperandRanged])
  · exact .of_ok .punt (by simp [OperandRanged])
  · exact .of_isSome .drop (operandFin_isSome 16 _) (by simp [OperandRanged])

theorem decodeStep_unknown {verb : Byte} (operand : Byte) (h : ¬VerbKnown verb.toNat) :
    decodeStep verb operand = .badVerb := by
  by_cases hzero : verb = 0#8
  · exact hzero ▸ rfl
  · refine decodeStep_unassigned operand ?_
    unfold VerbKnown at h
    bv_omega

/-- The verb of step `k` of list `i`, from the bytes of its record. -/
def Bank.stepVerb (b : Bank) (i k : Nat) : Nat := (b.read (429 + 81 * i + 10 * k)).toNat

/-- The operand of step `k` of list `i`. -/
def Bank.stepOperand (b : Bank) (i k : Nat) : Nat := (b.read (434 + 81 * i + 10 * k)).toNat

theorem Bank.step_verb (b : Bank) (i k : Nat) : (b.step i k).verb.toNat = b.stepVerb i k := by
  rw [b.step_eq i k]
  rfl

theorem Bank.step_operand (b : Bank) (i k : Nat) : (b.step i k).operand.toNat = b.stepOperand i k := by
  have hoffset : 429 + 81 * i + 10 * k + 5 = 434 + 81 * i + 10 * k := by omega
  rw [b.step_eq i k, Bank.stepOperand, ← hoffset]

/-- Step `k` of list `i` has a known verb and an operand in its range. -/
def Bank.StepValid (b : Bank) (i k : Nat) : Prop :=
  VerbKnown (b.stepVerb i k) ∧ OperandRanged (b.stepVerb i k) (b.stepOperand i k)

theorem validateStep_valid {b : Bank} {i k : Nat} (h : b.StepValid i k) : validateStep b i k = none := by
  obtain ⟨hknown, hranged⟩ := h
  rw [← Bank.step_verb] at hknown hranged
  rw [← Bank.step_operand] at hranged
  obtain ⟨op, hop⟩ := (decodeStep_known hknown).1 hranged
  simp [validateStep, hop]

theorem validateStep_verb {b : Bank} {i k : Nat} (h : ¬VerbKnown (b.stepVerb i k)) :
    validateStep b i k = some { reason := .verb, step := some k } := by
  rw [← Bank.step_verb] at h
  simp [validateStep, decodeStep_unknown _ h]

theorem validateStep_operand {b : Bank} {i k : Nat} (hknown : VerbKnown (b.stepVerb i k))
    (h : ¬OperandRanged (b.stepVerb i k) (b.stepOperand i k)) :
    validateStep b i k = some { reason := .operand, step := some k } := by
  rw [← Bank.step_verb] at hknown h
  rw [← Bank.step_operand] at h
  simp [validateStep, (decodeStep_known hknown).2 h]

theorem validateList_tooLong {b : Bank} {i : Nat} (h : 8 < b.listLength i) :
    validateList b i = failed .listLength := if_pos h

theorem validateList_valid {b : Bank} {i : Nat} (hlen : b.listLength i ≤ 8)
    (h : ∀ k < b.listLength i, b.StepValid i k) : validateList b i = none := by
  rw [validateList, if_neg (Nat.not_lt.2 hlen), List.findSome?_eq_none_iff]
  exact fun k hk => validateStep_valid (h k (List.mem_range.1 hk))

/-- The first step of a list that fails gives the failure of the list. -/
theorem validateList_first {b : Bank} {i k : Nat} {why : Invalid} (hlen : b.listLength i ≤ 8)
    (hk : k < b.listLength i) (hbefore : ∀ j < k, b.StepValid i j)
    (hfails : validateStep b i k = some why) : validateList b i = some why := by
  obtain ⟨n, hn⟩ := Nat.exists_eq_add_of_lt hk
  have hsplit : List.range (b.listLength i) =
      List.range k ++ k :: (List.range n).map fun j => k + (j + 1) := by
    rw [hn, Nat.add_assoc, List.range_add, List.range_succ_eq_map]
    simp
  rw [validateList, if_neg (Nat.not_lt.2 hlen), List.findSome?_eq_some_iff]
  exact ⟨_, _, _, hsplit, hfails, fun j hj => validateStep_valid (hbefore j (List.mem_range.1 hj))⟩

theorem validateSlot_eq (b : Bank) (n : Nat) :
    validateSlot b n =
      let marker : Nat → Nat := fun m => (b.read (21164 + 20 * m)).toNat / 16
      let low := (b.u16 (21179 + 20 * n)).toNat
      let high := (b.u16 (21181 + 20 * n)).toNat
      if 4 ≤ marker n then failed .widthMarker
      else if marker n = 2 ∧ n % 2 = 1 then failed .wideAlign
      else if marker n = 2 ∧ marker (n + 1) ≠ 3 then failed .widePair
      else if marker n = 3 ∧ (n % 2 = 0 ∨ marker (n - 1) ≠ 2) then failed .widePair
      else if (marker n = 1 ∨ marker n = 2) ∧ 3 ≤ (b.read (21164 + 20 * n)).toNat % 16 then
        failed .portMatch
      else if marker n = 3 ∧ (high < low ∨ 1024 < high) then failed .lengthBounds
      else none := by
  have hlow : slotOffset n + 15 = 21179 + 20 * n := by
    simp only [slotOffset, recordOffset, tableBase, recordSize]
    omega
  have hhigh : slotOffset n + 17 = 21181 + 20 * n := by
    simp only [slotOffset, recordOffset, tableBase, recordSize]
    omega
  have hslot : ∀ m, slotOffset m = 21164 + 20 * m := fun _ => rfl
  simp only [validateSlot, hlow, hhigh]
  simp only [slotMarker_toNat, slotMarker_eq_iff, slotPortBits_toNat, hslot, ne_eq]
  rfl

end Sys2Proof.Machine

namespace Sys2Proof.Settled

open Sys2Proof.Machine Sys2Proof.Safety

/-- Settles O46: the blocks at the swap one by one, and the post of COMMIT_DONE with the send it begins. -/
theorem swapChangesTogether : Obligations.SwapChangesTogether := by
  intro s check hstate generation
  refine ⟨s.swap, rfl, ?_⟩
  rw [State.swap_signed hstate]
  refine ⟨rfl, rfl, fun n => ⟨rfl, ?_⟩, rfl, fun m => ?_, rfl, ?_, rfl, rfl, rfl, rfl, rfl⟩
  · exact Vector.getElem_replicate _
  · refine (reseedMeters_getElem _ _ _ m).trans ?_
    simp only [sameConfig_iff]
    rfl
  · exact Commons.post_postedOn (s.swapBlocks (checkFinish check)) _ s.commons

/-- Settles O47: the two outcomes of a signing step, a copying step byte by byte, the end of copying, and the
checks of each table from the bytes of its record. -/
theorem controllerSteps : Obligations.ControllerSteps := by
  refine ⟨fun s r check hstate => ⟨fun hvalid => ?_, fun why hinvalid => ?_⟩,
    fun s r hstate hcanonical => ?_, fun s hstate => ?_, fun b n => ⟨?_, ?_, ?_, ?_, ?_⟩⟩
  · exact congrArg _ (State.signingStep_valid hstate hvalid)
  · refine ⟨s.signingStep, rfl, ?_⟩
    rw [State.signingStep_invalid hstate hinvalid]
    exact ⟨rfl, rfl, rfl, rfl, rfl, rfl, rfl, State.post_queue _⟩
  · have hshadow : s.tables.shadowBank.wf = true := (banksCanonical_iff s).1 hcanonical _
    have hstep := Controller.copyingStep_copies hstate
    refine ⟨s.tables.copyingStep, rfl, by rw [hstep], s.tables.copyingStep_activeBank,
      by simp [hstep], by simp [hstep], by simp [hstep], by simp [hstep], by simp [hstep], ?_,
      fun a ha => ?_⟩
    · rw [Controller.copyingStep_shadowBank hstate]
      exact Bank.record_setRecords _ _ _ hshadow (Bank.length_record _ _ _)
    · rw [Controller.copyingStep_shadowBank hstate, Bank.read_copyRecord _ _ _ _ hshadow]
      exact if_neg (by omega)
  · simp only [exec, execEndOfCopying, Controller.endCopying, hstate]
  · exact validatePolicy_eq b
  · exact validatePrefilter_eq b
  · exact validateMeter_eq b n
  · refine ⟨validateList_tooLong, validateList_valid, fun k hk hlen hbefore =>
      ⟨fun h => ?_, fun hknown h => ?_⟩⟩
    · exact validateList_first hlen hk hbefore (validateStep_verb h)
    · exact validateList_first hlen hk hbefore (validateStep_operand hknown h)
  · exact validateSlot_eq b n

end Sys2Proof.Settled
end

section
/-! PROOF. The integrity of the banks: a sweep reads the serialized bytes, the check function tells two sequences
apart that differ in one byte, the period and the two verdicts, and what a storage upset changes (R5, R86, R112 to
R118). -/

namespace Sys2Proof.Machine

open Sys2Proof.Safety

/-! ### The check function tells one byte from another (R5) -/

/-- The polynomial has its top bit set and a shift to the right clears it: the top bit of the register shows
whether a step took the polynomial in. -/
theorem checkStep_top_bit (c : Word32) : (checkStep c).getLsbD 31 = c.getLsbD 0 := by
  have htop : (0xEDB88320#32).getLsbD 31 = true := rfl
  have hshift : (c >>> 1).getLsbD 31 = false := by simp
  unfold checkStep
  split
  · rename_i hlow
    rw [BitVec.getLsbD_xor, hshift, htop, hlow]
    rfl
  · rename_i hlow
    rw [hshift, Bool.eq_false_of_not_eq_true hlow]

theorem checkStep_injective : Function.Injective checkStep := by
  intro c d h
  have hlow : c.getLsbD 0 = d.getLsbD 0 := by
    rw [← checkStep_top_bit, ← checkStep_top_bit, h]
  have hshift : c >>> 1 = d >>> 1 := by
    unfold checkStep at h
    rw [hlow] at h
    split at h
    · exact (BitVec.xor_left_inj _).1 h
    · exact h
  refine BitVec.eq_of_getLsbD_eq fun i _ => ?_
  cases i with
  | zero => exact hlow
  | succ k =>
    have hbit := congrArg (·.getLsbD k) hshift
    simpa only [BitVec.getLsbD_ushiftRight, Nat.add_comm 1 k] using hbit

theorem repeat_injective {α : Type} {f : α → α} (hf : Function.Injective f) (n : Nat) :
    Function.Injective (Nat.repeat f n) := by
  induction n with
  | zero => exact Function.injective_id
  | succ n ih => exact hf.comp ih

/-- Registers that differ still differ after the same byte. -/
theorem checkByte_injective_register (b : Byte) : Function.Injective fun c => checkByte c b :=
  fun _ _ h => (BitVec.xor_left_inj _).1 (repeat_injective checkStep_injective 8 h)

/-- One register tells different bytes apart. -/
theorem checkByte_injective_byte (c : Word32) : Function.Injective (checkByte c) := by
  intro v w h
  have hwide : v.setWidth 32 = w.setWidth 32 :=
    (BitVec.xor_right_inj _).1 (repeat_injective checkStep_injective 8 h)
  simpa using congrArg (·.setWidth 8) hwide

/-- Registers that differ still differ after the same run of bytes. -/
theorem checkBytes_injective_register (l : List Byte) : Function.Injective fun c => checkBytes c l := by
  induction l with
  | nil => exact Function.injective_id
  | cons b l ih => exact ih.comp (checkByte_injective_register b)

/-- The check values of two sequences that differ in exactly one byte differ. -/
theorem checkValue_ne_of_one_byte (before after : List Byte) {v w : Byte} (h : v ≠ w) :
    checkValue (before ++ v :: after) ≠ checkValue (before ++ w :: after) := by
  intro hvalue
  have hregister : checkBytes checkInit (before ++ v :: after) =
      checkBytes checkInit (before ++ w :: after) := BitVec.not_inj.1 hvalue
  rw [checkBytes_append, checkBytes_append] at hregister
  exact h (checkByte_injective_byte _ (checkBytes_injective_register after hregister))

/-! ### The period and the sweep (R112, R113) -/

theorem Verify.startSweep_waiting {v : Verify} {n : Nat} (h : v.state = .waiting n) :
    v.startSweep = { v with state := .sweeping (some firstRecord) checkInit } := by
  simp [Verify.startSweep, h]

theorem Verify.sweepStep_takes {v : Verify} {r : RecordRef} {check : Word32}
    (h : v.state = .sweeping (some r) check) (active : Bank) :
    v.sweepStep active =
      { v with state := .sweeping (nextRecord r) (checkBytes check (active.record r.table r.index)) } := by
  simp [Verify.sweepStep, h]

/-- The verify unit `v` with its sweep of a bank at a position, once `n` serialized bytes have been taken. -/
def Verify.sweptUpto (v : Verify) (b : Bank) (pos : Option RecordRef) (n : Nat) : Verify :=
  { v with state := .sweeping pos (checkBytes checkInit (b.readBytes 0 n)) }

theorem Verify.sweepStep_sweptUpto (v : Verify) (b : Bank) (t : Table) (i : Nat) :
    (v.sweptUpto b (some { table := t, index := i }) (recordOffset t i)).sweepStep b =
      v.sweptUpto b (nextRecord { table := t, index := i }) (recordOffset t i + recordSize t) := by
  rw [Verify.sweepStep_takes (v := v.sweptUpto b _ _) rfl, Verify.sweptUpto, Verify.sweptUpto,
    Bank.serialized_upto_record, checkBytes_append]

/-! ### The verdicts (R114, R115) -/

theorem Verify.computed_completed {v : Verify} {check : Word32} (h : v.state = .sweeping none check) :
    v.computed? = some (checkFinish check) := by
  simp [Verify.computed?, h]

theorem execVerdictPass_equal {s : State} (h : s.verify.computed? = some s.tables.signature) :
    execVerdictPass s = .next { s with verify := s.verify.passed } := by
  rw [execVerdictPass, if_pos h]

theorem execVerdictPass_differs {s : State} {computed : Word32}
    (h : s.verify.computed? = some computed) (hdiffers : computed ≠ s.tables.signature) :
    execVerdictPass s = .next s := by
  rw [execVerdictPass, h, if_neg fun e => hdiffers (Option.some.inj e)]

/-- The part at a FAIL on `computed`, before TABLE_FAULT is posted. -/
def State.faultBlocks (s : State) (computed : Word32) : State :=
  { s with
    classifier := { s.classifier with mode := .faulted }
    verify := s.verify.failed s.tables.generation s.tables.signature computed }

theorem State.verdictFail_equal {s : State} (h : s.verify.computed? = some s.tables.signature) :
    s.verdictFail = s := by
  simp [State.verdictFail, h]

theorem State.verdictFail_differs {s : State} {computed : Word32}
    (h : s.verify.computed? = some computed) (hdiffers : computed ≠ s.tables.signature) :
    s.verdictFail =
      (s.faultBlocks computed).post (.tableFault s.tables.signature computed) := by
  simp [State.verdictFail, h, hdiffers, State.faultBlocks]

/-! ### Storage upsets (R86, R118) -/

theorem upsetFits_iff (t : Table) (index : Nat) (content : List Byte) :
    upsetFits t index content = true ↔ index < recordCount t ∧ content.length = recordSize t := by
  simp [upsetFits]

theorem execStorageUpset_fits {t : Table} {index : Nat} {content : List Byte}
    (h : upsetFits t index content = true) (i : BankId) (s : State) :
    execStorageUpset i t index content s = .next (s.storageUpset i t index content) := by
  rw [execStorageUpset, if_pos h]

/-- The bank that is hit takes the content as its record. -/
theorem State.storageUpset_bank (s : State) (i : BankId) (t : Table) (index : Nat)
    (content : List Byte) :
    (s.storageUpset i t index content).tables.bank i =
      (s.tables.bank i).setRecords t index content := Controller.setBank_bank _ _ _

theorem State.storageUpset_meters_kept {s : State} {i : BankId} {t : Table} (index : Nat)
    (content : List Byte) (h : ¬(t = .meters ∧ i = s.tables.active)) :
    (s.storageUpset i t index content).meters = s.meters := if_neg h

/-- The burst that an upset of an active meter record clamps to is that of the bank it leaves active. -/
theorem State.storageUpset_meters_active (s : State) (index : Nat) (content : List Byte) :
    (s.storageUpset s.tables.active .meters index content).meters =
      clampMeter (s.storageUpset s.tables.active .meters index content).tables.activeBank index
        s.meters := by
  simp [State.storageUpset, Controller.setBank_activeBank]

/-- An upset touches no meter but that of an active meter record, whose tokens it lowers to the new burst. -/
theorem State.storageUpset_meters (s : State) (i : BankId) (t : Table) (index : Nat)
    (content : List Byte) (m : Fin 64) :
    (s.storageUpset i t index content).meters[m] =
      if t = .meters ∧ i = s.tables.active ∧ m.val = index then
        { s.meters[m] with
          tokens := min (s.meters[m]).tokens
            (meterBurst (s.storageUpset i t index content).tables.activeBank m.val) }
      else s.meters[m] := by
  by_cases hhit : t = .meters ∧ i = s.tables.active
  · obtain ⟨rfl, rfl⟩ := hhit
    simp only [true_and]
    rw [State.storageUpset_meters_active, clampMeter_getElem]
    split
    · rename_i hm
      subst hm
      rfl
    · rfl
  · rw [State.storageUpset_meters_kept index content hhit, if_neg fun h => hhit ⟨h.1, h.2.1⟩]

end Sys2Proof.Machine

namespace Sys2Proof.Settled

open Sys2Proof.Machine Sys2Proof.Safety

/-- Settles O26: each step takes the next record's bytes, over the 834 records of the bank. -/
theorem sweepReadsTheSerializedBank : Obligations.SweepReadsTheSerializedBank := by
  intro v b hstate
  have hstart : v = v.sweptUpto b (some firstRecord) 0 := by
    show v = { v with state := .sweeping (some { table := .policy, index := 0 }) 0xFFFFFFFF#32 }
    rw [← hstate]
  refine bankSweep (f := fun x => x.sweepStep b) (Inv := fun pos n x => x = v.sweptUpto b pos n) ?_ hstart
  rintro t i _ _ rfl
  exact v.sweepStep_sweptUpto b t i

/-- Settles O27: every step of the check function is injective, so one different byte leaves another check
value than the stored signature. -/
theorem oneByteUpsetIsFound : Obligations.OneByteUpsetIsFound := by
  intro s before after v w hne hsignature hserialized hstate
  have hcomputed : s.verify.computed? = some (checkValue (before ++ w :: after)) := by
    rw [Verify.computed_completed hstate, hserialized]
    rfl
  have hdiffers : checkValue (before ++ w :: after) ≠ s.tables.signature :=
    hsignature ▸ checkValue_ne_of_one_byte before after hne.symm
  refine ⟨execVerdictPass_differs hcomputed hdiffers, s.verdictFail, rfl, ?_⟩
  rw [State.verdictFail_differs hcomputed hdiffers]
  exact ⟨rfl, rfl, rfl, rfl, rfl, rfl, rfl, rfl, State.post_queue (s := s.faultBlocks _) _⟩

/-- Settles O49: the bank that is hit takes the content at the bytes of the record, and the meters follow the
active bank. -/
theorem upsetChangesOneRecord : Obligations.UpsetChangesOneRecord := by
  intro s i tb n content hindex hsize hcanonical
  have hfits := (upsetFits_iff tb n content).2 ⟨hindex, hsize⟩
  have hbank : (s.tables.bank i).wf = true := (banksCanonical_iff s).1 hcanonical i
  refine ⟨s.storageUpset i tb n content, execStorageUpset_fits hfits i s, ?_, fun a ha => ?_,
    Controller.setBank_other _ _ _, Controller.setBank_active _ _ _,
    Controller.setBank_generation _ _ _, Controller.setBank_signature _ _ _,
    Controller.setBank_state _ _ _, Controller.setBank_dirty _ _ _, Controller.setBank_origin _ _ _,
    s.storageUpset_meters i tb n content, rfl⟩
  · rw [State.storageUpset_bank]
    exact Bank.record_setRecords tb n content hbank hsize
  · rw [State.storageUpset_bank]
    exact Bank.read_writeBytes_outside _ content (hsize ▸ ha)

/-- Settles O48: the expiry of the period, one step of the sweep, and the two verdicts on a completed sweep. -/
theorem sweepAndVerdicts : Obligations.SweepAndVerdicts := by
  refine ⟨fun s n hwaiting => ?_, fun s r check hstate => ?_, fun s check hstate hequal => ?_,
    fun s check hstate hdiffers => ?_⟩
  · rw [exec, execVerifyPeriodExpiry, Verify.startSweep_waiting hwaiting]
    rfl
  · rw [exec, execSweepStep, Verify.sweepStep_takes hstate]
  · have hcomputed : s.verify.computed? = some s.tables.signature :=
      hequal ▸ Verify.computed_completed hstate
    exact ⟨execVerdictPass_equal hcomputed, congrArg _ (State.verdictFail_equal hcomputed)⟩
  · have hcomputed := Verify.computed_completed hstate
    refine ⟨execVerdictPass_differs hcomputed hdiffers, s.verdictFail, rfl, ?_⟩
    rw [State.verdictFail_differs hcomputed hdiffers]
    exact ⟨rfl, rfl, rfl, rfl, rfl, rfl, rfl⟩

end Sys2Proof.Settled
end

section
/-! PROOF. What the shared blocks hold between them: general cells, reserve cells and holders of frames. A `Hand`
is what a happening has taken from one place and not yet given to another; each operation of Machine/Ops.lean moves
what it handles between the places of `Commons` and a hand, and loses nothing (R130 to R133, R140, R171). -/

set_option Elab.async false

namespace Sys2Proof.Machine

open Sys2Proof.Safety

/-- What is on its way between two places of the part: general cells, holders of frames, by name, and reserve
cells. -/
structure Hand where
  cells : List GeneralCell
  names : List Nat
  reserve : Nat

/-- An empty hand. -/
def Hand.empty : Hand := { cells := [], names := [], reserve := 0 }

/-- A hand with more general cells. -/
def Hand.addCells (h : Hand) (cells : List GeneralCell) : Hand := { h with cells := cells ++ h.cells }

/-- A hand with more holders. -/
def Hand.addNames (h : Hand) (names : List Nat) : Hand := { h with names := names ++ h.names }

/-- A hand with more reserve cells. -/
def Hand.addReserve (h : Hand) (n : Nat) : Hand := { h with reserve := h.reserve + n }

namespace Commons

/-! ### What the shared blocks hold -/

/-- General cells of the shared blocks: the free ones, then those of the stored frames. -/
def cells (x : Commons) : List GeneralCell := x.pool.free ++ x.frames.flatMap (·.record.cellList)

/-- Reserve cells of the management-out queues. -/
def queued (x : Commons) : Nat := (x.mgmtOutA.map Built.cells).sum + (x.mgmtOutB.map Built.cells).sum

/-- Reserve cells of the shared blocks: the free ones and those of every built frame there. -/
def reserve (x : Commons) : Nat :=
  x.pool.freeReserve + x.queued + outputReserve x.output + senderReserve x.events.sender +
    puntReserve x.events.punt

/-- Names of frames wherever they stand, `names` and the punt queue, agree with the stored frames (R132). -/
structure Counted (x : Commons) (names : List Nat) : Prop where
  nodup : (x.frames.map (·.id)).Nodup
  held : ∀ f ∈ x.frames,
    f.id < x.nextFrame ∧ 1 ≤ f.holders ∧ f.holders = (names ++ x.events.puntQueue).count f.id
  stored : ∀ id ∈ names ++ x.events.puntQueue, id ∈ x.frames.map (·.id)

/-- The order of the names does not matter. -/
theorem Counted.perm {x : Commons} {l m : List Nat} (h : x.Counted l) (hlm : m.Perm l) : x.Counted m := by
  have hall := hlm.append_right x.events.puntQueue
  exact ⟨h.nodup, fun f hf => by rw [hall.count_eq]; exact h.held f hf,
    fun id hid => h.stored id (hall.mem_iff.mp hid)⟩

end Commons

/-- The marks of a pool are in order. -/
abbrev Pool.MarksOrdered (x : Pool) : Prop := x.lowMark < x.highMark ∧ x.highMark ≤ 512

/-- The state of a pool agrees with its marks (R133). -/
abbrev Pool.Agrees (x : Pool) : Prop :=
  x.lowMark < x.highMark ∧ x.highMark ≤ 512 ∧
    (if x.low then x.freeGeneral ≤ x.highMark else x.lowMark ≤ x.freeGeneral)

namespace Commons

/-- From `x` and the hand `h` to `y` and the hand `k`, in the surroundings `e`, nothing is lost: every general cell,
every holder and every reserve cell is still in its place or in the hand, the pool agrees with its marks where it
did, and at a port that is not UP the management-out queue stays and no event report comes to wait. -/
structure Flows (e : Env) (x : Commons) (h : Hand) (y : Commons) (k : Hand) : Prop where
  cells : (y.cells ++ k.cells).Perm (x.cells ++ h.cells)
  pool : x.pool.Agrees → y.pool.Agrees
  holders : ∀ names, x.Counted (h.names ++ names) → y.Counted (k.names ++ names)
  reserve : senderFits x.events = true →
    senderFits y.events = true ∧ y.reserve + k.reserve = x.reserve + h.reserve
  idle : x.output = .idle → y.output = .idle
  down : ∀ p, e.up p = false → y.mgmtOut p = x.mgmtOut p
  waits : ∀ p, e.up p = false → x.eventOfferWaits p = false → y.eventOfferWaits p = false

namespace Flows

variable {e : Env} {x y z : Commons} {h k m : Hand}

theorem refl (e : Env) (x : Commons) (h : Hand) : Flows e x h x h :=
  ⟨.refl _, id, fun _ => id, fun hs => ⟨hs, rfl⟩, id, fun _ _ => rfl, fun _ _ => id⟩

theorem trans (f : Flows e x h y k) (g : Flows e y k z m) : Flows e x h z m where
  cells := g.cells.trans f.cells
  pool := g.pool ∘ f.pool
  holders names := g.holders names ∘ f.holders names
  reserve hs := by
    obtain ⟨hy, hxy⟩ := f.reserve hs
    obtain ⟨hz, hyz⟩ := g.reserve hy
    exact ⟨hz, hyz.trans hxy⟩
  idle := g.idle ∘ f.idle
  down p hp := (g.down p hp).trans (f.down p hp)
  waits p hp := g.waits p hp ∘ f.waits p hp

end Flows

/-- The general cells, the marks, the stored frames and the punt queue. -/
def stock (x : Commons) : List GeneralCell × Bool × Nat × Nat × List RxFrame × Nat × List Nat :=
  (x.pool.free, x.pool.low, x.pool.lowMark, x.pool.highMark, x.frames, x.nextFrame, x.events.puntQueue)

/-- What concerns built frames alone: an operation that leaves the stock flows where the reserve cells do. -/
theorem Flows.of_stock {e : Env} {x y : Commons} {h k : Hand} (hstock : y.stock = x.stock)
    (hcells : k.cells = h.cells) (hnames : k.names = h.names)
    (hreserve : senderFits x.events = true →
      senderFits y.events = true ∧ y.reserve + k.reserve = x.reserve + h.reserve)
    (hidle : x.output = .idle → y.output = .idle)
    (hdown : ∀ p, e.up p = false → y.mgmtOut p = x.mgmtOut p)
    (hwaits : ∀ p, e.up p = false → x.eventOfferWaits p = false → y.eventOfferWaits p = false) :
    Flows e x h y k := by
  simp only [stock, Prod.mk.injEq] at hstock
  obtain ⟨hfree, hlow, hlowMark, hhighMark, hframes, hnext, hpunts⟩ := hstock
  refine ⟨?_, ?_, fun names hx => ?_, hreserve, hidle, hdown, hwaits⟩
  · rw [Commons.cells, Commons.cells, hfree, hframes, hcells]
  · simp only [Pool.Agrees, Pool.freeGeneral, hfree, hlow, hlowMark, hhighMark, imp_self]
  · rw [hnames]
    exact ⟨hframes ▸ hx.nodup, by rw [hframes, hnext, hpunts]; exact hx.held,
      by rw [hframes, hpunts]; exact hx.stored⟩

/-! ### The sender and what it holds (R171) -/

/-- What a sender that awaits its acknowledgement has: a listener, a head record, a timer that runs only for a report
that has joined the queue, and a waiting report for the listener's port. -/
theorem senderFits_awaiting {u : EventUnit} {w : Awaiting} (h : u.sender = .awaiting w) :
    senderFits u = true ↔ ∃ l, u.listener = some l ∧ u.queue ≠ [] ∧
      (w.timer = true → w.flight = .queued) ∧ ∀ b, w.flight = .offering b → b.port = l.port := by
  unfold senderFits
  rw [h]
  dsimp only
  cases u.listener with
  | none => simp
  | some l =>
    cases hf : w.flight <;> cases w.timer <;> simp

theorem senderFits_idle {u : EventUnit} (h : u.sender = .idle) : senderFits u = true := by
  unfold senderFits
  rw [h]

end Commons
end Sys2Proof.Machine
end

section
/-! PROOF. The builders and the event unit between them: claims, grants, offers and posts move built frames and
reserve cells, and lose none (R131, R140, R169 to R172). -/

set_option Elab.async false

namespace Sys2Proof.Machine
open Sys2Proof.Safety
namespace Commons

/-! ### Management-out queues (R140) -/

theorem pushMgmtOut_mgmtOut_ne (x : Commons) {b : Built} {p : Port} (h : p ≠ b.port) :
    (x.pushMgmtOut b).mgmtOut p = x.mgmtOut p := by
  rw [eq_otherPort_of_ne h]
  exact x.setMgmtOut_other b.port _

theorem pushMgmtOut_queued (x : Commons) (b : Built) : (x.pushMgmtOut b).queued = x.queued + b.cells := by
  unfold pushMgmtOut queued
  cases b.port <;> simp [setMgmtOut, mgmtOut] <;> omega

theorem setMgmtOut_queued (x : Commons) (p : Port) (q : List Built) :
    (x.setMgmtOut p q).queued + ((x.mgmtOut p).map Built.cells).sum =
      x.queued + (q.map Built.cells).sum := by
  unfold queued
  cases p <;> simp [setMgmtOut, mgmtOut] <;> omega

/-- A built frame that joins the queue of an UP port leaves the queue of a port that is not UP. -/
theorem pushMgmtOut_down {e : Env} {x : Commons} {b : Built} (hup : e.up b.port = true) {p : Port}
    (hp : e.up p = false) : (x.pushMgmtOut b).mgmtOut p = x.mgmtOut p := by
  refine pushMgmtOut_mgmtOut_ne x fun h => ?_
  rw [h, hup] at hp
  cases hp

/-! ### Reserve cells, the endpoint, the sender and the punt side -/

theorem takeReserve_queued (x : Commons) (n : Nat) : (x.takeReserve n).queued = x.queued := rfl
theorem giveReserve_queued (x : Commons) (n : Nat) : (x.giveReserve n).queued = x.queued := rfl

theorem takeReserve_flows (e : Env) {x : Commons} (h : Hand) {n : Nat} (hn : n ≤ x.pool.freeReserve) :
    Flows e x h (x.takeReserve n) (h.addReserve n) := by
  refine .of_stock rfl rfl rfl (fun hs => ⟨hs, ?_⟩) id (fun _ _ => rfl) (fun _ _ => id)
  simp only [reserve, takeReserve_queued, takeReserve_freeReserve, takeReserve_output, takeReserve_events,
    Hand.addReserve]
  omega

theorem giveReserve_flows (e : Env) (x : Commons) (h : Hand) (n : Nat) :
    Flows e x (h.addReserve n) (x.giveReserve n) h := by
  refine .of_stock rfl rfl rfl (fun hs => ⟨hs, ?_⟩) id (fun _ _ => rfl) (fun _ _ => id)
  simp only [reserve, giveReserve_queued, giveReserve_freeReserve, giveReserve_output, giveReserve_events,
    Hand.addReserve]
  omega

/-- The endpoint's output changes, its waiting response coming to hand. -/
theorem setOutput_flows (e : Env) {x : Commons} (h : Hand) {o : Output} {mgmt : MgmtCounters} {n : Nat}
    (hidle : x.output = .idle → o = .idle) (hn : outputReserve o = n + outputReserve x.output) :
    Flows e x (h.addReserve n) { x with output := o, mgmt := mgmt } h := by
  refine .of_stock rfl rfl rfl (fun hs => ⟨hs, ?_⟩) hidle (fun _ _ => rfl) (fun _ _ => id)
  have hq : queued { x with output := o, mgmt := mgmt } = x.queued := rfl
  simp only [reserve, hq, Hand.addReserve]
  omega

/-- The sender changes within what R171 gives it, its report taking `n` reserve cells from the hand. -/
theorem setSender_flows (e : Env) {x : Commons} (h : Hand) {snd : Sender} {n : Nat}
    (hfits : senderFits x.events = true → senderFits (x.setSender snd).events = true)
    (hn : senderFits x.events = true → senderReserve snd = n + senderReserve x.events.sender)
    (hwaits : ∀ p, e.up p = false → x.eventOfferWaits p = false →
      (x.setSender snd).eventOfferWaits p = false) :
    Flows e x (h.addReserve n) (x.setSender snd) h := by
  refine .of_stock rfl rfl rfl (fun hs => ⟨hfits hs, ?_⟩) id (fun _ _ => rfl) hwaits
  have := hn hs
  have hq : (x.setSender snd).queued = x.queued := rfl
  simp only [reserve, hq, setSender_pool, setSender_output, setSender_sender, setSender_punt, Hand.addReserve]
  omega

/-- The punt side changes its stage, its report taking `n` reserve cells from the hand. -/
theorem setPunt_flows (e : Env) {x : Commons} (h : Hand) {st : PuntStage} {n : Nat}
    (hn : puntReserve st = n + puntReserve x.events.punt) :
    Flows e x (h.addReserve n) (x.setPunt st) h := by
  refine .of_stock rfl rfl rfl (fun hs => ⟨hs, ?_⟩) id (fun _ _ => rfl) (fun _ _ => id)
  have hq : (x.setPunt st).queued = x.queued := rfl
  simp only [reserve, hq, setPunt_pool, setPunt_output, setPunt_sender, setPunt_punt, Hand.addReserve]
  omega

/-- A built frame in hand joins the queue of its UP port. -/
theorem pushMgmtOut_flows {e : Env} (x : Commons) (h : Hand) {b : Built} (hup : e.up b.port = true) :
    Flows e x (h.addReserve b.cells) (x.pushMgmtOut b) h := by
  refine .of_stock (by simp [stock]) rfl rfl (fun hs => ⟨by simpa using hs, ?_⟩) (by simp)
    (fun _ => pushMgmtOut_down hup)
    (fun p _ => by simp [eventOfferWaits])
  simp only [reserve, pushMgmtOut_queued, pushMgmtOut_pool, pushMgmtOut_output, pushMgmtOut_events,
    Hand.addReserve]
  omega

/-! ### Offers to the management-out queue (R140) -/

theorem outputReserve_afterAdmission (b : Builder) : outputReserve (outputAfterAdmission b) = 0 := by
  unfold outputAfterAdmission
  split <;> rfl

theorem outputReserve_afterLoss (b : Builder) : outputReserve (outputAfterLoss b) = 0 := by
  unfold outputAfterLoss
  split <;> rfl

/-- A response joins the queue of its UP port, with what the hand holds of its cells. -/
theorem admitResponse_flows {e : Env} {x : Commons} (h : Hand) {b : Built} {n : Nat}
    (hup : e.up b.port = true) (hbusy : x.output ≠ .idle) (hn : n + outputReserve x.output = b.cells) :
    Flows e x (h.addReserve n) (x.admitResponse b) h := by
  refine .of_stock (by simp [stock]) rfl rfl (fun hs => ⟨by simpa using hs, ?_⟩)
    (fun hx => absurd hx hbusy) (fun _ => pushMgmtOut_down hup)
    (fun p _ => by simp [eventOfferWaits])
  have hq : (x.admitResponse b).queued = x.queued + b.cells := pushMgmtOut_queued x b
  have ho : outputReserve (x.admitResponse b).output = 0 := outputReserve_afterAdmission b.builder
  simp only [reserve, hq, ho, admitResponse_frame, Hand.addReserve]
  omega

/-- A response that is lost leaves its cells with the caller. -/
theorem loseResponse_flows {e : Env} {x : Commons} (h : Hand) (b : Built) (hbusy : x.output ≠ .idle) :
    Flows e x h (x.loseResponse b) (h.addReserve (outputReserve x.output)) := by
  refine .of_stock rfl rfl rfl (fun hs => ⟨hs, ?_⟩) (fun hx => absurd hx hbusy) (fun _ _ => rfl)
    (fun _ _ => id)
  have ho : outputReserve (x.loseResponse b).output = 0 := outputReserve_afterLoss b.builder
  have hq : (x.loseResponse b).queued = x.queued := rfl
  simp only [reserve, hq, ho, loseResponse_frame, Hand.addReserve]
  omega

theorem offerResponse_flows (e : Env) {x : Commons} (h : Hand) {b : Built}
    (hclaims : x.output = .claiming b) :
    Flows e x (h.addReserve b.cells) (offerResponse e b x) h := by
  have hbusy : x.output ≠ .idle := by simp [hclaims]
  unfold offerResponse
  split
  · rename_i hup
    split
    · exact admitResponse_flows h hup hbusy (by simp [hclaims, outputReserve])
    · exact setOutput_flows e h (mgmt := x.mgmt) (fun hx => absurd hx hbusy)
        (by simp [hclaims, outputReserve])
  · refine (giveReserve_flows e x h b.cells).trans ?_
    have hlost := loseResponse_flows (e := e) (x := x.giveReserve b.cells) h b hbusy
    rwa [giveReserve_output, hclaims] at hlost

/-- An event report joins the queue of its UP port, with what the hand holds of its cells. -/
theorem admitEvent_flows {e : Env} {x : Commons} (h : Hand) {w : Awaiting} {b : Built} {n : Nat}
    (hup : e.up b.port = true) (hsender : x.events.sender = .awaiting w)
    (hn : n + senderReserve x.events.sender = b.cells) :
    Flows e x (h.addReserve n) (x.admitEvent w b) h := by
  refine .of_stock (by simp [stock]) rfl rfl (fun hs => ⟨?_, ?_⟩) (by simp)
    (fun _ => pushMgmtOut_down hup) (fun p _ _ => by simp [admitEvent, eventOfferWaits])
  · obtain ⟨l, hl, hq, -, -⟩ := (senderFits_awaiting hsender).mp hs
    exact (senderFits_awaiting (by rw [admitEvent, setSender_sender])).mpr ⟨l, by simpa using hl, by simpa using hq, by simp, by simp⟩
  · have hq : (x.admitEvent w b).queued = x.queued + b.cells := pushMgmtOut_queued x b
    have ho : senderReserve (x.admitEvent w b).events.sender = 0 := rfl
    simp only [reserve, hq, ho, admitEvent_frame, Hand.addReserve]
    omega

/-- An event report in hand, for the listener's port, joins its queue, waits at it or returns its cells. -/
theorem offerEvent_flows (e : Env) {x : Commons} (h : Hand) {w : Awaiting} {b : Built} {l : Listener}
    (hsender : x.events.sender = .awaiting w) (hflight : w.flight = .claiming)
    (hl : x.events.listener = some l) (hb : b.port = l.port) :
    Flows e x (h.addReserve b.cells) (offerEvent e w b x) h := by
  have hnone : senderReserve x.events.sender = 0 := by simp [hsender, senderReserve, hflight]
  have htimer : senderFits x.events = true → w.timer = false := fun hs => by
    obtain ⟨-, -, -, htimer, -⟩ := (senderFits_awaiting hsender).mp hs
    simpa [hflight] using htimer
  have hfits : ∀ fl : Flight, (∀ c, fl = .offering c → c = b) → senderFits x.events = true →
      senderFits (x.setSender (.awaiting { w with flight := fl })).events = true := by
    intro fl hfl hs
    obtain ⟨l', hl', hq, -, -⟩ := (senderFits_awaiting hsender).mp hs
    refine (senderFits_awaiting rfl).mpr ⟨l, hl, hq, by simp [htimer hs], fun c hc => ?_⟩
    rw [hfl c hc, hb]
  unfold offerEvent
  split
  · rename_i hup
    split
    · exact admitEvent_flows h hup hsender (by omega)
    · refine setSender_flows e h (hfits _ (by simp)) (fun _ => by rw [hnone]; rfl) fun p hp _ => ?_
      refine decide_eq_false fun hbp => ?_
      rw [hbp, hp] at hup
      cases hup
  · refine (giveReserve_flows e x h b.cells).trans ?_
    exact setSender_flows e h (n := 0) (hfits _ (by simp)) (fun _ => by rw [giveReserve_events, hnone]; rfl)
      fun _ _ _ => rfl

theorem offerPunt_flows (e : Env) {x : Commons} (h : Hand) (b : Built) (hidle : puntReserve x.events.punt = 0) :
    Flows e x (h.addReserve b.cells) (offerPunt e b x) h := by
  unfold offerPunt
  split
  · rename_i hup
    split
    · exact (pushMgmtOut_flows x h hup).trans
        (setPunt_flows e h (n := 0) (by rw [pushMgmtOut_events, hidle]; rfl))
    · exact setPunt_flows e h (by rw [hidle]; rfl)
  · exact (giveReserve_flows e x h b.cells).trans
      (setPunt_flows e h (n := 0) (by rw [giveReserve_events, hidle]; rfl))

/-! ### Grants, sends and posts (R131, R169, R172) -/

theorem grantResponse_flows (e : Env) (x : Commons) (h : Hand) : Flows e x h (grantResponse e x) h := by
  unfold grantResponse
  split
  · rename_i b hclaims
    split
    · rename_i hcover
      exact (takeReserve_flows e h hcover).trans (offerResponse_flows e h hclaims)
    · exact .refl e x h
  · exact .refl e x h

theorem grantEvent_flows (e : Env) (x : Commons) (h : Hand) : Flows e x h (grantEvent e x) h := by
  unfold grantEvent
  split
  · rename_i hsender hlistener _
    split
    · rename_i hflight
      dsimp only
      split
      · rename_i hcover
        exact (takeReserve_flows e h hcover).trans (offerEvent_flows e h hsender hflight hlistener rfl)
      · exact .refl e x h
    · exact .refl e x h
  · exact .refl e x h

theorem claimEvent_flows (e : Env) (x : Commons) (h : Hand) : Flows e x h (claimEvent e x) h := by
  unfold claimEvent
  split
  · exact .refl e x h
  · exact grantEvent_flows e x h

theorem trySend_flows (e : Env) (x : Commons) (h : Hand) : Flows e x h (trySend e x) h := by
  unfold trySend
  split
  · rename_i l hsender hlistener
    split
    · rename_i hsends
      have hq : x.events.queue ≠ [] := by
        simp only [Bool.and_eq_true, Bool.not_eq_true', List.isEmpty_eq_false_iff] at hsends
        exact hsends.2
      refine Flows.trans (setSender_flows e h (n := 0) (fun _ => ?_) (fun _ => by simp [hsender, senderReserve])
        fun _ _ _ => rfl) (claimEvent_flows e _ h)
      exact (senderFits_awaiting rfl).mpr ⟨l, hlistener, hq, by simp, by simp⟩
    · exact .refl e x h
  · exact .refl e x h

/-- The event queue, its numbers and the counts of lost events hold no cell and no frame. -/
theorem setQueue_flows (e : Env) {x : Commons} (h : Hand) (queue : List EventRecord) (seq lost : Word16)
    (mgmt : MgmtCounters) (hqueue : x.events.queue ≠ [] → queue ≠ [] ∨ x.events.sender = .idle) :
    Flows e x h
      { x with events := { x.events with queue := queue, nextSeq := seq, lost := lost }, mgmt := mgmt } h := by
  refine .of_stock rfl rfl rfl (fun hs => ⟨?_, rfl⟩) id (fun _ _ => rfl) (fun _ _ => id)
  cases hsender : x.events.sender with
  | idle => exact senderFits_idle hsender
  | awaiting w =>
    obtain ⟨l, hl, hq, hrest⟩ := (senderFits_awaiting hsender).mp hs
    have hkept : queue ≠ [] := by simpa [hsender] using hqueue hq
    exact (senderFits_awaiting
      (u := { x.events with queue := queue, nextSeq := seq, lost := lost }) hsender).mpr
        ⟨l, hl, hkept, hrest⟩

theorem accept_flows (e : Env) (k : EventKind) (x : Commons) (h : Hand) : Flows e x h (accept e k x) h := by
  unfold accept
  split
  · exact setQueue_flows e h _ _ x.events.lost x.mgmt fun _ => .inl (by simp)
  · exact setQueue_flows e h x.events.queue x.events.nextSeq _ _ fun hq => .inl hq

theorem acceptAll_flows (e : Env) (ks : List EventKind) (x : Commons) (h : Hand) :
    Flows e x h (ks.foldl (fun y k => accept e k y) x) h := by
  induction ks generalizing x with
  | nil => exact .refl e x h
  | cons k ks ih => exact (accept_flows e k x h).trans (ih _)

theorem post_flows (e : Env) (k : EventKind) (x : Commons) (h : Hand) : Flows e x h (post e k x) h :=
  (accept_flows e k x h).trans (trySend_flows e _ h)

end Commons
end Sys2Proof.Machine
end

section
/-! PROOF. The pool's state is evaluated whenever the free cells or the marks change; cells and holders return to it
(R132, R133). -/

set_option Elab.async false

namespace Sys2Proof.Machine
open Sys2Proof.Safety
namespace Commons

/-! ### The pool (R133) -/

/-- What an evaluation makes of the pool's state. -/
theorem evalPool_low_eq (e : Env) (x : Commons) : (evalPool e x).pool.low =
    if x.pool.low then !decide (x.pool.highMark < x.pool.freeGeneral)
    else decide (x.pool.freeGeneral < x.pool.lowMark) := by
  unfold evalPool
  split
  · split <;> simp_all
  · split <;> simp_all

/-- An evaluation brings the pool's state into agreement with marks that are in order. -/
theorem evalPool_agrees (e : Env) {x : Commons} (h : x.pool.MarksOrdered) : (evalPool e x).pool.Agrees := by
  obtain ⟨hmarks, hhigh⟩ := h
  refine ⟨by simpa using hmarks, by simpa using hhigh, ?_⟩
  rw [evalPool_low_eq]
  simp only [Pool.freeGeneral, evalPool_frame]
  cases x.pool.low
  · by_cases hm : x.pool.free.length < x.pool.lowMark <;> simp [hm] <;> omega
  · by_cases hm : x.pool.highMark < x.pool.free.length <;> simp [hm] <;> omega

theorem evalPool_flows (e : Env) (x : Commons) (h : Hand) : Flows e x h (evalPool e x) h := by
  have hposts : ∃ low, Flows e { x with pool := { x.pool with low := low } } h (evalPool e x) h := by
    unfold evalPool
    split
    · split
      · exact ⟨_, post_flows e _ _ h⟩
      · exact ⟨x.pool.low, .refl e x h⟩
    · split
      · exact ⟨_, post_flows e _ _ h⟩
      · exact ⟨x.pool.low, .refl e x h⟩
  obtain ⟨low, hflows⟩ := hposts
  exact ⟨hflows.cells, fun hx => evalPool_agrees e ⟨hx.1, hx.2.1⟩,
    fun names hx => hflows.holders names ⟨hx.nodup, hx.held, hx.stored⟩, hflows.reserve, hflows.idle,
    hflows.down, hflows.waits⟩

/-- The free cells change, the cells of a hand with them, and the pool evaluates its state. -/
theorem evalPool_setFree_flows (e : Env) (x : Commons) {h k : Hand} {free : List GeneralCell}
    (hcells : (free ++ k.cells).Perm (x.pool.free ++ h.cells)) (hnames : k.names = h.names)
    (hreserve : k.reserve = h.reserve) : Flows e x h (evalPool e (x.setFree free)) k := by
  have hflows := evalPool_flows e (x.setFree free) k
  refine ⟨?_, fun hx => evalPool_agrees e ⟨hx.1, hx.2.1⟩, fun names hx => ?_, fun hs => ?_, hflows.idle,
    hflows.down, hflows.waits⟩
  · have hrest := (List.perm_append_comm_assoc free _ k.cells).trans
      ((hcells.append_left (x.frames.flatMap (·.record.cellList))).trans
        (List.perm_append_comm_assoc _ x.pool.free h.cells))
    have hsame : ∀ a b c : List GeneralCell, a ++ b ++ c = a ++ (b ++ c) := List.append_assoc
    refine hflows.cells.trans ?_
    rw [Commons.cells, Commons.cells, hsame, hsame]
    exact hrest
  · exact hflows.holders names (hnames ▸ ⟨hx.nodup, hx.held, hx.stored⟩)
  · obtain ⟨hfits, hsum⟩ := hflows.reserve hs
    exact ⟨hfits, hreserve ▸ hsum⟩

/-- Cells in hand return to the pool. -/
theorem giveGeneral_flows (e : Env) (cells : List GeneralCell) (x : Commons) (h : Hand) :
    Flows e x (h.addCells cells) (giveGeneral e cells x) h := by
  refine evalPool_setFree_flows e x ?_ rfl rfl
  rw [Hand.addCells, List.append_assoc]

/-- A cell comes from the pool to hand. -/
theorem takeGeneral_flows (e : Env) {x : Commons} (h : Hand) {c : GeneralCell} {rest : List GeneralCell}
    (hfree : x.pool.free = c :: rest) : Flows e x h (takeGeneral e x) (h.addCells [c]) := by
  refine evalPool_setFree_flows e x ?_ rfl rfl
  rw [hfree]
  exact List.perm_middle

/-! ### Holders (R132) -/

/-- The frames that a dropped holder leaves and the cells that come free are those of before. -/
theorem dropHolder_cells (id : Nat) (frames : List RxFrame) :
    ((dropHolder id frames).2 ++ (dropHolder id frames).1.flatMap (·.record.cellList)).Perm
      (frames.flatMap (·.record.cellList)) := by
  induction frames with
  | nil => exact .refl _
  | cons f rest ih =>
    unfold dropHolder
    split
    · split
      · exact .refl _
      · exact .refl _
    · dsimp only
      rw [List.flatMap_cons, List.flatMap_cons]
      exact (List.perm_append_comm_assoc _ _ _).trans (ih.append_left _)

/-- A dropped holder leaves the other frames, and the frame it held with one holder fewer where it had more than
one. -/
theorem mem_dropHolder {id : Nat} {frames : List RxFrame} (hnodup : (frames.map (·.id)).Nodup)
    {f : RxFrame} : f ∈ (dropHolder id frames).1 ↔ (f ∈ frames ∧ f.id ≠ id) ∨
      ∃ g ∈ frames, g.id = id ∧ 1 < g.holders ∧ f = { g with holders := g.holders - 1 } := by
  induction frames with
  | nil => simp [dropHolder]
  | cons g rest ih =>
    obtain ⟨hfresh, hrest⟩ := List.nodup_cons.mp hnodup
    have hother : ∀ i ∈ rest, i.id ≠ g.id := fun i hi he => hfresh (List.mem_map.mpr ⟨i, hi, he⟩)
    unfold dropHolder
    split
    · rename_i hg
      subst hg
      split
      · rename_i hlast
        constructor
        · exact fun hf => .inl ⟨List.mem_cons_of_mem _ hf, hother f hf⟩
        · rintro (⟨hf, hne⟩ | ⟨i, hi, hid, hmore, -⟩)
          · exact (List.mem_cons.mp hf).resolve_left fun he => hne (he ▸ rfl)
          · rcases List.mem_cons.mp hi with rfl | hi
            · omega
            · exact absurd hid (hother i hi)
      · rename_i hmore
        rw [List.mem_cons]
        constructor
        · rintro (rfl | hf)
          · exact .inr ⟨g, List.mem_cons_self, rfl, by omega, rfl⟩
          · exact .inl ⟨List.mem_cons_of_mem _ hf, hother f hf⟩
        · rintro (⟨hf, hne⟩ | ⟨i, hi, hid, -, rfl⟩)
          · exact .inr ((List.mem_cons.mp hf).resolve_left fun he => hne (he ▸ rfl))
          · rcases List.mem_cons.mp hi with rfl | hi
            · exact .inl rfl
            · exact absurd hid (hother i hi)
    · rename_i hg
      simp only [List.mem_cons, ih hrest]
      constructor
      · rintro (rfl | ⟨hf, hne⟩ | ⟨i, hi, h⟩)
        · exact .inl ⟨.inl rfl, hg⟩
        · exact .inl ⟨.inr hf, hne⟩
        · exact .inr ⟨i, .inr hi, h⟩
      · rintro (⟨rfl | hf, hne⟩ | ⟨i, rfl | hi, hid, h⟩)
        · exact .inl rfl
        · exact .inr (.inl ⟨hf, hne⟩)
        · exact absurd hid hg
        · exact .inr (.inr ⟨i, hi, hid, h⟩)

theorem dropHolder_ids (id : Nat) (frames : List RxFrame) :
    ((dropHolder id frames).1.map (·.id)).Sublist (frames.map (·.id)) := by
  induction frames with
  | nil => exact .refl _
  | cons f rest ih =>
    unfold dropHolder
    split
    · split
      · exact List.sublist_cons_self _ _
      · exact .refl _
    · exact ih.cons_cons _

/-- A holder in hand is released: the names left agree with the frames left. -/
theorem Counted.dropHolder {x y : Commons} {id : Nat} {names : List Nat} (hx : x.Counted (id :: names))
    (hframes : y.frames = (Commons.dropHolder id x.frames).1) (hnext : y.nextFrame = x.nextFrame)
    (hpunts : y.events.puntQueue = x.events.puntQueue) : y.Counted names := by
  have hmem := @mem_dropHolder id x.frames hx.nodup
  have hcount : ∀ f ∈ x.frames,
      f.holders = (if id = f.id then 1 else 0) + (names ++ x.events.puntQueue).count f.id := fun f hf => by
    rw [(hx.held f hf).2.2, List.cons_append, List.count_cons]
    simp only [beq_iff_eq]
    omega
  refine ⟨?_, fun f hf => ?_, fun j hj => ?_⟩
  · rw [hframes]
    exact (dropHolder_ids id x.frames).nodup hx.nodup
  · rw [hframes, hmem] at hf
    rw [hnext, hpunts]
    rcases hf with ⟨hf, hne⟩ | ⟨g, hg, hid, hmore, rfl⟩
    · obtain ⟨hid, hone, -⟩ := hx.held f hf
      have := hcount f hf
      rw [if_neg (Ne.symm hne), Nat.zero_add] at this
      exact ⟨hid, hone, this⟩
    · obtain ⟨hlt, -, -⟩ := hx.held g hg
      have := hcount g hg
      rw [if_pos hid.symm] at this
      refine ⟨hlt, ?_, ?_⟩ <;> dsimp only <;> omega
  · rw [hpunts] at hj
    obtain ⟨f, hf, rfl⟩ := List.mem_map.mp (hx.stored j (by rw [List.cons_append]; exact .tail _ hj))
    rw [hframes]
    by_cases hid : id = f.id
    · have hpos := List.count_pos_iff.mpr hj
      have := hcount f hf
      rw [if_pos hid] at this
      exact List.mem_map.mpr ⟨{ f with holders := f.holders - 1 },
        hmem.mpr (.inr ⟨f, hf, hid.symm, by omega, rfl⟩), rfl⟩
    · exact List.mem_map.mpr ⟨f, hmem.mpr (.inl ⟨hf, Ne.symm hid⟩), rfl⟩

/-- A holder in hand is released, and with the last one its frame. -/
theorem release_flows (e : Env) (id : Nat) (x : Commons) (h : Hand) :
    Flows e x (h.addNames [id]) (release e id x) h := by
  obtain ⟨hframes, hfree, -, -, hnext, -, -, -, -, -, -, hpunts, -⟩ := release_frame e id x
  have hcells := dropHolder_cells id x.frames
  have hstored : ∀ names, x.Counted (id :: (h.names ++ names)) → (release e id x).Counted (h.names ++ names) :=
    fun names hx => hx.dropHolder hframes hnext hpunts
  have hall : (Commons.cells (release e id x) ++ h.cells).Perm (x.cells ++ h.cells) := by
    rw [Commons.cells, Commons.cells, hframes, hfree, List.append_assoc x.pool.free]
    exact (hcells.append_left _).append_right _
  have hgiven : release e id x = { x with frames := (dropHolder id x.frames).1 } ∨
      release e id x = giveGeneral e (dropHolder id x.frames).2
        { x with frames := (dropHolder id x.frames).1 } := by
    unfold release
    split
    · exact .inl rfl
    · exact .inr rfl
  rcases hgiven with heq | heq
  · refine ⟨hall, ?_, fun names hx => hstored names hx, ?_, ?_, ?_, ?_⟩ <;> rw [heq]
    · exact fun hx => hx
    · exact fun hs => ⟨hs, rfl⟩
    · exact fun hx => hx
    · exact fun _ _ => rfl
    · exact fun _ _ hx => hx
  · have hflows := giveGeneral_flows e (dropHolder id x.frames).2
      { x with frames := (dropHolder id x.frames).1 } h
    rw [← heq] at hflows
    exact ⟨hall, hflows.pool, fun names hx => hstored names hx, hflows.reserve, hflows.idle, hflows.down,
      hflows.waits⟩

end Commons
end Sys2Proof.Machine
end

section
/-! PROOF. Stored frames and their holders, the reserve arbiter, the withdrawal and refusal of builders and the
sender's rows (R131, R132, R140, R173 to R179). -/

set_option Elab.async false

namespace Sys2Proof.Machine
open Sys2Proof.Safety
namespace Commons

/-- A frame that is held, or that the hand holds, gains a holder that comes to hand. -/
theorem hold_flows (e : Env) {id : Nat} (x : Commons) (h : Hand) (hheld : id ∈ h.names) :
    Flows e x h (hold id x) (h.addNames [id]) := by
  have hids : (hold id x).frames.map (·.id) = x.frames.map (·.id) := by
    rw [hold_frames, List.map_map]
    exact List.map_congr_left fun f _ => by dsimp only [Function.comp]; split <;> rfl
  refine ⟨?_, fun hx => hx, fun names hx => ⟨hids ▸ hx.nodup, fun f hf => ?_, fun j hj => ?_⟩,
    fun hs => ⟨hs, rfl⟩, fun hx => hx, fun _ _ => rfl, fun _ _ hx => hx⟩
  · rw [Commons.cells, Commons.cells, hold_pool, hold_frames, List.flatMap_map]
    have hlists : ∀ f : RxFrame, (if f.id = id then { f with holders := f.holders + 1 } else f).record.cellList
        = f.record.cellList := fun f => by split <;> rfl
    simp only [hlists]
    exact .refl _
  · rw [hold_frames, List.mem_map] at hf
    obtain ⟨g, hg, rfl⟩ := hf
    obtain ⟨hlt, hone, hcount⟩ := hx.held g hg
    rw [Hand.addNames, List.singleton_append, List.cons_append, List.cons_append, List.count_cons,
      (hold_frame id x).2.2.2.2.2.2]
    by_cases hid : g.id = id
    · rw [if_pos hid]
      refine ⟨hlt, Nat.le_add_left _ _, ?_⟩
      dsimp only
      rw [hcount, if_pos (by simp [hid])]
    · rw [if_neg hid]
      refine ⟨hlt, hone, ?_⟩
      rw [hcount, if_neg (by simp [Ne.symm hid]), Nat.add_zero]
  · rw [hids]
    rw [Hand.addNames, List.singleton_append, List.cons_append, List.cons_append] at hj
    rcases List.mem_cons.mp hj with rfl | hj
    · exact hx.stored _ (by simp [hheld])
    · exact hx.stored j hj

/-- A received frame is stored under a name of its own, with its cells from the hand and one holder in hand. -/
theorem store_flows (e : Env) (bytes : List Byte) (r : FrameRecord) (x : Commons) (h : Hand) :
    Flows e x (h.addCells r.cellList) (store bytes r x).1 (h.addNames [x.nextFrame]) := by
  refine ⟨?_, fun hx => hx, fun names hx => ?_, fun hs => ⟨hs, rfl⟩, fun hx => hx, fun _ _ => rfl,
    fun _ _ hx => hx⟩
  · simp only [Commons.cells, store, List.flatMap_append, List.flatMap_singleton, Hand.addCells, Hand.addNames,
      List.append_assoc]
    exact .refl _
  · have hfresh : x.nextFrame ∉ x.frames.map (·.id) := fun hmem => by
      obtain ⟨f, hf, hid⟩ := List.mem_map.mp hmem
      have := (hx.held f hf).1
      omega
    have hunnamed : x.nextFrame ∉ h.names ++ names ++ x.events.puntQueue := fun hmem =>
      hfresh (hx.stored _ hmem)
    have hids : (store bytes r x).1.frames.map (·.id) = x.frames.map (·.id) ++ [x.nextFrame] := by
      simp [store]
    refine ⟨?_, fun f hf => ?_, fun j hj => ?_⟩
    · rw [hids]
      exact List.nodup_append.mpr ⟨hx.nodup, List.nodup_singleton _, fun a ha b hb hab => by
        rw [List.mem_singleton] at hb
        exact hfresh (hb ▸ hab ▸ ha)⟩
    · rw [Hand.addNames, List.singleton_append, List.cons_append, List.cons_append, List.count_cons]
      rcases List.mem_append.mp hf with hf | hf
      · obtain ⟨hlt, hone, hcount⟩ := hx.held f hf
        refine ⟨Nat.lt_succ_of_lt hlt, hone, hcount.trans ?_⟩
        rw [if_neg (by simp; omega)]
        rfl
      · rw [List.mem_singleton.mp hf]
        refine ⟨Nat.lt_succ_self _, Nat.le_refl 1, ?_⟩
        rw [if_pos (beq_self_eq_true _)]
        exact (congrArg (· + 1) (List.count_eq_zero_of_not_mem hunnamed)).symm
    · rw [hids, List.mem_append, List.mem_singleton]
      rw [Hand.addNames, List.singleton_append, List.cons_append, List.cons_append] at hj
      rcases List.mem_cons.mp hj with rfl | hj
      · exact .inr rfl
      · exact .inl (hx.stored j hj)

/-- A classified record leaves its frame's name, holders and cells. -/
theorem classified_flows (e : Env) (id : Nat) (r : FrameRecord) (x : Commons) (h : Hand) :
    Flows e x h (updateFrame id (fun f => f.classified r) x) h := by
  have hsame : ∀ f : RxFrame, (if f.id = id then f.classified r else f).id = f.id ∧
      (if f.id = id then f.classified r else f).holders = f.holders ∧
      (if f.id = id then f.classified r else f).record.cellList = f.record.cellList := fun f => by
    split <;> exact ⟨rfl, rfl, rfl⟩
  have hids : (updateFrame id (fun f => f.classified r) x).frames.map (·.id) = x.frames.map (·.id) := by
    simp only [updateFrame, List.map_map, Function.comp_def, hsame]
  refine ⟨?_, fun hx => hx, fun names hx => ⟨hids ▸ hx.nodup, fun f hf => ?_, fun j hj => hids ▸ hx.stored j hj⟩,
    fun hs => ⟨hs, rfl⟩, fun hx => hx, fun _ _ => rfl, fun _ _ hx => hx⟩
  · simp only [Commons.cells, updateFrame, List.flatMap_map, hsame]
    exact .refl _
  · obtain ⟨g, hg, rfl⟩ := List.mem_map.mp hf
    obtain ⟨hid, hholders, -⟩ := hsame g
    rw [hid, hholders]
    exact hx.held g hg

/-! ### The punt side's grant and the arbiter (R131, R179) -/

/-- A granted punt claim takes the head entry, whose holder comes to hand. -/
theorem takeEntry_flows (e : Env) {x : Commons} (h : Hand) {id : Nat} {rest : List Nat}
    (hqueue : x.events.puntQueue = id :: rest) (hpunt : x.events.punt = .claiming) :
    Flows e x h { x with events := { x.events with puntQueue := rest, punt := .idle } }
      (h.addNames [id]) := by
  refine ⟨.refl _, fun hx => hx, fun names hx => ?_, fun hs => ⟨hs, ?_⟩, fun hx => hx, fun _ _ => rfl,
    fun _ _ hx => hx⟩
  · have hmoved : (id :: (h.names ++ names) ++ rest).Perm (h.names ++ names ++ id :: rest) :=
      List.perm_middle.symm
    refine ⟨hx.nodup, fun f hf => ?_, fun j hj => ?_⟩
    · obtain ⟨hlt, hone, hcount⟩ := hx.held f hf
      rw [hqueue] at hcount
      exact ⟨hlt, hone, hcount.trans (hmoved.count_eq _).symm⟩
    · exact hx.stored j (by rw [hqueue]; exact hmoved.mem_iff.mp hj)
  · simp only [reserve, hpunt, puntReserve]
    rfl

theorem grantPunt_flows (e : Env) (x : Commons) (h : Hand) : Flows e x h (grantPunt e x) h := by
  unfold grantPunt
  split
  · rename_i l id rest hpunt _ hqueue
    split
    · rename_i f _
      dsimp only
      split
      · rename_i hcover
        obtain ⟨n, hn⟩ : ∃ n, n = (puntReport l e.nodeAddress f).cells := ⟨_, rfl⟩
        have htaken := takeReserve_flows e h hcover
        have hentry := takeEntry_flows e (x := x.takeReserve (puntReport l e.nodeAddress f).cells)
          (h.addReserve (puntReport l e.nodeAddress f).cells) hqueue hpunt
        refine ((htaken.trans hentry).trans (release_flows e id _ _)).trans (offerPunt_flows e h _ ?_)
        simp only [release_frame]
        rfl
      · exact .refl e x h
    · exact .refl e x h
  · exact .refl e x h

theorem arbiter_flows (e : Env) (x : Commons) (h : Hand) : Flows e x h (arbiter e x) h := by
  have hresponse := grantResponse_flows e x h
  have hevent := hresponse.trans (grantEvent_flows e _ h)
  unfold arbiter
  dsimp only
  split
  · exact hresponse
  · split
    · exact hevent
    · exact hevent.trans (grantPunt_flows e _ h)

theorem releaseReserve_flows (e : Env) (n : Nat) (x : Commons) (h : Hand) :
    Flows e x (h.addReserve n) (releaseReserve e n x) h :=
  (giveReserve_flows e x h n).trans (arbiter_flows e _ h)

theorem claimPunt_flows (e : Env) (x : Commons) (h : Hand) : Flows e x h (claimPunt e x) h := by
  unfold claimPunt
  split
  · exact .refl e x h
  · exact grantPunt_flows e x h

/-! ### Waiting offers (R140) -/

theorem admitWaitingResponse_flows (e : Env) (p : Port) (x : Commons) (h : Hand) :
    Flows e x h (admitWaitingResponse e p x) h := by
  unfold admitWaitingResponse
  split
  · rename_i b hoffers
    split
    · rename_i hjoins
      obtain ⟨rfl, hup, -⟩ := hjoins
      exact admitResponse_flows h (n := 0) hup (by simp [hoffers]) (by simp [hoffers, outputReserve])
    · exact .refl e x h
  · exact .refl e x h

theorem admitWaitingEvent_flows (e : Env) (p : Port) (x : Commons) (h : Hand) :
    Flows e x h (admitWaitingEvent e p x) h := by
  unfold admitWaitingEvent
  split
  · rename_i w hsender
    split
    · rename_i b hflight
      split
      · rename_i hjoins
        obtain ⟨rfl, hup, -, -⟩ := hjoins
        exact admitEvent_flows h (n := 0) hup hsender (by simp [hsender, senderReserve, hflight])
      · exact .refl e x h
    · exact .refl e x h
  · exact .refl e x h

theorem admitWaitingPunt_flows (e : Env) (p : Port) (x : Commons) (h : Hand) :
    Flows e x h (admitWaitingPunt e p x) h := by
  unfold admitWaitingPunt
  split
  · rename_i b hpunt
    split
    · rename_i hjoins
      obtain ⟨rfl, hup, -, -, -⟩ := hjoins
      have hoffered : puntReserve x.events.punt = b.cells := by rw [hpunt]; rfl
      refine .of_stock (by simp [stock, admitPunt]) rfl rfl (fun hs => ⟨?_, ?_⟩) (by simp)
        (fun _ => pushMgmtOut_down hup)
        (fun p _ => by simp [eventOfferWaits])
      · simpa [senderFits] using hs
      have hq : (x.admitPunt b).queued = x.queued + b.cells := pushMgmtOut_queued x b
      have ho : puntReserve (x.admitPunt b).events.punt = 0 := rfl
      simp only [reserve, hq, ho, hoffered, admitPunt_frame]
      omega
    · exact .refl e x h
  · exact .refl e x h

theorem admitOffers_flows (e : Env) (p : Port) (x : Commons) (h : Hand) : Flows e x h (admitOffers e p x) h :=
  ((admitWaitingResponse_flows e p x h).trans (admitWaitingEvent_flows e p _ h)).trans
    (admitWaitingPunt_flows e p _ h)

/-! ### Withdrawals and fates (R143, R173 to R176, R179) -/

/-- After a withdrawal the sender has neither a claim nor a waiting report. -/
theorem withdrawEvent_flight (x : Commons) {w : Awaiting} (hw : x.withdrawEvent.events.sender = .awaiting w) :
    w.flight ≠ .claiming ∧ ∀ b, w.flight ≠ .offering b := by
  unfold withdrawEvent at hw
  split at hw
  · split at hw
    · cases hw
      exact ⟨nofun, fun _ => nofun⟩
    · cases hw
      exact ⟨nofun, fun _ => nofun⟩
    · rename_i v hsender _ hclaims hoffers
      rw [hsender] at hw
      cases hw
      exact ⟨hclaims, hoffers⟩
  · rename_i hsender
    rw [hsender] at hw
    cases hw

/-- After a withdrawal the sender holds no reserve cell. -/
theorem withdrawEvent_senderReserve (x : Commons) : senderReserve x.withdrawEvent.events.sender = 0 := by
  cases hsender : x.withdrawEvent.events.sender with
  | idle => rfl
  | awaiting w =>
    have hnone := (x.withdrawEvent_flight hsender).2
    cases hflight : w.flight with
    | offering b => exact absurd hflight (hnone b)
    | _ => simp [senderReserve, hflight]

/-- After a withdrawal no event report waits at any port. -/
theorem withdrawEvent_offers (x : Commons) (p : Port) : x.withdrawEvent.eventOfferWaits p = false := by
  unfold eventOfferWaits
  split
  · rename_i w hsender
    split
    · rename_i b hflight
      exact absurd hflight ((x.withdrawEvent_flight hsender).2 b)
    · rfl
  · rfl

/-- A flight without a report in it, for the sender of a fitting event unit whose timer does not run. -/
theorem senderFits_setFlight {x : Commons} {w v : Awaiting} (hsender : x.events.sender = .awaiting w)
    (htimer : v.timer = true → v.flight = .queued) (hflight : ∀ b, v.flight ≠ .offering b)
    (hs : senderFits x.events = true) : senderFits (x.setSender (.awaiting v)).events = true := by
  obtain ⟨l, hl, hq, -, -⟩ := (senderFits_awaiting hsender).mp hs
  exact (senderFits_awaiting rfl).mpr ⟨l, hl, hq, htimer, fun b hb => absurd hb (hflight b)⟩

/-- The sender's timer does not run where its report is neither queued nor on the line. -/
theorem timer_stopped {x : Commons} {w : Awaiting} (hsender : x.events.sender = .awaiting w)
    (hflight : w.flight ≠ .queued) (hs : senderFits x.events = true) : w.timer = false := by
  obtain ⟨-, -, -, htimer, -⟩ := (senderFits_awaiting hsender).mp hs
  cases ht : w.timer
  · rfl
  · exact absurd (htimer ht) hflight

theorem withdrawEvent_flows (e : Env) (x : Commons) (h : Hand) : Flows e x h x.withdrawEvent h := by
  unfold withdrawEvent
  split
  · rename_i w hsender
    split
    · rename_i hflight
      exact setSender_flows e h (n := 0)
        (fun hs => senderFits_setFlight hsender (by simp [timer_stopped hsender (by simp [hflight]) hs]) (by simp) hs)
        (fun _ => by simp [hsender, senderReserve, hflight]) fun _ _ _ => rfl
    · rename_i b hflight
      have hwithdrawn : Flows e x h (x.setSender (.awaiting { w with flight := .none }))
          (h.addReserve b.cells) := by
        refine .of_stock rfl rfl rfl (fun hs => ⟨senderFits_setFlight hsender
          (by simp [timer_stopped hsender (by simp [hflight]) hs]) (by simp) hs, ?_⟩) (fun hx => hx) (fun _ _ => rfl) fun _ _ _ => rfl
        have hq : (x.setSender (.awaiting { w with flight := .none })).queued = x.queued := rfl
        have hheld : senderReserve x.events.sender = b.cells := by simp [hsender, senderReserve, hflight]
        have hnone : senderReserve (.awaiting { w with flight := .none }) = 0 := rfl
        simp only [reserve, hq, hheld, hnone, setSender_pool, setSender_output, setSender_sender, setSender_punt,
          Hand.addReserve]
        omega
      exact hwithdrawn.trans (giveReserve_flows e _ h b.cells)
    · exact .refl e x h
  · exact .refl e x h

theorem withdrawPunt_flows (e : Env) (x : Commons) (h : Hand) : Flows e x h x.withdrawPunt h := by
  unfold withdrawPunt
  split
  · rename_i hpunt
    exact setPunt_flows e h (n := 0) (by rw [hpunt]; rfl)
  · rename_i b hpunt
    have hheld : puntReserve x.events.punt = b.cells := by rw [hpunt]; rfl
    have hwithdrawn : Flows e x h (x.setPunt .idle) (h.addReserve b.cells) := by
      refine .of_stock rfl rfl rfl (fun hs => ⟨hs, ?_⟩) (fun hx => hx) (fun _ _ => rfl) fun _ _ hx => hx
      have hq : (x.setPunt .idle).queued = x.queued := rfl
      have hnone : puntReserve .idle = 0 := rfl
      simp only [reserve, hq, hheld, hnone, setPunt_pool, setPunt_output, setPunt_sender, setPunt_punt,
        Hand.addReserve]
      omega
    exact hwithdrawn.trans (giveReserve_flows e _ h b.cells)
  · exact .refl e x h

/-- The response claim that waits to leave through `p` is withdrawn, and lost (R153). -/
def withdrawResponseClaim (p : Port) (x : Commons) : Commons :=
  match x.output with
  | .claiming b => if b.port = p then x.loseResponse b else x
  | _ => x

/-- The claim of a report to a listener on `p` is withdrawn (R175). -/
def withdrawEventClaim (p : Port) (x : Commons) : Commons :=
  if x.listensOn p && x.eventClaimWaits then x.withdrawEvent else x

/-- The claim of a punt report to a listener on `p` is withdrawn (R179). -/
def withdrawPuntClaim (p : Port) (x : Commons) : Commons :=
  if x.listensOn p && decide (x.events.punt = .claiming) then x.withdrawPunt else x

theorem withdrawClaimsFor_eq (p : Port) (x : Commons) :
    withdrawClaimsFor p x = withdrawPuntClaim p (withdrawEventClaim p (withdrawResponseClaim p x)) := rfl

/-- A response that waits at `p` is refused, and lost (R153). -/
def refuseResponse (p : Port) (x : Commons) : Commons :=
  match x.output with
  | .offering b => if b.port = p then (x.giveReserve b.cells).loseResponse b else x
  | _ => x

/-- An event report that waits at `p` is refused (R175). -/
def refuseEvent (p : Port) (x : Commons) : Commons := if x.eventOfferWaits p then x.withdrawEvent else x

/-- A punt report that waits at `p` is refused (R179). -/
def refusePunt (p : Port) (x : Commons) : Commons :=
  match x.events.punt with
  | .offering b => if b.port = p then x.withdrawPunt else x
  | _ => x

theorem refuseOffersAt_eq (p : Port) (x : Commons) :
    refuseOffersAt p x = refusePunt p (refuseEvent p (refuseResponse p x)) := rfl

theorem withdrawResponseClaim_flows (e : Env) (p : Port) (x : Commons) (h : Hand) :
    Flows e x h (withdrawResponseClaim p x) h := by
  unfold withdrawResponseClaim
  split
  · rename_i b hclaims
    split
    · have hlost := loseResponse_flows (e := e) (x := x) h b (by simp [hclaims])
      rwa [hclaims] at hlost
    · exact .refl e x h
  · exact .refl e x h

theorem withdrawClaimsFor_flows (e : Env) (p : Port) (x : Commons) (h : Hand) :
    Flows e x h (withdrawClaimsFor p x) h := by
  have hevent : ∀ y, Flows e y h (withdrawEventClaim p y) h := fun y => by
    unfold withdrawEventClaim
    split
    · exact withdrawEvent_flows e y h
    · exact .refl e y h
  have hpunt : ∀ y, Flows e y h (withdrawPuntClaim p y) h := fun y => by
    unfold withdrawPuntClaim
    split
    · exact withdrawPunt_flows e y h
    · exact .refl e y h
  exact ((withdrawResponseClaim_flows e p x h).trans (hevent _)).trans (hpunt _)

theorem refuseResponse_flows (e : Env) (p : Port) (x : Commons) (h : Hand) :
    Flows e x h (refuseResponse p x) h := by
  unfold refuseResponse
  split
  · rename_i b hoffers
    split
    · have hlost := loseResponse_flows (e := e) (x := x) h b (by simp [hoffers])
      rw [hoffers] at hlost
      exact hlost.trans (giveReserve_flows e _ h b.cells)
    · exact .refl e x h
  · exact .refl e x h

theorem refusePunt_flows (e : Env) (p : Port) (x : Commons) (h : Hand) : Flows e x h (refusePunt p x) h := by
  unfold refusePunt
  split
  · split
    · exact withdrawPunt_flows e x h
    · exact .refl e x h
  · exact .refl e x h

theorem refuseOffersAt_flows (e : Env) (p : Port) (x : Commons) (h : Hand) :
    Flows e x h (refuseOffersAt p x) h := by
  have hevent : ∀ y, Flows e y h (refuseEvent p y) h := fun y => by
    unfold refuseEvent
    split
    · exact withdrawEvent_flows e y h
    · exact .refl e y h
  exact ((refuseResponse_flows e p x h).trans (hevent _)).trans (refusePunt_flows e p _ h)

/-- Refused offers leave no event report waiting at the port. -/
theorem refuseOffersAt_offers (p : Port) (x : Commons) : (refuseOffersAt p x).eventOfferWaits p = false := by
  have hevent : ∀ y, (refuseEvent p y).eventOfferWaits p = false := fun y => by
    unfold refuseEvent
    split
    · exact y.withdrawEvent_offers p
    · simp_all
  have hpunt : ∀ y, (refusePunt p y).eventOfferWaits p = y.eventOfferWaits p := fun y => by
    unfold refusePunt
    split
    · split <;> simp [eventOfferWaits]
    · rfl
  rw [refuseOffersAt_eq, hpunt, hevent]

theorem reportFate_flows (e : Env) (fate : Fate) (b : Built) (x : Commons) (h : Hand) :
    Flows e x h (reportFate fate b x) h := by
  unfold reportFate
  split
  · split
    · rename_i hpending
      exact setOutput_flows e h (n := 0) (mgmt := x.mgmt) (by simp [hpending]) (by rw [hpending]; rfl)
    · exact .refl e x h
  · exact .refl e x h
  · exact .refl e x h
  · split
    · exact setOutput_flows e h (n := 0) (o := x.output) (fun hx => hx) (Nat.zero_add _).symm
    · exact .refl e x h

/-- A held head loses no reserve cell where no report of it waits at the port (R175). -/
theorem holdHead_flows (e : Env) {p : Port} {x : Commons} (h : Hand) (hnone : x.eventOfferWaits p = false) :
    Flows e x h (holdHead p x) h := by
  unfold holdHead
  split
  · rename_i w hsender
    split
    · rename_i hlistens
      refine setSender_flows e h (n := 0) (senderFits_setFlight hsender (by simp) (by simp)) (fun hs => ?_)
        fun _ _ _ => rfl
      obtain ⟨l, hl, -, -, hoffer⟩ := (senderFits_awaiting hsender).mp hs
      have hport : l.port = p := by simpa [listensOn, hl] using hlistens
      cases hflight : w.flight with
      | offering b => simp [eventOfferWaits, hsender, hflight, hoffer b hflight, hport] at hnone
      | _ => simp [hsender, senderReserve, hflight]
    · exact .refl e x h
  · exact .refl e x h

theorem resend_flows (e : Env) (retry : Nat) (x : Commons) (h : Hand) : Flows e x h (resend e retry x) h := by
  refine (withdrawEvent_flows e x h).trans ?_
  unfold resend
  dsimp only
  split
  · rename_i w l hsender _
    have hset : ∀ fl : Flight, (∀ b, fl ≠ .offering b) → Flows e x.withdrawEvent h
        (x.withdrawEvent.setSender (.awaiting { w with retry := retry, timer := false, flight := fl })) h := by
      intro fl hfl
      refine setSender_flows e h (n := 0) (senderFits_setFlight hsender (by simp) hfl) (fun _ => ?_)
        fun p _ _ => ?_
      · rw [withdrawEvent_senderReserve]
        cases fl with
        | offering b => exact absurd rfl (hfl b)
        | _ => rfl
      · cases fl with
        | offering b => exact absurd rfl (hfl b)
        | _ => rfl
    split
    · exact (hset .claiming (by simp)).trans (claimEvent_flows e _ h)
    · exact hset .none (by simp)
  · exact .refl e _ h

theorem resumeSender_flows (e : Env) (p : Port) (x : Commons) (h : Hand) :
    Flows e x h (resumeSender e p x) h := by
  unfold resumeSender
  split
  · split
    · exact resend_flows e 0 x h
    · exact .refl e x h
  · exact trySend_flows e x h

/-! ### The event unit (R173 to R179) -/

theorem judgeRest_flows (e : Env) (x : Commons) (h : Hand) : Flows e x h (judgeRest e x) h :=
  ((arbiter_flows e x h).trans (admitOffers_flows e .a _ h)).trans (admitOffers_flows e .b _ h)

/-- A sender without reserve cells becomes idle, whatever then stands in the event queue and the listener. -/
theorem idleSender_flows (e : Env) {x : Commons} (h : Hand) (listener : Option Listener)
    (queue : List EventRecord) (lost : Word16) (mgmt : MgmtCounters)
    (hnone : senderFits x.events = true → senderReserve x.events.sender = 0) :
    Flows e x h { x with
      events := { x.events with listener := listener, queue := queue, lost := lost, sender := .idle }
      mgmt := mgmt } h := by
  refine .of_stock rfl rfl rfl (fun hs => ⟨rfl, ?_⟩) (fun hx => hx) (fun _ _ => rfl) (fun _ _ _ => rfl)
  have := hnone hs
  simp only [reserve, this]
  rfl

theorem acknowledged_flows (e : Env) (captured : Word16) (x : Commons) (h : Hand) :
    Flows e x h (acknowledged e captured x) h := by
  have hdropped := idleSender_flows e h x.withdrawEvent.events.listener x.withdrawEvent.events.queue.tail
    (subFloor x.withdrawEvent.events.lost captured) x.withdrawEvent.mgmt
    fun _ => x.withdrawEvent_senderReserve
  exact (((withdrawEvent_flows e x h).trans hdropped).trans (judgeRest_flows e _ h)).trans
    (trySend_flows e _ h)

theorem ackEvent_flows (e : Env) (seq : Word16) {x y : Commons} (h : Hand) (hy : ackEvent e seq x = some y) :
    Flows e x h y h := by
  unfold ackEvent at hy
  split at hy
  · rename_i w _ _ _ _
    simp only [Option.ite_none_right_eq_some, Option.some.injEq] at hy
    exact hy.2 ▸ acknowledged_flows e w.captured x h
  · cases hy

theorem sendToNew_flows (e : Env) (x : Commons) (h : Hand) : Flows e x h (sendToNew e x) h := by
  unfold sendToNew
  split
  · exact resend_flows e 0 x h
  · exact trySend_flows e x h

/-- A sender without a waiting report takes a new listener (R176). -/
theorem setListener_flows (e : Env) {x : Commons} (h : Hand) (l : Listener)
    (hnone : ∀ w, x.events.sender = .awaiting w → ∀ b, w.flight ≠ .offering b) :
    Flows e x h { x with events := { x.events with listener := some l } } h := by
  refine .of_stock rfl rfl rfl (fun hs => ⟨?_, rfl⟩) (fun hx => hx) (fun _ _ => rfl) (fun _ _ hx => hx)
  cases hsender : x.events.sender with
  | idle => exact senderFits_idle hsender
  | awaiting w =>
    obtain ⟨-, -, hq, htimer, -⟩ := (senderFits_awaiting hsender).mp hs
    exact (senderFits_awaiting (u := { x.events with listener := some l }) hsender).mpr
      ⟨l, rfl, hq, htimer, fun b hb => absurd hb (hnone w hsender b)⟩

theorem replaceListener_flows (e : Env) (l : Listener) (x : Commons) (h : Hand) :
    Flows e x h (replaceListener e l x) h := by
  have hset := setListener_flows e (x := x.withdrawEvent.withdrawPunt) h l fun w hw => by
    simp only [withdrawPunt_frame] at hw
    exact (x.withdrawEvent_flight hw).2
  exact ((((withdrawEvent_flows e x h).trans (withdrawPunt_flows e _ h)).trans hset).trans
    (judgeRest_flows e _ h)).trans (sendToNew_flows e _ h)

theorem clearListener_flows (e : Env) (x : Commons) (h : Hand) : Flows e x h (clearListener e x) h := by
  have hcleared := idleSender_flows e (x := x.withdrawEvent.withdrawPunt) h none
    x.withdrawEvent.withdrawPunt.events.queue x.withdrawEvent.withdrawPunt.events.lost
    x.withdrawEvent.withdrawPunt.mgmt fun _ => by
      simp only [withdrawPunt_frame, withdrawEvent_senderReserve]
  exact (((withdrawEvent_flows e x h).trans (withdrawPunt_flows e _ h)).trans hcleared).trans
    (judgeRest_flows e _ h)

theorem retryExpiry_flows (e : Env) (x : Commons) (h : Hand) : Flows e x h (retryExpiry e x) h := by
  unfold retryExpiry
  split
  · rename_i w hsender
    split
    · rename_i htimer
      split
      · exact resend_flows e _ x h
      · have hdropped := idleSender_flows e h x.events.listener x.events.queue.tail (satInc x.events.lost)
          { x.mgmt with eventsLost := satInc x.mgmt.eventsLost } fun hs => by
            obtain ⟨-, -, -, hqueued, -⟩ := (senderFits_awaiting hsender).mp hs
            simp [hsender, senderReserve, hqueued htimer]
        exact hdropped.trans (trySend_flows e _ h)
    · exact .refl e x h
  · exact .refl e x h

theorem puntTake_flows (e : Env) (x : Commons) (h : Hand) : Flows e x h (puntTake e x) h := by
  unfold puntTake
  split
  · rename_i hpunt _
    split
    · exact (setPunt_flows e h (n := 0) (by rw [hpunt]; rfl)).trans (claimPunt_flows e _ h)
    · exact .refl e x h
  · exact .refl e x h

end Commons
end Sys2Proof.Machine
end

section
/-! PROOF. What the part holds: the cells, holders and reserve cells of the shared blocks, of the ports and of the
queues of names, and how every happening moves them about without losing one (R121 to R147). -/

set_option Elab.async false

namespace Sys2Proof.Machine

open Sys2Proof.Safety

/-! ### What the part holds -/

/-- The names of frames in the class queues and the transmitter of a port. -/
def PortUnit.names (u : PortUnit) : List Nat :=
  txFrames u.tx ++ u.queues.toList.flatMap fun q => q.entries.map (·.frame)

/-- What a port holds: the cells of its reception, the frames of its copies, the reserve cells on its line. -/
def PortUnit.held (u : PortUnit) : Hand :=
  { cells := receptionCells u.reception, names := u.names, reserve := txReserve u.tx }

/-- The names of frames that wait at the classifier and the endpoint. -/
def State.waiting (s : State) : List Nat :=
  s.classifier.ingressA ++ s.classifier.ingressB ++ s.endpoint.commands

/-- Names of frames outside the punt queue. -/
def State.names (s : State) : List Nat := s.waiting ++ (s.portA.names ++ s.portB.names)

/-- General cells of the part. -/
def State.cells (s : State) : List GeneralCell :=
  s.commons.cells ++ (s.portA.held.cells ++ s.portB.held.cells)

/-- Reserve cells of the part. -/
def State.reserve (s : State) : Nat := s.commons.reserve + (s.portA.held.reserve + s.portB.held.reserve)

/-- The class queues, the transmitter and the reception of a port hold nothing. -/
structure PortUnit.Empty (u : PortUnit) : Prop where
  reception : u.reception = none
  tx : u.tx = none
  queues : ∀ c, (u.queue c).entries = []

/-- A port and its management-out queue hold nothing. -/
def State.PortEmpty (s : State) (p : Port) : Prop := (s.port p).Empty ∧ s.commons.mgmtOut p = []

theorem State.cells_perm (s : State) (p : Port) : s.cells.Perm
    (s.commons.cells ++ ((s.port p).held.cells ++ (s.port (otherPort p)).held.cells)) := by
  cases p
  · exact .refl _
  · exact List.perm_append_comm.append_left _

theorem State.names_perm (s : State) (p : Port) : s.names.Perm
    (s.waiting ++ ((s.port p).names ++ (s.port (otherPort p)).names)) := by
  cases p
  · exact .refl _
  · exact List.perm_append_comm.append_left _

theorem State.reserve_eq (s : State) (p : Port) : s.reserve =
    s.commons.reserve + ((s.port p).held.reserve + (s.port (otherPort p)).held.reserve) := by
  cases p
  · rfl
  · exact congrArg _ (Nat.add_comm _ _)

theorem State.port_ne {p q : Port} (s : State) (u : PortUnit) (h : q ≠ p) : (s.setPort p u).port q = s.port q := by
  rw [eq_otherPort_of_ne h, State.setPort_port_other]

/-! ### Moves -/

/-- From `s` and the hand `h` to `t` and the hand `k` nothing is lost, the pool agrees with its marks where it did, and
an idle endpoint stays idle. -/
structure Balance (s : State) (h : Hand) (t : State) (k : Hand) : Prop where
  cells : (t.cells ++ k.cells).Perm (s.cells ++ h.cells)
  pool : s.commons.pool.Agrees → t.commons.pool.Agrees
  holders : s.commons.Counted (h.names ++ s.names) → t.commons.Counted (k.names ++ t.names)
  reserve : senderFits s.commons.events = true →
    senderFits t.commons.events = true ∧ t.reserve + k.reserve = s.reserve + h.reserve
  idle : s.commons.output = .idle → t.commons.output = .idle

/-- As `Balance`, where besides the ports keep their operational state, one that is not UP stays empty, and no event
report comes to wait at it. -/
structure Keeps (s : State) (h : Hand) (t : State) (k : Hand) : Prop extends Balance s h t k where
  oper : ∀ p, (t.port p).oper = (s.port p).oper
  down : ∀ p, (s.port p).oper ≠ .up → s.PortEmpty p → t.PortEmpty p
  waits : ∀ p, (s.port p).oper ≠ .up → s.commons.eventOfferWaits p = false →
    t.commons.eventOfferWaits p = false

section
variable {s t u : State} {h k m : Hand}

theorem Balance.refl (s : State) (h : Hand) : Balance s h s h :=
  ⟨.refl _, fun hs => hs, fun hs => hs, fun hs => ⟨hs, rfl⟩, fun hs => hs⟩

theorem Balance.trans (f : Balance s h t k) (g : Balance t k u m) : Balance s h u m where
  cells := g.cells.trans f.cells
  pool := g.pool ∘ f.pool
  holders := g.holders ∘ f.holders
  reserve hs := by
    obtain ⟨ht, hst⟩ := f.reserve hs
    obtain ⟨hu, htu⟩ := g.reserve ht
    exact ⟨hu, htu.trans hst⟩
  idle := g.idle ∘ f.idle

/-- What a port holds and what a hand holds go over into one another. -/
structure Hand.Exchanges (a h b k : Hand) : Prop where
  cells : (b.cells ++ k.cells).Perm (a.cells ++ h.cells)
  names : (b.names ++ k.names).Perm (a.names ++ h.names)
  reserve : b.reserve + k.reserve = a.reserve + h.reserve

theorem Hand.Exchanges.of_eq {a b : Hand} (hab : b = a) (h : Hand) : Hand.Exchanges a h b h :=
  hab ▸ ⟨.refl _, .refl _, rfl⟩

/-- A port takes up what another version of it and the hand held. -/
theorem Balance.setPort {p : Port} {u : PortUnit} (hu : Hand.Exchanges (s.port p).held h u.held k) :
    Balance s h (s.setPort p u) k := by
  have hcommons : (s.setPort p u).commons = s.commons := s.setPort_commons p u
  have hswap : ∀ {α : Type} (a b c d : List α), (a ++ (b ++ c) ++ d).Perm (a ++ (c ++ (b ++ d))) :=
    fun a b c d => by
      rw [List.append_assoc]
      refine List.Perm.append_left a ?_
      rw [List.append_assoc]
      exact List.perm_append_comm_assoc b c d
  refine ⟨?_, by rw [hcommons]; exact fun hs => hs, fun hs => ?_, ?_, by rw [hcommons]; exact fun hs => hs⟩
  · refine (((State.cells_perm _ p).append_right k.cells).trans (hswap _ _ _ _)).trans (.symm ?_)
    rw [hcommons, State.setPort_port, State.setPort_port_other]
    exact (((s.cells_perm p).append_right h.cells).trans (hswap _ _ _ _)).trans
      ((hu.cells.symm.append_left _).append_left _)
  · rw [hcommons]
    refine hs.perm ?_
    have hold := (((s.names_perm p).append_right h.names).trans (hswap _ _ _ _))
    have hnew := (((State.names_perm (s.setPort p u) p).append_right k.names).trans (hswap _ _ _ _))
    have hwaiting : (s.setPort p u).waiting = s.waiting := by simp [State.waiting]
    rw [hwaiting, State.setPort_port, State.setPort_port_other] at hnew
    exact (List.perm_append_comm.trans (hnew.trans ((hu.names.append_left _).append_left _))).trans
      (hold.symm.trans List.perm_append_comm)
  · rw [hcommons]
    have hsum := hu.reserve
    refine fun hs => ⟨hs, ?_⟩
    rw [State.reserve_eq _ p, s.reserve_eq p, hcommons, State.setPort_port, State.setPort_port_other]
    omega

namespace Keeps

theorem refl (s : State) (h : Hand) : Keeps s h s h :=
  ⟨.refl s h, fun _ => rfl, fun _ _ hs => hs, fun _ _ hs => hs⟩

theorem trans (f : Keeps s h t k) (g : Keeps t k u m) : Keeps s h u m where
  toBalance := f.toBalance.trans g.toBalance
  oper p := (g.oper p).trans (f.oper p)
  down p hp := g.down p (f.oper p ▸ hp) ∘ f.down p hp
  waits p hp := g.waits p (f.oper p ▸ hp) ∘ f.waits p hp

/-- What flows between the shared blocks and the hand. -/
theorem commons {y : Commons} (hy : Commons.Flows s.env s.commons h y k) :
    Keeps s h { s with commons := y } k := by
  have hup : ∀ p, (s.port p).oper ≠ .up → s.env.up p = false := fun p hp => by
    rw [Commons.env_up, decide_eq_false_iff_not]
    exact hp
  have hswap : ∀ {α : Type} (a b c : List α), (a ++ b ++ c).Perm (a ++ c ++ b) := fun a b c => by
    rw [List.append_assoc, List.append_assoc]
    exact List.perm_append_comm.append_left a
  refine ⟨⟨?_, hy.pool, hy.holders s.names, fun hs => ?_, hy.idle⟩, fun p => ?_, fun p hp hs => ?_,
    fun p hp hs => hy.waits p (hup p hp) hs⟩
  · exact (hswap _ _ _).trans ((hy.cells.append_right _).trans (hswap _ _ _))
  · obtain ⟨hfits, hsum⟩ := hy.reserve hs
    refine ⟨hfits, ?_⟩
    show y.reserve + (s.portA.held.reserve + s.portB.held.reserve) + k.reserve =
      s.commons.reserve + (s.portA.held.reserve + s.portB.held.reserve) + h.reserve
    omega
  · rw [State.port_of_ports]
  · obtain ⟨hempty, hout⟩ := hs
    exact ⟨by rw [State.port_of_ports]; exact hempty, (hy.down p (hup p hp)).trans hout⟩

theorem onCommons (f : Keeps s h t k) {g : Env → Commons → Commons}
    (hg : Commons.Flows t.env t.commons k (g t.env t.commons) m) : Keeps s h (t.onCommons g) m :=
  f.trans (commons hg)

/-- A port that keeps its operational state takes up what it and the hand held; one that was empty and is not UP stays
empty. -/
theorem setPort (f : Keeps s h t k) {p : Port} {u : PortUnit} (hoper : u.oper = (t.port p).oper)
    (hu : Hand.Exchanges (t.port p).held k u.held m)
    (hempty : (t.port p).oper ≠ .up → (t.port p).Empty → u.Empty) :
    Keeps s h (t.setPort p u) m := by
  refine f.trans ⟨.setPort hu, fun q => ?_, fun q hq ht => ?_, fun q _ ht => by simpa using ht⟩
  · by_cases hqp : q = p
    · rw [hqp, State.setPort_port, hoper]
    · rw [State.port_ne t u hqp]
  · obtain ⟨hbare, hout⟩ := ht
    refine ⟨?_, by simpa using hout⟩
    by_cases hqp : q = p
    · subst hqp
      rw [State.setPort_port]
      exact hempty hq hbare
    · rw [State.port_ne t u hqp]
      exact hbare

/-- Counters hold nothing. -/
theorem setCounters (f : Keeps s h t k) (p : Port) (counters : Vector Word32 38) :
    Keeps s h (t.setPort p { t.port p with counters := counters }) k :=
  f.setPort rfl (.of_eq rfl k) fun _ hempty => ⟨hempty.reception, hempty.tx, hempty.queues⟩

theorem count (f : Keeps s h t k) (p : Port) (c : PortCounter) : Keeps s h (t.count p c) k :=
  f.setCounters p _

/-- The reception of a port on its own goes over into another one. -/
theorem setReception (f : Keeps s h t k) {p : Port} {r : Option Reception}
    (hcells : (receptionCells r ++ m.cells).Perm (receptionCells (t.port p).reception ++ k.cells))
    (hnames : m.names = k.names) (hreserve : m.reserve = k.reserve)
    (hempty : (t.port p).oper ≠ .up → (t.port p).reception = none → r = none) :
    Keeps s h (t.setPort p { t.port p with reception := r }) m := by
  refine f.setPort rfl ⟨hcells, ?_, ?_⟩ fun hp ht => ⟨hempty hp ht.reception, ht.tx, ht.queues⟩
  · rw [hnames]
    exact .refl _
  · rw [hreserve]
    rfl

/-- Nothing moves where the ports, the shared blocks and the queues of names stay. -/
theorem of_waiting (hA : t.portA = s.portA) (hB : t.portB = s.portB) (hcommons : t.commons = s.commons)
    (hwaiting : (m.names ++ t.waiting).Perm (h.names ++ s.waiting)) (hcells : m.cells = h.cells)
    (hreserve : m.reserve = h.reserve) : Keeps s h t m := by
  have hport : ∀ p, t.port p = s.port p := fun p => by
    cases p
    · exact hA
    · exact hB
  refine ⟨⟨?_, by rw [hcommons]; exact fun hs => hs, ?_, ?_, by rw [hcommons]; exact fun hs => hs⟩,
    fun p => by rw [hport], fun p _ => ?_, fun p _ => by rw [hcommons]; exact fun hs => hs⟩
  · rw [State.cells, State.cells, hA, hB, hcommons, hcells]
  · rw [hcommons]
    refine fun hs => hs.perm ?_
    rw [State.names, State.names, hA, hB, ← List.append_assoc, ← List.append_assoc h.names]
    exact hwaiting.append_right _
  · rw [State.reserve, State.reserve, hA, hB, hcommons, hreserve]
    exact fun hs => ⟨hs, rfl⟩
  · rw [State.PortEmpty, State.PortEmpty, hport, hcommons]
    exact fun hs => hs

/-- The queues of names and what is not in the ports or the shared blocks. -/
theorem of_rest (f : Keeps s h t k) (hA : u.portA = t.portA) (hB : u.portB = t.portB)
    (hcommons : u.commons = t.commons) (hwaiting : u.waiting = t.waiting) : Keeps s h u k :=
  f.trans (of_waiting hA hB hcommons (by rw [hwaiting]) rfl rfl)

/-- What every step of a fold keeps the fold keeps. -/
theorem foldl (f : Keeps s h t k) {α : Type} {g : State → α → State} (hg : ∀ v a, Keeps v k (g v a) k)
    (l : List α) : Keeps s h (l.foldl g t) k := by
  induction l generalizing t with
  | nil => exact f
  | cons a l ih => exact ih (f.trans (hg t a))

theorem post (f : Keeps s h t k) (e : EventKind) : Keeps s h (t.post e) k :=
  f.onCommons (Commons.post_flows _ _ _ k)

theorem release {name : Nat} (f : Keeps s h t (k.addNames [name])) : Keeps s h (t.release name) k :=
  f.onCommons (Commons.release_flows _ name _ k)

theorem giveGeneral {cells : List GeneralCell} (f : Keeps s h t (k.addCells cells)) :
    Keeps s h (t.onCommons fun e => Commons.giveGeneral e cells) k :=
  f.onCommons (Commons.giveGeneral_flows _ cells _ k)

theorem withSession (f : Keeps s h t k) (g : Session → Session) : Keeps s h (t.withSession g) k :=
  f.of_rest rfl rfl rfl rfl

theorem restartIdle (f : Keeps s h t k) : Keeps s h t.restartIdle k := f.withSession _

end Keeps
end

end Sys2Proof.Machine
end

section
/-! PROOF. Counters of a port that count more than once, and its class queues as one list. -/

set_option Elab.async false

namespace Sys2Proof.Machine

open Sys2Proof.Safety

/-! ### Ports (R121 to R123, R145) -/

/-- A counter that counted `n` times. -/
def PortUnit.countTimes (u : PortUnit) (k : PortCounter) (n : Nat) : PortUnit :=
  { u with counters := u.counters.set (counterIndex k) (Nat.repeat satInc n (u.counter k)) }

@[simp] theorem PortUnit.countTimes_zero (u : PortUnit) (k : PortCounter) : u.countTimes k 0 = u := by
  simp [PortUnit.countTimes, PortUnit.counter, Nat.repeat]

theorem PortUnit.count_countTimes (u : PortUnit) (k : PortCounter) (n : Nat) :
    (u.countTimes k n).count k = u.countTimes k (n + 1) := by
  simp [PortUnit.countTimes, PortUnit.count, PortUnit.counter, Nat.repeat]

theorem PortUnit.countTimes_one (u : PortUnit) (k : PortCounter) : u.countTimes k 1 = u.count k := rfl

theorem PortUnit.countTimes_count (u : PortUnit) (k : PortCounter) (n : Nat) :
    (u.count k).countTimes k n = u.countTimes k (n + 1) := by
  induction n with
  | zero => rw [countTimes_zero]; rfl
  | succ n ih => rw [← count_countTimes, ih, count_countTimes]

theorem PortUnit.countTimes_counter (u : PortUnit) (k : PortCounter) (n : Nat) :
    (u.countTimes k n).counter k = Nat.repeat satInc n (u.counter k) := by
  simp [PortUnit.countTimes, PortUnit.counter]

theorem PortUnit.countTimes_counter_ne (u : PortUnit) {j k : PortCounter} (n : Nat) (h : j ≠ k) :
    (u.countTimes k n).counter j = u.counter j := by
  induction n with
  | zero => rw [countTimes_zero]
  | succ n ih => rw [← count_countTimes, count_counter_ne _ h, ih]

theorem PortUnit.countTimes_add (u : PortUnit) (k : PortCounter) (m n : Nat) :
    (u.countTimes k m).countTimes k n = u.countTimes k (m + n) := by
  induction n with
  | zero => rw [countTimes_zero]; rfl
  | succ n ih => rw [← count_countTimes, ih, count_countTimes]; rfl

theorem PortUnit.queues_toList (u : PortUnit) :
    u.queues.toList = [u.queue 0, u.queue 1, u.queue 2, u.queue 3] := by
  apply List.ext_getElem
  · simp
  · intro i hi _
    have h4 : i < 4 := by simpa using hi
    interval_cases i <;> rfl

/-- A class queue that changes exchanges its frames. -/
theorem PortUnit.setQueue_names (u : PortUnit) (c : Fin 4) (q : ClassQueue) :
    ((u.setQueue c q).names ++ (u.queue c).entries.map (·.frame)).Perm
      (u.names ++ q.entries.map (·.frame)) := by
  refine List.perm_iff_count.mpr fun id => ?_
  have hother := fun d hd => PortUnit.setQueue_queue_ne u c d q hd
  simp only [PortUnit.names, PortUnit.queues_toList, List.flatMap_cons, List.flatMap_nil, List.count_append,
    PortUnit.setQueue_tx]
  fin_cases c
  · simp only [hother 1 (by decide), hother 2 (by decide), hother 3 (by decide)]
    simp [PortUnit.setQueue_queue]
    omega
  · simp only [hother 0 (by decide), hother 2 (by decide), hother 3 (by decide)]
    simp [PortUnit.setQueue_queue]
    omega
  · simp only [hother 0 (by decide), hother 1 (by decide), hother 3 (by decide)]
    simp [PortUnit.setQueue_queue]
    omega
  · simp only [hother 0 (by decide), hother 1 (by decide), hother 2 (by decide)]
    simp [PortUnit.setQueue_queue]
    omega

end Sys2Proof.Machine
end

section
/-! PROOF. A port that leaves or enters UP: what its flush moves, and what it leaves of the port (R123, R145). -/

set_option Elab.async false

namespace Sys2Proof.Machine

open Sys2Proof.Safety

namespace Keeps
section
variable {s t u : State} {h k m : Hand}

/-- A class queue of a port on its own exchanges its copies. -/
theorem setQueue (f : Keeps s h t k) {p : Port} {c : Fin 4} {q : ClassQueue}
    (hnames : (q.entries.map (·.frame) ++ m.names).Perm
      (((t.port p).queue c).entries.map (·.frame) ++ k.names))
    (hcells : m.cells = k.cells) (hreserve : m.reserve = k.reserve)
    (hempty : (t.port p).oper ≠ .up → ((t.port p).queue c).entries = [] → q.entries = []) :
    Keeps s h (t.setPort p ((t.port p).setQueue c q)) m := by
  refine f.setPort rfl ⟨?_, ?_, ?_⟩ fun hp ht => ⟨ht.reception, ht.tx, fun d => ?_⟩
  · rw [hcells]
    exact .refl _
  · refine List.perm_iff_count.mpr fun id => ?_
    have hset := List.perm_iff_count.mp ((t.port p).setQueue_names c q) id
    have hmoved := List.perm_iff_count.mp hnames id
    simp only [List.count_append] at hset hmoved
    simp only [PortUnit.held, List.count_append]
    omega
  · rw [hreserve]
    rfl
  · by_cases hd : d = c
    · rw [hd, PortUnit.setQueue_queue]
      exact hempty hp (ht.queues c)
    · rw [PortUnit.setQueue_queue_ne _ _ _ _ hd]
      exact ht.queues d

/-- A transmitter that becomes IDLE leaves what it held with the hand. -/
theorem endTx (f : Keeps s h t k) {p : Port} {tx : Option Transmission} (htx : (t.port p).tx = tx) :
    Keeps s h (t.setPort p { t.port p with tx := none })
      ((k.addNames (txFrames tx)).addReserve (txReserve tx)) := by
  refine f.setPort rfl ⟨.refl _, ?_, ?_⟩ fun _ ht => ⟨ht.reception, rfl, ht.queues⟩
  · refine List.perm_iff_count.mpr fun id => ?_
    simp only [PortUnit.held, PortUnit.names, htx, Hand.addReserve, Hand.addNames, List.count_append, txFrames,
      List.count_nil]
    omega
  · simp only [PortUnit.held, htx, Hand.addReserve, Hand.addNames, txReserve]
    omega

/-- A management-out queue exchanges its built frames. -/
theorem setMgmtOut (f : Keeps s h t k) {p : Port} {q : List Built}
    (hsum : (q.map Built.cells).sum + m.reserve = ((t.commons.mgmtOut p).map Built.cells).sum + k.reserve)
    (hcells : m.cells = k.cells) (hnames : m.names = k.names)
    (hempty : t.commons.mgmtOut p = [] → q = []) :
    Keeps s h (t.onCommons fun _ x => x.setMgmtOut p q) m := by
  have hport : ∀ r, (t.onCommons fun _ x => x.setMgmtOut p q).port r = t.port r := t.onCommons_port _
  refine f.trans ⟨⟨?_, by simp, fun ht => ?_, fun ht => ⟨by simpa using ht, ?_⟩, by simp⟩, fun r => by rw [hport],
    fun r _ ht => ⟨by rw [hport]; exact ht.1, ?_⟩, fun r _ => by simp [Commons.eventOfferWaits]⟩
  · simp [State.cells, Commons.cells, hcells]
  · rw [hnames]
    have hstay : (t.onCommons fun _ x => x.setMgmtOut p q).names = t.names := rfl
    exact ⟨by simpa using ht.nodup, by simpa [hstay] using ht.held, by simpa [hstay] using ht.stored⟩
  · have hqueued := t.commons.setMgmtOut_queued p q
    simp only [State.reserve, Commons.reserve, State.onCommons_commons, State.onCommons_portA,
      State.onCommons_portB, Commons.setMgmtOut_pool, Commons.setMgmtOut_output, Commons.setMgmtOut_events]
    omega
  · rw [State.onCommons_commons]
    by_cases hr : r = p
    · rw [hr, Commons.setMgmtOut_mgmtOut]
      exact hempty (hr ▸ ht.2)
    · rw [eq_otherPort_of_ne hr, Commons.setMgmtOut_other, ← eq_otherPort_of_ne hr]
      exact ht.2

end
end Keeps

section
variable (s : State) (h : Hand)

theorem State.endSession_keeps (reason : EndReason) : Keeps s h (s.endSession reason) h := by
  unfold State.endSession
  split
  · refine Keeps.post ?_ _
    exact (Keeps.refl s h).of_rest rfl rfl rfl rfl
  · exact .refl s h

/-- A reception that ends leaves its cells with the hand. -/
theorem Keeps.endReception (p : Port) :
    Keeps s h (s.setPort p { s.port p with reception := none })
      (h.addCells (receptionCells (s.port p).reception)) :=
  (Keeps.refl s h).setReception (by simp [Hand.addCells, receptionCells]) rfl rfl fun _ _ => rfl

theorem State.endReceptionForLink_keeps (p : Port) : Keeps s h (s.endReceptionForLink p) h := by
  have hended := Keeps.endReception s h p
  unfold State.endReceptionForLink
  split
  · rename_i bytes cells hreception
    rw [hreception] at hended
    exact (hended.count p _).giveGeneral
  · rename_i hreception
    rwa [hreception] at hended
  · exact .refl s h

/-- A built frame in hand is settled: its builder is told its fate and its cells return (R143). -/
theorem Commons.settleBuilt_flows (e : Env) (fate : Fate) (b : Built) (x : Commons) (h : Hand) :
    Flows e x (h.addReserve b.cells) ((x.reportFate fate b).giveReserve b.cells) h :=
  (reportFate_flows e fate b x _).trans (giveReserve_flows e _ h b.cells)

theorem State.abortForLink_keeps (p : Port) : Keeps s h (s.abortForLink p) h := by
  unfold State.abortForLink
  split
  · rename_i tx htx
    have hidle := ((Keeps.refl s h).endTx htx).count p .txAbort
    dsimp only
    obtain ⟨source, wire⟩ := tx
    cases source with
    | copy c cls => exact hidle.release
    | built b => exact hidle.onCommons (Commons.settleBuilt_flows _ .aborted b _ h)
  · exact .refl s h

theorem State.flushCopies_keeps {s t : State} {h k : Hand} (p : Port) (l : List Copy)
    (f : Keeps s h t (k.addNames (l.map (·.frame)))) : Keeps s h (l.foldl (State.flushCopy p) t) k := by
  induction l generalizing t with
  | nil => exact f
  | cons c l ih => exact ih (Keeps.release (k := k.addNames (l.map (·.frame))) (f.count p _))

theorem State.flushBuilts_keeps {s t : State} {h k : Hand} (p : Port) (l : List Built)
    (f : Keeps s h t (k.addReserve (l.map Built.cells).sum)) :
    Keeps s h (l.foldl (State.flushBuilt p) t) k := by
  induction l generalizing t with
  | nil => exact f
  | cons b l ih =>
    have hsum : k.addReserve ((b :: l).map Built.cells).sum =
        (k.addReserve (l.map Built.cells).sum).addReserve b.cells := by
      simp [Hand.addReserve]
      omega
    rw [hsum] at f
    exact ih ((f.count p _).onCommons (Commons.settleBuilt_flows _ .flushed b _ _))

theorem State.flushQueue_keeps (p : Port) (c : Fin 4) : Keeps s h (State.flushQueue p s c) h := by
  refine State.flushCopies_keeps p _ ((Keeps.refl s h).setQueue ?_ rfl rfl fun _ _ => rfl)
  exact .refl _

theorem State.flushForLink_keeps (p : Port) : Keeps s h (s.flushForLink p) h := by
  have hclasses := (Keeps.refl s h).foldl (fun v c => State.flushQueue_keeps v h p c) [0, 1, 2, 3]
  refine State.flushBuilts_keeps p _ (hclasses.setMgmtOut ?_ rfl rfl fun _ => rfl)
  simp only [Hand.addReserve, List.map_nil, List.sum_nil]
  omega

theorem State.endSessionForLink_keeps (p : Port) : Keeps s h (s.endSessionForLink p) h := by
  unfold State.endSessionForLink
  split
  · split
    · exact s.endSession_keeps h .link
    · exact .refl s h
  · exact .refl s h

/-- The effects of a port that leaves UP, up to the withdrawal of the claims and the flush of its queues. -/
def State.emptied (s : State) (p : Port) : State :=
  (((s.onCommons fun _ => Commons.withdrawClaimsFor p).endReceptionForLink p).abortForLink p).flushForLink p

theorem State.emptied_keeps (p : Port) : Keeps s h (s.emptied p) h :=
  ((((Keeps.refl s h).onCommons (g := fun _ => Commons.withdrawClaimsFor p)
    (Commons.withdrawClaimsFor_flows _ p _ h)).trans (State.endReceptionForLink_keeps _ h p)).trans
    (State.abortForLink_keeps _ h p)).trans (State.flushForLink_keeps _ h p)

/-- The part once the offers at `p` are refused, and the effects of leaving UP that follow up to the head that is
held. -/
def State.refused (s : State) (p : Port) : State := s.onCommons fun _ => Commons.refuseOffersAt p

/-- The grants, the post of LINK_DOWN and the end of the session that follow. -/
def State.notified (s : State) (p : Port) (o : OperState) : State :=
  ((s.onCommons Commons.arbiter).post (.linkDown p o)).endSessionForLink p

theorem State.leaveUp_eq (p : Port) (o : OperState) : s.leaveUp p o =
    (((s.emptied p).refused p).notified p o).onCommons fun _ => Commons.holdHead p := rfl

theorem State.notified_keeps (p : Port) (o : OperState) : Keeps s h (s.notified p o) h :=
  (((Keeps.refl s h).onCommons (Commons.arbiter_flows _ _ h)).post _).trans
    (State.endSessionForLink_keeps _ h p)

theorem State.leaveUp_keeps {s : State} {p : Port} (hdown : (s.port p).oper ≠ .up) (h : Hand) (o : OperState) :
    Keeps s h (s.leaveUp p o) h := by
  have hrefused : Keeps s h ((s.emptied p).refused p) h :=
    (s.emptied_keeps h p).onCommons (Commons.refuseOffersAt_flows _ p _ h)
  have hnotified := ((s.emptied p).refused p).notified_keeps h p o
  have hnone : ((s.emptied p).refused p).commons.eventOfferWaits p = false :=
    Commons.refuseOffersAt_offers p _
  rw [State.leaveUp_eq]
  exact (hrefused.trans hnotified).onCommons (g := fun _ => Commons.holdHead p)
    (Commons.holdHead_flows _ h (hnotified.waits p (hrefused.oper p ▸ hdown) hnone))

theorem State.enterUp_keeps (p : Port) : Keeps s h (s.enterUp p) h := by
  unfold State.enterUp
  refine Keeps.onCommons ((Keeps.refl s h).post _) ?_
  split
  · exact Commons.trySend_flows _ _ h
  · exact Commons.resumeSender_flows _ p _ h

end

/-! ### What leaving UP makes of the port (R123, R145) -/

section
variable (s : State) (p : Port)

/-- Copies flushed from a queue of the port count there alone. -/
theorem State.flushCopies_port (l : List Copy) :
    (l.foldl (State.flushCopy p) s).port p = (s.port p).countTimes .linkDown l.length := by
  induction l generalizing s with
  | nil => rw [List.length_nil, PortUnit.countTimes_zero]; rfl
  | cons c l ih =>
    rw [List.foldl_cons, ih]
    have hcopy : (State.flushCopy p s c).port p = (s.port p).count .linkDown := by
      simp [State.flushCopy, State.release, State.count]
    rw [hcopy, PortUnit.countTimes_count]
    rfl

theorem State.flushBuilts_port (l : List Built) :
    (l.foldl (State.flushBuilt p) s).port p = (s.port p).countTimes .linkDown l.length := by
  induction l generalizing s with
  | nil => rw [List.length_nil, PortUnit.countTimes_zero]; rfl
  | cons b l ih =>
    rw [List.foldl_cons, ih]
    have hbuilt : (State.flushBuilt p s b).port p = (s.port p).count .linkDown := by
      simp [State.flushBuilt, State.count]
    rw [hbuilt, PortUnit.countTimes_count]
    rfl

/-- A class queue without its copies. -/
def PortUnit.emptyQueue (u : PortUnit) (c : Fin 4) : PortUnit :=
  u.setQueue c { entries := [], limit := (u.queue c).limit }

theorem State.flushQueue_port (c : Fin 4) : (State.flushQueue p s c).port p =
    ((s.port p).emptyQueue c).countTimes .linkDown ((s.port p).queue c).entries.length := by
  rw [State.flushQueue, State.flushCopies_port, State.setPort_port]
  rfl

/-- A port without the copies of its class queues. -/
def PortUnit.emptyQueues (u : PortUnit) : PortUnit :=
  (((u.emptyQueue 0).emptyQueue 1).emptyQueue 2).emptyQueue 3

theorem PortUnit.emptyQueues_queue (u : PortUnit) (c : Fin 4) :
    u.emptyQueues.queue c = { entries := [], limit := (u.queue c).limit } := by
  have hother : ∀ (v : PortUnit) (c d : Fin 4), d ≠ c → (v.emptyQueue c).queue d = v.queue d :=
    fun v c d hd => v.setQueue_queue_ne c d _ hd
  have hself : ∀ (v : PortUnit) (c : Fin 4),
      (v.emptyQueue c).queue c = { entries := [], limit := (v.queue c).limit } :=
    fun v c => v.setQueue_queue c _
  fin_cases c <;> simp [emptyQueues, hself, hother]

/-- Copies in the class queues of a port. -/
def PortUnit.copies (u : PortUnit) : Nat :=
  (u.queue 0).entries.length + (u.queue 1).entries.length + (u.queue 2).entries.length +
    (u.queue 3).entries.length

theorem State.flushQueues_port : ([0, 1, 2, 3].foldl (State.flushQueue p) s).port p =
    (s.port p).emptyQueues.countTimes .linkDown (s.port p).copies := by
  have hcommute : ∀ (u : PortUnit) (n : Nat) (c : Fin 4),
      (u.countTimes .linkDown n).emptyQueue c = (u.emptyQueue c).countTimes .linkDown n := fun _ _ _ => rfl
  have hqueue : ∀ (u : PortUnit) (n : Nat) (c : Fin 4), (u.countTimes .linkDown n).queue c = u.queue c :=
    fun _ _ _ => rfl
  have hother : ∀ (u : PortUnit) (c d : Fin 4), d ≠ c → (u.emptyQueue c).queue d = u.queue d :=
    fun u c d hd => u.setQueue_queue_ne c d _ hd
  simp only [List.foldl_cons, List.foldl_nil, State.flushQueue_port, hcommute, PortUnit.countTimes_add, hqueue,
    hother _ 0 1 (by decide), hother _ 0 2 (by decide), hother _ 0 3 (by decide), hother _ 1 2 (by decide),
    hother _ 1 3 (by decide), hother _ 2 3 (by decide)]
  rfl

/-- A port that is not UP keeps its management-out queue while general cells and holders return. -/
theorem State.mgmtOut_of_flows {s : State} {p : Port} (hdown : (s.port p).oper ≠ .up) {h k : Hand} {y : Commons}
    (hy : Commons.Flows s.env s.commons h y k) : y.mgmtOut p = s.commons.mgmtOut p := by
  refine hy.down p ?_
  rw [Commons.env_up, decide_eq_false_iff_not]
  exact hdown

theorem State.flushQueue_mgmtOut {s : State} {p : Port} (hdown : (s.port p).oper ≠ .up) (c : Fin 4) :
    (State.flushQueue p s c).commons.mgmtOut p = s.commons.mgmtOut p := by
  have hcopies : ∀ (l : List Copy) (t : State), (t.port p).oper ≠ .up →
      (l.foldl (State.flushCopy p) t).commons.mgmtOut p = t.commons.mgmtOut p := by
    intro l
    induction l with
    | nil => exact fun _ _ => rfl
    | cons k l ih =>
      intro t ht
      have hcount : ((t.count p .linkDown).port p).oper ≠ .up := by simpa [State.count] using ht
      rw [List.foldl_cons, ih]
      · refine (State.mgmtOut_of_flows hcount (Commons.release_flows _ k.frame _ .empty)).trans ?_
        simp [State.count]
      · simpa [State.flushCopy, State.release] using hcount
  rw [State.flushQueue, hcopies]
  · simp
  · rw [State.setPort_port]
    exact hdown

theorem State.flushQueues_mgmtOut {s : State} {p : Port} (hdown : (s.port p).oper ≠ .up) (l : List (Fin 4)) :
    (l.foldl (State.flushQueue p) s).commons.mgmtOut p = s.commons.mgmtOut p := by
  induction l generalizing s with
  | nil => rfl
  | cons c l ih =>
    rw [List.foldl_cons, ih, State.flushQueue_mgmtOut hdown]
    rw [(s.flushQueue_keeps .empty p c).oper]
    exact hdown

theorem State.flushForLink_port {s : State} {p : Port} (hdown : (s.port p).oper ≠ .up) :
    (s.flushForLink p).port p = (s.port p).emptyQueues.countTimes .linkDown
      ((s.port p).copies + (s.commons.mgmtOut p).length) := by
  rw [State.flushForLink, State.flushBuilts_port, State.onCommons_port, State.flushQueues_port,
    PortUnit.countTimes_add, State.flushQueues_mgmtOut hdown]

theorem State.flushForLink_mgmtOut : (s.flushForLink p).commons.mgmtOut p = [] := by
  have hbuilt : ∀ (t : State) (b : Built), (State.flushBuilt p t b).commons.mgmtOut p = t.commons.mgmtOut p :=
    fun t b => by
      cases p <;> simp [State.flushBuilt, Commons.mgmtOut, State.count, State.setPort]
  rw [State.flushForLink, foldl_keeps (g := fun t : State => t.commons.mgmtOut p) hbuilt,
    State.onCommons_commons, Commons.setMgmtOut_mgmtOut]

/-- Receptions of a port that are storing: one or none. -/
def PortUnit.storing (u : PortUnit) : Nat := match u.reception with | some (.receiving _ _) => 1 | _ => 0

theorem State.endReceptionForLink_port : (s.endReceptionForLink p).port p =
    { (s.port p).countTimes .linkDown (s.port p).storing with reception := none } := by
  unfold State.endReceptionForLink
  split
  · rename_i hreception
    have hstoring : (s.port p).storing = 1 := by simp only [PortUnit.storing, hreception]
    simp only [hstoring, State.onCommons_port, State.count, State.setPort_port]
    rfl
  · rename_i hreception
    have hstoring : (s.port p).storing = 0 := by simp only [PortUnit.storing, hreception]
    rw [hstoring, State.setPort_port, PortUnit.countTimes_zero]
  · rename_i hreception
    have hstoring : (s.port p).storing = 0 := by simp only [PortUnit.storing, hreception]
    rw [hstoring, PortUnit.countTimes_zero, ← hreception]

theorem State.endReceptionForLink_mgmtOut {s : State} {p : Port} (hdown : (s.port p).oper ≠ .up) :
    (s.endReceptionForLink p).commons.mgmtOut p = s.commons.mgmtOut p := by
  unfold State.endReceptionForLink
  split
  · rename_i cells _
    have hcount : (((s.setPort p { s.port p with reception := none }).count p .linkDown).port p).oper ≠ .up := by
      simp only [State.count, State.setPort_port]
      exact hdown
    refine (State.mgmtOut_of_flows hcount (Commons.giveGeneral_flows _ cells _ .empty)).trans ?_
    simp [State.count]
  · simp
  · rfl

theorem State.abortForLink_port : (s.abortForLink p).port p =
    { (s.port p).countTimes .txAbort (if (s.port p).tx.isSome then 1 else 0) with tx := none } := by
  unfold State.abortForLink
  split
  · rename_i t htx
    have hport : ((s.setPort p { s.port p with tx := none }).count p .txAbort).port p =
        { (s.port p).countTimes .txAbort (if (s.port p).tx.isSome then 1 else 0) with tx := none } := by
      rw [htx]
      simp only [State.count, State.setPort_port]
      rfl
    dsimp only
    split
    · exact hport
    · rw [State.onCommons_port]
      exact hport
  · rename_i hnone
    rw [hnone, Option.isSome_none, if_neg Bool.false_ne_true, PortUnit.countTimes_zero, ← hnone]

theorem State.abortForLink_mgmtOut {s : State} {p : Port} (hdown : (s.port p).oper ≠ .up) :
    (s.abortForLink p).commons.mgmtOut p = s.commons.mgmtOut p := by
  unfold State.abortForLink
  split
  · have hcount : (((s.setPort p { s.port p with tx := none }).count p .txAbort).port p).oper ≠ .up := by
      simp only [State.count, State.setPort_port]
      exact hdown
    dsimp only
    split
    · refine (State.mgmtOut_of_flows hcount (Commons.release_flows _ _ _ .empty)).trans ?_
      simp [State.count]
    · refine (State.mgmtOut_of_flows hcount (Commons.settleBuilt_flows _ .aborted _ _ .empty)).trans ?_
      simp [State.count]
  · rfl

/-- A port that leaves UP: every reception, copy and built frame it held is counted. -/
def PortUnit.emptied (u : PortUnit) (mgmtOut : Nat) : PortUnit :=
  { (((u.countTimes .linkDown u.storing).countTimes .txAbort (if u.tx.isSome then 1 else 0)).emptyQueues.countTimes
      .linkDown (u.copies + mgmtOut)) with reception := none, tx := none }

theorem State.withdrawClaimsFor_mgmtOut (x : Commons) :
    (Commons.withdrawClaimsFor p x).mgmtOut p = x.mgmtOut p := by
  have hqueues := Commons.withdrawClaimsFor_queues p x
  simp only [Commons.queues, Prod.mk.injEq] at hqueues
  cases p
  · exact hqueues.1
  · exact hqueues.2.1

theorem State.emptied_port {s : State} {p : Port} (hdown : (s.port p).oper ≠ .up) :
    (s.emptied p).port p = (s.port p).emptied (s.commons.mgmtOut p).length := by
  have hwithdrawn : ((s.onCommons fun _ => Commons.withdrawClaimsFor p).port p).oper ≠ .up := by
    rw [State.onCommons_port]
    exact hdown
  have hended := State.endReceptionForLink_mgmtOut hwithdrawn
  have hended_oper := ((State.endReceptionForLink_keeps _ .empty p).oper p).trans_ne hwithdrawn
  have haborted := State.abortForLink_mgmtOut hended_oper
  have haborted_oper := ((State.abortForLink_keeps _ .empty p).oper p).trans_ne hended_oper
  rw [State.emptied, State.flushForLink_port haborted_oper, haborted, hended, State.abortForLink_port,
    State.endReceptionForLink_port, State.onCommons_port, State.onCommons_commons, State.withdrawClaimsFor_mgmtOut]
  rfl

theorem State.emptied_empty {s : State} {p : Port} (hdown : (s.port p).oper ≠ .up) : (s.emptied p).PortEmpty p := by
  refine ⟨?_, State.flushForLink_mgmtOut _ p⟩
  rw [State.emptied_port hdown]
  exact ⟨rfl, rfl, fun c => congrArg ClassQueue.entries (PortUnit.emptyQueues_queue _ c)⟩

/-- A port that has left UP holds nothing. -/
theorem State.leaveUp_empty {s : State} {p : Port} (hdown : (s.port p).oper ≠ .up) (o : OperState) :
    (s.leaveUp p o).PortEmpty p := by
  have hempty := State.emptied_empty hdown
  have hnotified : Keeps (s.emptied p) .empty ((((s.emptied p).refused p).notified p o)) .empty :=
    ((Keeps.refl _ _).onCommons (g := fun _ => Commons.refuseOffersAt p)
      (Commons.refuseOffersAt_flows _ p _ .empty)).trans (State.notified_keeps _ .empty p o)
  have hoper : ((s.emptied p).port p).oper ≠ .up := ((s.emptied_keeps .empty p).oper p).trans_ne hdown
  obtain ⟨hport, hout⟩ := hnotified.down p hoper hempty
  have hheld := Commons.holdHead_queues p (((s.emptied p).refused p).notified p o).commons
  simp only [Commons.queues, Prod.mk.injEq] at hheld
  rw [State.leaveUp_eq]
  refine ⟨by rw [State.onCommons_port]; exact hport, Eq.trans ?_ hout⟩
  cases p
  · exact hheld.1
  · exact hheld.2.1

end

end Sys2Proof.Machine
end

section
/-! PROOF. Reception, egress, classification and the head of the command queue: each moves cells, holders and built
frames about and loses none (R34, R60 to R65, R124 to R127, R141 to R144, R154, R178). -/

set_option Elab.async false

namespace Sys2Proof.Machine

open Sys2Proof.Safety

/-! ### Receptions (R124 to R127) -/

/-- A port that keeps its operational state leaves what the shared blocks see of the part. -/
theorem State.setPort_env (s : State) (p : Port) (u : PortUnit) (hoper : u.oper = (s.port p).oper) :
    (s.setPort p u).env = s.env := by
  have hup : ∀ q, (s.setPort p u).isUp q = s.isUp q := fun q => by
    rw [Bool.eq_iff_iff, State.isUp_eq_true_iff, State.isUp_eq_true_iff]
    by_cases hq : q = p
    · rw [hq, State.setPort_port, hoper]
    · rw [State.port_ne s u hq]
  simp only [State.env, hup, State.setPort_tables, State.setPort_endpoint]

/-- A port that keeps its operational state and an operation of the shared blocks do not meet. -/
theorem State.setPort_onCommons (s : State) (p : Port) (u : PortUnit) (f : Env → Commons → Commons)
    (hoper : u.oper = (s.port p).oper) : (s.setPort p u).onCommons f = (s.onCommons f).setPort p u := by
  unfold State.onCommons
  rw [State.setPort_env s p u hoper, State.setPort_commons]
  cases p <;> rfl

theorem State.oper_of_isUp {s : State} {p : Port} (h : s.isUp p = true) : (s.port p).oper = .up :=
  (s.isUp_eq_true_iff p).mp h

section
variable {s : State} {p : Port} (h : Hand)

/-- A reception that discards gives its cells back. -/
theorem State.discardReception_keeps {cells : List GeneralCell}
    (hcells : receptionCells (s.port p).reception = cells)
    (hbusy : (s.port p).oper ≠ .up → (s.port p).reception ≠ none) (c : PortCounter) :
    Keeps s h (s.discardReception p cells c) h := by
  have hdiscards : Keeps s h (s.setPort p { s.port p with reception := some .discarding }) (h.addCells cells) :=
    (Keeps.refl s h).setReception (by rw [hcells]; exact .refl _) rfl rfl fun hp hnone => absurd hnone (hbusy hp)
  exact (hdiscards.count p c).giveGeneral

/-- A reception that claims a free general cell takes it from the pool. -/
theorem State.claimCell_keeps {cells rest : List GeneralCell} {c : GeneralCell}
    (hcells : receptionCells (s.port p).reception = cells)
    (hbusy : (s.port p).oper ≠ .up → (s.port p).reception ≠ none)
    (hfree : s.commons.pool.free = c :: rest) (bytes : List Byte) :
    Keeps s h ((s.setPort p { s.port p with reception := some (.receiving bytes (cells ++ [c])) }).onCommons
      Commons.takeGeneral) h := by
  have htaken : Keeps s h (s.onCommons Commons.takeGeneral) (h.addCells [c]) :=
    (Keeps.refl s h).onCommons (Commons.takeGeneral_flows _ h hfree)
  have hport : (s.onCommons Commons.takeGeneral).port p = s.port p := s.onCommons_port _ p
  rw [State.setPort_onCommons, ← hport]
  · refine htaken.setReception ?_ rfl rfl fun hp hnone => absurd (hport ▸ hnone) (hbusy (hport ▸ hp))
    rw [hport, hcells]
    simp [receptionCells, Hand.addCells]
  · rfl

theorem State.startReception_keeps (s : State) (p : Port) : Keeps s h (s.startReception p) h := by
  unfold State.startReception
  split
  · exact .refl s h
  next hnone =>
    split
    next hup =>
      have hbusy : (s.port p).oper ≠ .up → (s.port p).reception ≠ none :=
        fun hp => absurd (State.oper_of_isUp hup) hp
      have hcells : receptionCells (s.port p).reception = [] := by rw [hnone]; rfl
      split
      · exact State.discardReception_keeps h hcells hbusy _
      next hfree => exact State.claimCell_keeps h hcells hbusy hfree []
    · exact .refl s h

theorem State.receiveByte_keeps (p : Port) (s : State) (v : Byte) : Keeps s h (State.receiveByte p s v) h := by
  unfold State.receiveByte
  split
  next bytes cells hreception =>
    have hbusy : (s.port p).oper ≠ .up → (s.port p).reception ≠ none := fun _ => by rw [hreception]; nofun
    have hcells : receptionCells (s.port p).reception = cells := by rw [hreception]; rfl
    split
    · exact State.discardReception_keeps h hcells hbusy _
    · split
      · exact (Keeps.refl s h).setReception (by rw [hcells]; exact .refl _) rfl rfl
          fun hp hnone => absurd hnone (hbusy hp)
      · split
        · exact State.discardReception_keeps h hcells hbusy _
        next hfree => exact State.claimCell_keeps h hcells hbusy hfree _
  · exact .refl s h

theorem State.receiveBytes_keeps (s : State) (p : Port) (bytes : List Byte) :
    Keeps s h (s.receiveBytes p bytes) h :=
  (Keeps.refl s h).foldl (State.receiveByte_keeps h p) bytes

theorem State.abortReception_keeps (s : State) (p : Port) : Keeps s h (s.abortReception p) h := by
  have hended := Keeps.endReception s h p
  unfold State.abortReception
  split
  next hreception =>
    rw [hreception] at hended
    exact (hended.count p _).giveGeneral
  next hreception =>
    rw [hreception] at hended
    exact hended
  · exact .refl s h

/-- Endpoint counters hold nothing. -/
theorem Commons.setMgmt_flows (e : Env) (x : Commons) (h : Hand) (m : MgmtCounters) :
    Flows e x h { x with mgmt := m } h :=
  .of_stock rfl rfl rfl (fun hs => ⟨hs, rfl⟩) (fun hs => hs) (fun p _ => by cases p <;> rfl) fun _ _ hs => hs

/-- The names in hand and those in the ingress queue of a port go over into one another. -/
theorem Keeps.setIngress {s : State} {h k : Hand} {c : Classifier} (p : Port)
    (hp : (c.ingress p ++ k.names).Perm (s.classifier.ingress p ++ h.names))
    (hother : c.ingress (otherPort p) = s.classifier.ingress (otherPort p))
    (hcells : k.cells = h.cells) (hreserve : k.reserve = h.reserve) :
    Keeps s h { s with classifier := c } k := by
  refine .of_waiting rfl rfl rfl (List.perm_iff_count.mpr fun id => ?_) hcells hreserve
  have hmoved := List.perm_iff_count.mp hp id
  have hstays := congrArg (List.count id) hother
  cases p <;>
    simp only [Classifier.ingress, otherPort, State.waiting, List.count_append] at hmoved hstays ⊢ <;>
    omega

theorem State.offerCommand_keeps (s : State) (id : Nat) : Keeps s (h.addNames [id]) (s.offerCommand id) h := by
  unfold State.offerCommand
  split
  · refine .of_waiting rfl rfl rfl (List.perm_iff_count.mpr fun n => ?_) rfl rfl
    simp only [State.waiting, Hand.addNames, List.count_append]
    omega
  · exact (Keeps.commons (Commons.setMgmt_flows _ _ _ _)).release

theorem State.offerIngress_keeps (s : State) (p : Port) (id : Nat) :
    Keeps s (h.addNames [id]) (s.offerIngress p id) h := by
  unfold State.offerIngress
  split
  · refine .setIngress p ?_ ?_ rfl rfl
    · have hset : (s.classifier.setIngress p (s.classifier.ingress p ++ [id])).ingress p =
          s.classifier.ingress p ++ [id] := by cases p <;> rfl
      rw [hset, List.append_assoc]
      exact .refl _
    · cases p <;> rfl
  · exact ((Keeps.refl s _).count p _).release

/-- A good frame takes over the cells of its reception. -/
theorem State.routeGood_keeps (s : State) (p : Port) (bytes : List Byte) (cells : List GeneralCell) :
    Keeps s (h.addCells cells) (s.routeGood p bytes cells) h := by
  have hstored : Keeps s (h.addCells cells)
      { s with commons := (Commons.store bytes (makeRecord p bytes cells) s.commons).1 }
      (h.addNames [s.commons.nextFrame]) :=
    .commons (Commons.store_flows _ bytes (makeRecord p bytes cells) _ h)
  have hcounted := hstored.count p .receivedGood
  unfold State.routeGood
  dsimp only
  split
  · exact hcounted.trans (State.offerCommand_keeps h _ _)
  · exact hcounted.trans (State.offerIngress_keeps h _ p _)

theorem State.endReception_keeps (s : State) (p : Port) : Keeps s h (s.endReception p) h := by
  have hended := Keeps.endReception s h p
  unfold State.endReception
  split
  next bytes cells hreception =>
    rw [hreception] at hended
    dsimp only
    split
    · exact (hended.count p _).giveGeneral
    · exact hended.trans (State.routeGood_keeps h _ p bytes cells)
  next hreception =>
    rw [hreception] at hended
    exact hended
  · exact .refl s h

/-! ### Egress (R141 to R144) -/

/-- A transmitter that is IDLE at a port that is UP takes up what the hand held. -/
theorem Keeps.startTx {s t : State} {k : Hand} {tx : Transmission} (hup : (t.port p).oper = .up)
    (hidle : (t.port p).tx = none)
    (f : Keeps s h t ((k.addNames (txFrames (some tx))).addReserve (txReserve (some tx)))) :
    Keeps s h (t.setPort p { t.port p with tx := some tx }) k := by
  refine f.setPort rfl ⟨.refl _, ?_, ?_⟩ fun hp => absurd hup hp
  · refine List.perm_iff_count.mpr fun id => ?_
    simp only [PortUnit.held, PortUnit.names, hidle, Hand.addReserve, Hand.addNames, List.count_append, txFrames,
      List.count_nil]
    omega
  · simp only [PortUnit.held, hidle, Hand.addReserve, Hand.addNames, txReserve]
    omega

theorem State.startBuilt_keeps {b : Built} {rest : List Built} (hup : (s.port p).oper = .up)
    (hidle : (s.port p).tx = none) (hqueue : s.commons.mgmtOut p = b :: rest) :
    Keeps s h (s.startBuilt p b rest) h := by
  have hleft : Keeps s h (s.onCommons fun _ x => x.setMgmtOut p rest) (h.addReserve b.cells) := by
    refine (Keeps.refl s h).setMgmtOut ?_ rfl rfl fun hnil => absurd (hqueue ▸ hnil) (List.cons_ne_nil b rest)
    simp only [hqueue, Hand.addReserve, List.map_cons, List.sum_cons]
    omega
  have hport : (s.onCommons fun _ x => x.setMgmtOut p rest).port p = s.port p := s.onCommons_port _ p
  have hstarted := hleft.startTx (tx := { source := .built b, wire := b.wire }) h (hport ▸ hup) (hport ▸ hidle)
  rw [hport, ← State.setPort_onCommons] at hstarted
  · exact hstarted.onCommons (g := fun e x => Commons.admitOffers e p x) (Commons.admitOffers_flows _ p _ h)
  · rfl

theorem State.startCopy_keeps (hup : (s.port p).oper = .up) (hidle : (s.port p).tx = none) (c : Fin 4) :
    Keeps s h (s.startCopy p c) h := by
  unfold State.startCopy
  dsimp only
  split
  · exact .refl s h
  next head rest hentries =>
    split
    · have hleft := (Keeps.refl s h).setQueue (m := h.addNames [head.frame]) (p := p) (c := c)
        (q := { (s.port p).queue c with entries := rest }) (by
          rw [hentries]
          simp only [Hand.addNames, List.map_cons]
          exact List.perm_middle) rfl rfl fun hp => absurd hup hp
      rename_i f _
      have hstarted := hleft.startTx (tx := { source := .copy head c, wire := f.wire }) h
        (by rw [State.setPort_port]; exact hup) (by rw [State.setPort_port]; exact hidle)
      rwa [State.setPort_port, State.setPort_setPort] at hstarted
    · exact .refl s h

theorem State.startTransmission_keeps (s : State) (p : Port) : Keeps s h (s.startTransmission p) h := by
  unfold State.startTransmission
  split
  next hready =>
    obtain ⟨hup, hidle⟩ := hready
    have hoper := State.oper_of_isUp hup
    split
    next hqueue => exact State.startBuilt_keeps h hoper hidle hqueue
    · split
      · exact State.startCopy_keeps h hoper hidle _
      · exact .refl s h
  · exact .refl s h

theorem State.endTransmission_keeps (s : State) (p : Port) : Keeps s h (s.endTransmission p) h := by
  unfold State.endTransmission
  split
  · exact .refl s h
  next t htx =>
    have hended := (Keeps.refl s h).endTx htx
    obtain ⟨source, wire⟩ := t
    dsimp only
    split
    · exact (hended.count p .transmitted).release
    next b =>
      exact (hended.count p .transmittedMgmt).onCommons
        (g := fun e x => Commons.releaseReserve e b.cells (x.reportFate .sent b))
        ((Commons.reportFate_flows _ .sent b _ _).trans (Commons.releaseReserve_flows _ b.cells _ h))

/-! ### Classification (R34, R60 to R65) -/

/-- Everything in hand names a stored frame. -/
theorem Keeps.of_unstored {id : Nat} (hnone : s.commons.frame? id = none) : Keeps s (h.addNames [id]) s h := by
  refine ⟨⟨.refl _, fun hs => hs, fun hs => ?_, fun hs => ⟨hs, rfl⟩, fun hs => hs⟩, fun _ => rfl,
    fun _ _ hs => hs, fun _ _ hs => hs⟩
  obtain ⟨f, hf, hid⟩ := List.mem_map.mp (hs.stored id (by simp [Hand.addNames]))
  exact absurd hnone (by
    rw [Commons.frame?, List.find?_eq_none]
    exact fun hall => hall f hf (by simp [hid]))

theorem State.offerCopy_keeps {id : Nat} (hheld : id ∈ h.names) (cells : Nat) (s : State) (o : CopyOffer) :
    Keeps s h (s.offerCopy id cells o) h := by
  unfold State.offerCopy
  dsimp only
  split
  next hroom =>
    have hup := State.oper_of_isUp hroom.1
    have hholder : Keeps s h (s.onCommons fun _ => Commons.hold id) (h.addNames [id]) :=
      (Keeps.refl s h).onCommons (Commons.hold_flows _ _ h hheld)
    have hport : (s.onCommons fun _ => Commons.hold id).port o.port = s.port o.port := s.onCommons_port _ _
    rw [State.setPort_onCommons, ← hport]
    · refine hholder.setQueue ?_ rfl rfl fun hp => absurd hup (hport ▸ hp)
      simp only [Hand.addNames, List.map_append, List.map_cons, List.map_nil, List.append_assoc]
      exact .refl _
    · rfl
  · exact (Keeps.refl s h).count _ _

/-- A name in hand joins the punt queue. -/
theorem Commons.pushPunt_flows (e : Env) (x : Commons) (h : Hand) (id : Nat) :
    Flows e x (h.addNames [id])
      { x with events := { x.events with puntQueue := x.events.puntQueue ++ [id] } } h := by
  refine ⟨.refl _, fun hs => hs, fun names hx => ?_, fun hs => ⟨hs, rfl⟩, fun hs => hs,
    fun p _ => by cases p <;> rfl, fun _ _ hs => hs⟩
  have hmoved : (h.names ++ names ++ (x.events.puntQueue ++ [id])).Perm
      ((h.addNames [id]).names ++ names ++ x.events.puntQueue) := by
    rw [← List.append_assoc]
    exact (List.perm_append_comm (l₂ := [id])).trans (.refl _)
  exact ⟨hx.nodup, fun f hf => by rw [hmoved.count_eq]; exact hx.held f hf,
    fun n hn => hx.stored n (hmoved.mem_iff.mp hn)⟩

theorem State.offerPuntEntry_keeps {id : Nat} (hheld : id ∈ h.names) (s : State) (ingress : Port) :
    Keeps s h (s.offerPuntEntry id ingress) h := by
  unfold State.offerPuntEntry
  split
  · exact (Keeps.refl s h).count _ _
  · split
    · exact (Keeps.refl s h).onCommons (g := fun _ x => Commons.hold id { x with events :=
        { x.events with puntQueue := x.events.puntQueue ++ [id] } })
        ((Commons.hold_flows _ _ h hheld).trans (Commons.pushPunt_flows _ (Commons.hold id _) h id))
    · exact (Keeps.refl s h).count _ _

theorem State.countDrop_keeps (s : State) (p : Port) (why : DropReason) : Keeps s h (s.countDrop p why) h := by
  cases why with
  | ruleDrop c => exact ((Keeps.refl s h).count p _).count p _
  | fallbackBlock => exact (Keeps.refl s h).count p _
  | prefilterMiss => exact (Keeps.refl s h).count p _
  | hopExpired => exact (Keeps.refl s h).count p _
  | noDestination => exact (Keeps.refl s h).count p _

/-- Disposing of a frame settles the holder that the classifier had. -/
theorem State.dispose_keeps (s : State) (id cells : Nat) (r : FrameRecord) :
    Keeps s (h.addNames [id]) (s.dispose id cells r) h := by
  have hheld : id ∈ (h.addNames [id]).names := List.mem_cons_self
  have hclassified : Keeps s (h.addNames [id])
      (s.onCommons fun _ => Commons.updateFrame id fun f => f.classified (r.setDisp r.disp.final))
      (h.addNames [id]) :=
    (Keeps.refl s _).onCommons (Commons.classified_flows _ id _ _ _)
  have hcounted : ∀ t (o : Option DropReason), Keeps t (h.addNames [id])
      (match o with | some why => t.countDrop r.ingress why | none => t) (h.addNames [id]) := fun t o => by
    cases o with
    | none => exact .refl t _
    | some why => exact State.countDrop_keeps _ t _ why
  have hpunted : ∀ t : State, Keeps t (h.addNames [id])
      (if r.disp.final.punt then t.offerPuntEntry id r.ingress else t) (h.addNames [id]) := fun t => by
    split
    · exact State.offerPuntEntry_keeps _ hheld t _
    · exact .refl t _
  exact (((hclassified.trans (hcounted _ r.disp.final.drop)).foldl
    (State.offerCopy_keeps _ hheld cells) (copiesOf r.disp.final)).trans (hpunted _)).release

/-- What classification counts outside the ports, and the meters, hold nothing. -/
theorem State.counted_keeps (s : State) (current : Vector HitCounter 512) (prefilter : PfCounters)
    (meters : Vector Meter 64) : Keeps s h { s with
      classifier := { s.classifier with current := current }
      prefilter := prefilter
      meters := meters } h :=
  (Keeps.refl s h).of_rest rfl rfl rfl rfl

theorem State.classifyNormal_keeps (s : State) (f : RxFrame) (r : FrameRecord) :
    Keeps s (h.addNames [f.id]) (s.classifyNormal f r) h := by
  have hcounted := State.counted_keeps (h.addNames [f.id])
  by_cases hdrops : prefilterDrops s.tables.activeBank r
  · rw [State.classifyNormal_dropped f hdrops]
    exact (hcounted s s.classifier.current _ s.meters).trans (State.dispose_keeps h _ _ _ _)
  · cases hfound : lookup s.tables.activeBank (screenRecord s.tables.activeBank r) with
    | some n =>
      rw [State.classifyNormal_match f hdrops hfound]
      exact (hcounted s _ _ _).trans (State.dispose_keeps h _ _ _ _)
    | none =>
      rw [State.classifyNormal_noMatch f hdrops hfound]
      have hmissed := (hcounted s s.classifier.current
        (s.prefilter.count (prefilterOutcome s.tables.activeBank r.tags)) s.meters).count r.ingress .noMatch
      exact (hmissed.trans (hcounted _ (State.count _ _ _).classifier.current _ _)).trans
        (State.dispose_keeps h _ _ _ _)

theorem State.classifyFrame_keeps (s : State) (f : RxFrame) :
    Keeps s (h.addNames [f.id]) (s.classifyFrame f) h := by
  unfold State.classifyFrame
  dsimp only
  split
  · exact State.classifyNormal_keeps h s f _
  · exact State.dispose_keeps h s _ _ _

theorem State.classify_keeps (s : State) : Keeps s h s.classify h := by
  unfold State.classify
  split
  · exact .refl s h
  next p _ =>
    split
    · exact .refl s h
    next id rest hqueue =>
      have htaken : Keeps s h
          { s with classifier := { s.classifier.setIngress p rest with lastServed := p } } (h.addNames [id]) := by
        refine .setIngress p ?_ (by cases p <;> rfl) rfl rfl
        have hset : ({ s.classifier.setIngress p rest with lastServed := p } : Classifier).ingress p = rest := by
          cases p <;> rfl
        rw [hset, hqueue]
        exact List.perm_middle
      dsimp only
      split
      next f hframe =>
        have hid := Commons.frame?_id hframe
        exact htaken.trans (hid ▸ State.classifyFrame_keeps h _ f)
      next hnone => exact htaken.trans (Keeps.of_unstored h hnone)

/-! ### The endpoint and the event unit (R152, R154, R178) -/

theorem State.takeHead_keeps (s : State) : Keeps s h s.takeHead h := by
  unfold State.takeHead
  split
  next id rest hcommands =>
    refine Keeps.release (k := h) (.of_waiting rfl rfl rfl (List.perm_iff_count.mpr fun n => ?_) rfl rfl)
    simp only [State.waiting, Hand.addNames, hcommands, List.count_append, List.count_cons, List.count_nil]
    omega
  · exact .refl s h

theorem State.discardMalformed_keeps (s : State) : Keeps s h s.discardMalformed h := by
  unfold State.discardMalformed
  split
  · split
    · exact (State.takeHead_keeps h s).trans (.commons (Commons.setMgmt_flows _ _ h _))
    · exact .refl s h
  · exact .refl s h

theorem State.flushPunt_keeps (s : State) (id : Nat) : Keeps s (h.addNames [id]) (s.flushPunt id) h := by
  unfold State.flushPunt
  split
  · exact ((Keeps.refl s _).count _ _).release
  next hnone => exact .of_unstored h hnone

/-- The entries of the punt queue all go into the hand. -/
theorem Commons.emptyPunts_flows (e : Env) (x : Commons) (h : Hand) :
    Flows e x h { x with events := { x.events with puntQueue := [] } } (h.addNames x.events.puntQueue) := by
  refine ⟨.refl _, fun hs => hs, fun names hx => ?_, fun hs => ⟨hs, rfl⟩, fun hs => hs,
    fun p _ => by cases p <;> rfl, fun _ _ hs => hs⟩
  have hmoved : ((h.addNames x.events.puntQueue).names ++ names ++ []).Perm
      (h.names ++ names ++ x.events.puntQueue) := by
    rw [List.append_nil, Hand.addNames, List.append_assoc]
    exact List.perm_append_comm
  exact ⟨hx.nodup, fun f hf => by rw [hmoved.count_eq]; exact hx.held f hf,
    fun n hn => hx.stored n (hmoved.mem_iff.mp hn)⟩

theorem State.clearListener_keeps (s : State) : Keeps s h s.clearListener h := by
  have hflush : ∀ (l : List Nat) (t : State), Keeps t (h.addNames l) (l.foldl State.flushPunt t) h := by
    intro l
    induction l with
    | nil => exact fun t => .refl t h
    | cons id l ih => exact fun t => (State.flushPunt_keeps (h.addNames l) t id).trans (ih _)
  exact (((Keeps.refl s h).onCommons (Commons.clearListener_flows _ _ h)).trans
    (.commons (Commons.emptyPunts_flows _ _ h))).trans (hflush _ _)

end

end Sys2Proof.Machine
end

section
/-! PROOF. Every command conserves cells, reserve cells and holders, keeps the pool's state with its marks, and leaves
ports that are not UP empty; so does a reset (R123, R130 to R133, R145, R149). -/

set_option Elab.async false

namespace Sys2Proof.Machine

open Sys2Proof.Safety

/-! ### What a happening conserves -/

/-- Every port that is not UP holds nothing. -/
def State.DownEmpty (s : State) : Prop := ∀ p, (s.port p).oper ≠ .up → s.PortEmpty p

/-- The five laws of the pool and the ports, each from `s` to `t`: general cells, reserve cells, holders, the pool's
state and the ports that are not UP. -/
structure Lawful (s t : State) : Prop where
  cells : s.cells.Perm (List.finRange 512) → t.cells.Perm (List.finRange 512)
  reserve : senderFits s.commons.events = true → s.reserve = 24 →
    senderFits t.commons.events = true ∧ t.reserve = 24
  holders : s.commons.Counted s.names → t.commons.Counted t.names
  pool : s.commons.pool.Agrees → t.commons.pool.Agrees
  down : s.DownEmpty → t.DownEmpty

/-- As `Lawful`, where an idle endpoint stays idle. -/
structure Ledger (s t : State) : Prop extends Lawful s t where
  idle : s.commons.output = .idle → t.commons.output = .idle

theorem Lawful.refl (s : State) : Lawful s s :=
  ⟨fun hs => hs, fun hs hsum => ⟨hs, hsum⟩, fun hs => hs, fun hs => hs, fun hs => hs⟩

theorem Lawful.trans {s t u : State} (f : Lawful s t) (g : Lawful t u) : Lawful s u where
  cells := g.cells ∘ f.cells
  reserve hs hsum := by
    obtain ⟨ht, htsum⟩ := f.reserve hs hsum
    exact g.reserve ht htsum
  holders := g.holders ∘ f.holders
  pool := g.pool ∘ f.pool
  down := g.down ∘ f.down

theorem Ledger.refl (s : State) : Ledger s s := ⟨.refl s, fun hs => hs⟩

theorem Ledger.trans {s t u : State} (f : Ledger s t) (g : Ledger t u) : Ledger s u :=
  ⟨f.toLawful.trans g.toLawful, g.idle ∘ f.idle⟩

/-- What is balanced with an empty hand conserves, where the ports that are not UP stay empty. -/
theorem Balance.ledger {s t : State} (hb : Balance s .empty t .empty) (hdown : s.DownEmpty → t.DownEmpty) :
    Ledger s t := by
  have hcells : t.cells.Perm s.cells := by simpa [Hand.empty] using hb.cells
  refine ⟨⟨hcells.trans, fun hs hsum => ?_, hb.holders, hb.pool, hdown⟩, hb.idle⟩
  obtain ⟨ht, htsum⟩ := hb.reserve hs
  exact ⟨ht, htsum.trans hsum⟩

theorem Keeps.ledger {s t : State} (f : Keeps s .empty t .empty) : Ledger s t :=
  f.toBalance.ledger fun hs p hp => f.down p (f.oper p ▸ hp) (hs p (f.oper p ▸ hp))

theorem Keeps.lawful {s t : State} (f : Keeps s .empty t .empty) : Lawful s t := f.ledger.toLawful

/-! ### A part that holds nothing (R135, R149) -/

theorem PortUnit.Empty.names {u : PortUnit} (hu : u.Empty) : u.names = [] := by
  simp [PortUnit.names, PortUnit.queues_toList, hu.tx, hu.queues, txFrames]

theorem PortUnit.Empty.cells {u : PortUnit} (hu : u.Empty) : u.held.cells = [] := by
  simp [PortUnit.held, hu.reception, receptionCells]

theorem PortUnit.Empty.reserve {u : PortUnit} (hu : u.Empty) : u.held.reserve = 0 := by
  simp [PortUnit.held, hu.tx, txReserve]

/-- Every cell is free, no frame is stored, and every queue, port and builder is empty. -/
structure State.Vacant (s : State) : Prop where
  ports : ∀ p, s.PortEmpty p
  free : s.commons.pool.free = List.finRange 512
  freeReserve : s.commons.pool.freeReserve = 24
  frames : s.commons.frames = []
  output : s.commons.output = .idle
  sender : s.commons.events.sender = .idle
  punt : s.commons.events.punt = .idle
  puntQueue : s.commons.events.puntQueue = []
  waiting : s.waiting = []

/-- A part that holds nothing meets the laws, where its marks agree with its pool. -/
theorem State.Vacant.lawful {s t : State} (ht : t.Vacant)
    (hpool : s.commons.pool.Agrees → t.commons.pool.Agrees) : Lawful s t := by
  obtain ⟨hportA, houtA⟩ : t.portA.Empty ∧ t.commons.mgmtOutA = [] := ht.ports .a
  obtain ⟨hportB, houtB⟩ : t.portB.Empty ∧ t.commons.mgmtOutB = [] := ht.ports .b
  have hnames : t.names = [] := by simp [State.names, ht.waiting, hportA.names, hportB.names]
  refine ⟨fun _ => ?_, fun _ _ => ⟨Commons.senderFits_idle ht.sender, ?_⟩, fun _ => ?_, hpool,
    fun _ p _ => ht.ports p⟩
  · rw [State.cells, Commons.cells, ht.free, ht.frames, hportA.cells, hportB.cells]
    simp only [List.flatMap_nil, List.append_nil, List.Perm.refl]
  · simp [State.reserve, Commons.reserve, Commons.queued, houtA, houtB, ht.freeReserve, ht.output, ht.sender,
      ht.punt, hportA.reserve, hportB.reserve, outputReserve, senderReserve, puntReserve]
  · rw [hnames]
    exact ⟨by simp [ht.frames], by simp [ht.frames], by simp [ht.puntQueue]⟩

/-- A reset leaves nothing anywhere (R149, R177). -/
theorem ResetFrom.lawful {s t : State} (h : ResetFrom s t) : Lawful s t := by
  obtain ⟨straps, a, b, cause, rfl⟩ := h
  have hport : ∀ link, (PortUnit.afterReset link).Empty := fun link => ⟨rfl, rfl, fun c => by
    simp [PortUnit.queue, PortUnit.afterReset]⟩
  refine State.Vacant.lawful ⟨fun p => ?_, by dsimp only [State.afterReset, Commons.afterReset, Config.generalCells], rfl, rfl, rfl, rfl,
    rfl, rfl, rfl⟩ fun _ => ?_
  · cases p
    · exact ⟨hport a, rfl⟩
    · exact ⟨hport b, rfl⟩
  · simp [Pool.Agrees, State.afterReset, Commons.afterReset, Pool.freeGeneral, Config.generalCells]

theorem State.lightBlocks_vacant (s : State) : s.lightBlocks.Vacant := by
  have hport : ∀ u : PortUnit, u.lightRestart.Empty := fun u => ⟨rfl, rfl, fun c => by
    simp [PortUnit.queue, PortUnit.lightRestart]⟩
  refine ⟨fun p => ?_, by
    dsimp only [State.lightBlocks, Commons.lightRestart, Pool.lightRestart, Config.generalCells], rfl, rfl, rfl, rfl,
    rfl, rfl, rfl⟩
  cases p
  · exact ⟨hport s.portA, rfl⟩
  · exact ⟨hport s.portB, rfl⟩

theorem State.lightRestart_lawful (s : State) : Lawful s s.lightRestart := by
  have hblocks : Lawful s s.lightBlocks := s.lightBlocks_vacant.lawful fun ⟨hmarks, hhigh, _⟩ => by
    have hlow : ¬Config.generalCells < s.commons.pool.lowMark := by
      simp only [Config.generalCells]
      omega
    simp only [Pool.Agrees, State.lightBlocks, Commons.lightRestart, Pool.lightRestart, hlow, Pool.freeGeneral]
    simp only [Config.generalCells] at hlow
    simp [Config.generalCells]
    omega
  refine hblocks.trans (Keeps.lawful ?_)
  exact (Keeps.refl s.lightBlocks .empty).onCommons
    ((Commons.acceptAll_flows _ s.lightEvents _ _).trans (Commons.trySend_flows _ _ _))

theorem State.fullRestart_lawful (s : State) (straps : Straps) : Lawful s (s.fullRestart straps) :=
  ResetFrom.lawful ⟨straps, s.portA.link, s.portB.link, .full, rfl⟩

theorem State.settleRestart_lawful (s : State) (straps : Straps) : Lawful s (s.settleRestart straps) := by
  unfold State.settleRestart
  split
  · exact s.lightRestart_lawful
  · exact s.fullRestart_lawful straps
  · exact .refl s

/-! ### The link pin and port_enable (R121 to R123) -/

/-- A port whose pin or setting changes is empty afterwards unless it is UP. -/
theorem State.changePort_ledger {s : State} {p : Port} {u : PortUnit} (hheld : u.held = (s.port p).held)
    (hempty : (s.port p).Empty → u.Empty) : Ledger s (s.changePort p u) := by
  have hset : Balance s .empty (s.setPort p u) .empty := .setPort (.of_eq hheld _)
  have hbare : s.DownEmpty → ∀ q, ((s.setPort p u).port q).oper ≠ .up → (q = p → (s.port p).oper ≠ .up) →
      (s.setPort p u).PortEmpty q := fun hs q hq hbefore => by
    by_cases hqp : q = p
    · subst hqp
      obtain ⟨hport, hout⟩ := hs q (hbefore rfl)
      exact ⟨by rw [State.setPort_port]; exact hempty hport, by rw [State.setPort_commons]; exact hout⟩
    · rw [State.port_ne s u hqp] at hq
      obtain ⟨hport, hout⟩ := hs q hq
      exact ⟨by rw [State.port_ne s u hqp]; exact hport, by rw [State.setPort_commons]; exact hout⟩
  unfold State.changePort
  dsimp only
  split
  next hleaves =>
    have hdown : ((s.setPort p u).port p).oper ≠ .up := by
      rw [State.setPort_port]
      exact hleaves.2
    have hleft := State.leaveUp_keeps hdown .empty u.oper
    refine (hset.trans hleft.toBalance).ledger fun hs q hq => ?_
    by_cases hqp : q = p
    · rw [hqp]
      exact State.leaveUp_empty hdown _
    · rw [hleft.oper] at hq
      exact hleft.down q hq (hbare hs q hq fun h => absurd h hqp)
  next hstays =>
    split
    next henters =>
      have hentered := (s.setPort p u).enterUp_keeps .empty p
      refine (hset.trans hentered.toBalance).ledger fun hs q hq => ?_
      rw [hentered.oper] at hq
      exact hentered.down q hq (hbare hs q hq fun _ => henters.1)
    · refine hset.ledger fun hs q hq => hbare hs q hq ?_
      rintro rfl hbefore
      rw [State.setPort_port] at hq
      exact hstays ⟨hbefore, hq⟩

theorem State.linkPin_ledger (s : State) (p : Port) (level : LinkState) : Ledger s (s.linkPin p level) :=
  State.changePort_ledger rfl fun hs => ⟨hs.reception, hs.tx, hs.queues⟩

/-! ### Commands (R152 to R165) -/

/-- The ports, the shared blocks and the queues of names. -/
def State.holdings (s : State) : PortUnit × PortUnit × Commons × List Nat :=
  (s.portA, s.portB, s.commons, s.waiting)

theorem Ledger.of_holdings {s t : State} (h : t.holdings = s.holdings) : Ledger s t := by
  simp only [State.holdings, Prod.mk.injEq] at h
  obtain ⟨hA, hB, hcommons, hwaiting⟩ := h
  exact ((Keeps.refl s .empty).of_rest hA hB hcommons hwaiting).ledger

/-- A command's run conserves. -/
def Run.Conserves (run : Run) : Prop := ∀ (c : Command) (s : State), Ledger s (run c s).1

theorem Run.Keeps.conserves {run : Run} (h : run.Keeps State.holdings) : run.Conserves :=
  fun c s => .of_holdings (h c s)

theorem needs_conserves {run : Run} (hrun : run.Conserves) (n : Nat) : (needs n run).Conserves := by
  intro c s
  unfold needs
  split
  · exact .refl s
  · exact hrun c s

theorem counterRun_conserves {run : Bool → Run} (hrun : ∀ b, (run b).Conserves) (n : Nat) :
    (counterRun n run).Conserves := by
  refine needs_conserves (fun c s => ?_) 3
  split
  · exact .refl s
  · split
    · exact .refl s
    · split
      · exact .refl s
      · exact hrun _ c s

/-- A response in hand claims its cells: none is granted before the arbiter examines the claim (R131, R153). -/
theorem State.respond_lawful {s : State} (hidle : s.commons.output = .idle) (c : Command) (r : Reply) :
    Lawful s (s.respond c r) := by
  let b := responseFrame c s.endpoint.nodeAddress r
  have hclaims : Lawful s { s with commons := { s.commons with output := .claiming b } } := by
    refine ⟨fun hs => hs, fun hs hsum => ⟨hs, ?_⟩, fun hs => ⟨hs.nodup, hs.held, hs.stored⟩, fun hs => hs,
      fun hs p hp => ?_⟩
    · simp only [State.reserve, Commons.reserve, hidle] at hsum
      exact hsum
    · have hport : ∀ q, ({ s with commons := { s.commons with output := .claiming b } } : State).port q = s.port q :=
        fun q => by cases q <;> rfl
      rw [hport] at hp
      obtain ⟨hempty, hout⟩ := hs p hp
      refine ⟨by rw [hport]; exact hempty, ?_⟩
      cases p
      · exact hout
      · exact hout
  exact hclaims.trans ((Keeps.refl _ .empty).onCommons (Commons.arbiter_flows _ _ _)).lawful

theorem State.recordOwner_ledger (s : State) (c : Command) (r : Reply) : Ledger s (s.recordOwner c r) :=
  ((Keeps.refl s .empty).restartIdle.withSession _).ledger

theorem State.judge_lawful {run : Run} (hrun : run.Conserves) {s : State} (hidle : s.commons.output = .idle)
    (perm : Command → Permission) (c : Command) : Lawful s (s.judge perm run c) := by
  have hperm : Ledger s (s.runPermitted (perm c) run c).1 := by
    unfold State.runPermitted
    split
    · exact .refl s
    · exact hrun c s
  have hrecorded : Ledger s (if s.isOwner c then
      (s.runPermitted (perm c) run c).1.recordOwner c (s.runPermitted (perm c) run c).2
      else (s.runPermitted (perm c) run c).1) := by
    split
    · exact hperm.trans (State.recordOwner_ledger _ c _)
    · exact hperm
  unfold State.judge
  split
  · exact State.respond_lawful hidle c _
  · split
    · have hidled := (Keeps.refl s .empty).restartIdle.ledger
      exact hidled.toLawful.trans (State.respond_lawful (hidled.idle hidle) c _)
    · exact hrecorded.toLawful.trans (State.respond_lawful (hrecorded.idle hidle) c _)

/-- The endpoint takes a command only when it is IDLE (R154). -/
theorem State.headFrame_idle {s : State} {f : RxFrame} (h : s.headFrame = some f) : s.commons.output = .idle := by
  unfold State.headFrame at h
  split at h
  next hidle _ => exact hidle
  · cases h

theorem State.takeCommand_lawful {run : Run} (hrun : run.Conserves) (s : State) (takes : Command → Bool)
    (perm : Command → Permission) : Lawful s (s.takeCommand takes perm run) := by
  have htaken := (State.takeHead_keeps .empty s).ledger
  unfold State.takeCommand
  split
  next f hframe =>
    split
    · exact htaken.toLawful.trans (State.judge_lawful hrun (htaken.idle (State.headFrame_idle hframe)) perm _)
    · exact .refl s
  · exact .refl s

theorem runOpenSession_conserves : runOpenSession.Conserves := fun c s => by
  have hopened : ∀ (u : State) (k : EventKind), u.holdings = s.holdings → Ledger s (u.post k) := fun u k hu =>
    (Ledger.of_holdings hu).trans ((Keeps.refl u .empty).post k).ledger
  unfold runOpenSession
  split
  · exact hopened _ _ rfl
  · split
    · exact (Keeps.refl s .empty).restartIdle.ledger
    · exact .refl s

theorem runSetListener_conserves : runSetListener.Conserves :=
  needs_conserves (fun c s => by
    split
    · split
      · exact ((Keeps.refl s .empty).onCommons (g := fun e => Commons.replaceListener e _)
          (Commons.replaceListener_flows _ _ _ _)).ledger
      · exact .refl s
    · exact .refl s) 3

theorem runAckEvent_conserves : runAckEvent.Conserves :=
  needs_conserves (fun c s => by
    split
    next hacked => exact (Keeps.commons (Commons.ackEvent_flows _ _ .empty hacked)).ledger
    · exact .refl s) 2

/-- What is counted or stored outside the ports and the shared blocks holds nothing. -/
theorem State.update_holdings (s : State) (pf : PfCounters) (ms : Vector Meter 64) (tables : Controller)
    (v : Verify) : { s with prefilter := pf, meters := ms, tables := tables, verify := v }.holdings = s.holdings :=
  rfl

/-- Hit counters hold nothing. -/
theorem State.setCurrent_holdings (s : State) (hits : Vector HitCounter 512) :
    { s with classifier := { s.classifier with current := hits } }.holdings = s.holdings := rfl

theorem runRestart_holdings : runRestart.Keeps State.holdings :=
  needs_keeps (fun c s => by
    split
    · rfl
    · split <;> rfl) 1

theorem runReadTable_holdings : runReadTable.Keeps State.holdings :=
  needs_keeps (fun c s => by
    split
    · rfl
    · split
      · rfl
      · dsimp only
        split
        · rfl
        · split
          · rfl
          · unfold State.setCursor
            dsimp only
            split <;> rfl) 6

theorem runReadNext_holdings : runReadNext.Keeps State.holdings := fun c s => by
  unfold runReadNext
  split <;> rfl

theorem runWriteTable_holdings : runWriteTable.Keeps State.holdings :=
  needs_keeps (fun c s => by split <;> rfl) 3

theorem runCommit_holdings : runCommit.Keeps State.holdings := fun c s => by
  unfold runCommit
  split <;> rfl

theorem runAbortEdit_holdings : runAbortEdit.Keeps State.holdings := fun c s => by
  unfold runAbortEdit
  split <;> rfl

theorem runHits_holdings (clear : Bool) : (runHits clear).Keeps State.holdings := fun c s => by
  unfold runHits
  split
  · rfl
  · split
    · rfl
    · split
      · rfl
      · cases clear
        · rfl
        · exact s.setCurrent_holdings _

theorem runMeters_holdings (clear : Bool) : (runMeters clear).Keeps State.holdings := fun c s => by
  unfold runMeters
  split
  · rfl
  · cases clear
    · rfl
    · exact s.update_holdings _ _ _ _

theorem runPrefilter_holdings (clear : Bool) : (runPrefilter clear).Keeps State.holdings := fun _ _ => by
  cases clear <;> rfl

theorem runIntegrity_holdings (clear : Bool) : (runIntegrity clear).Keeps State.holdings := fun _ _ => by
  cases clear <;> rfl

theorem runGetSetting_holdings : runGetSetting.Keeps State.holdings :=
  needs_keeps (fun c s => by split <;> rfl) 2

theorem runPort_conserves (clear : Bool) : (runPort clear).Conserves := fun c s => by
  unfold runPort
  split
  · exact .refl s
  next p _ =>
    cases clear
    · exact .refl s
    · exact ((Keeps.refl s .empty).setCounters p _).ledger

theorem runMgmt_conserves (clear : Bool) : (runMgmt clear).Conserves := fun c s => by
  cases clear
  · exact .refl s
  · exact (Keeps.commons (Commons.setMgmt_flows _ _ .empty _)).ledger

/-- A pool mark that takes a new value leaves the marks in order, and the pool evaluates its state (R134). -/
theorem Commons.setMarks_flows (e : Env) (x : Commons) (h : Hand) {low high : Nat}
    (hmarks : x.pool.MarksOrdered → low < high ∧ high ≤ 512) :
    Flows e x h (evalPool e { x with pool := { x.pool with lowMark := low, highMark := high } }) h := by
  have heval := evalPool_flows e { x with pool := { x.pool with lowMark := low, highMark := high } } h
  refine ⟨heval.cells, fun hx => ?_, fun names hx => heval.holders names ⟨hx.nodup, hx.held, hx.stored⟩,
    heval.reserve, heval.idle, heval.down, heval.waits⟩
  exact evalPool_agrees e (hmarks ⟨hx.1, hx.2.1⟩)

theorem State.setSetting_ledger {s t : State} (x : Setting) (v : Nat) (h : s.setSetting x v = some t) :
    Ledger s t := by
  cases x with
  | portEnable p =>
    simp only [State.setSetting, State.setPortEnable, Option.ite_none_right_eq_some, Option.some.injEq] at h
    exact h.2 ▸ State.changePort_ledger rfl fun hs => ⟨hs.reception, hs.tx, hs.queues⟩
  | fallback p =>
    have hset : ∀ f, Ledger s { s with classifier := s.classifier.setFallback p f } := fun f =>
      .of_holdings (by cases p <;> rfl)
    simp only [State.setSetting, State.setFallback] at h
    split at h
    · cases h
      exact hset .pass
    · simp only [Option.ite_none_right_eq_some, Option.some.injEq] at h
      exact h.2 ▸ hset .block
  | queueLimit p c =>
    simp only [State.setSetting, State.setQueueLimit, Option.ite_none_right_eq_some, Option.some.injEq] at h
    exact h.2 ▸ ((Keeps.refl s .empty).setQueue (c := c) (q := { (s.port p).queue c with limit := v })
      (.refl _) rfl rfl fun _ hs => hs).ledger
  | poolLowMark =>
    simp only [State.setSetting, State.setPoolLowMark, Option.ite_none_right_eq_some, Option.some.injEq] at h
    obtain ⟨⟨-, hbelow⟩, rfl⟩ := h
    exact ((Keeps.refl s .empty).onCommons (g := fun e y => Commons.evalPool e
      { y with pool := { y.pool with lowMark := v } })
      (Commons.setMarks_flows _ _ _ fun hmarks => ⟨hbelow, hmarks.2⟩)).ledger
  | poolHighMark =>
    simp only [State.setSetting, State.setPoolHighMark, Option.ite_none_right_eq_some, Option.some.injEq] at h
    obtain ⟨⟨hhigh, habove⟩, rfl⟩ := h
    exact ((Keeps.refl s .empty).onCommons (g := fun e y => Commons.evalPool e
      { y with pool := { y.pool with highMark := v } })
      (Commons.setMarks_flows _ _ _ fun _ => ⟨habove, hhigh⟩)).ledger
  | nodeAddress =>
    simp only [State.setSetting, State.setNodeAddress, Option.ite_none_right_eq_some, Option.some.injEq] at h
    exact h.2 ▸ .of_holdings rfl
  | sessionTimeout =>
    simp only [State.setSetting, State.setSessionTimeout, Option.ite_none_right_eq_some, Option.some.injEq] at h
    exact h.2 ▸ .of_holdings rfl
  | verifyPeriod =>
    simp only [State.setSetting, State.setVerifyPeriod, Option.ite_none_right_eq_some, Option.some.injEq] at h
    exact h.2 ▸ .of_holdings rfl

theorem runSetSetting_conserves : runSetSetting.Conserves :=
  needs_conserves (fun c s => by
    split
    · split
      next h => exact State.setSetting_ledger _ _ h
      · exact .refl s
    · exact .refl s) 4

theorem State.settling_lawful (s : State) (by_ : SettledBy) : Lawful s (s.settling by_) := by
  cases by_ with
  | sent p => exact (State.endTransmission_keeps .empty s p).lawful
  | linkFell p => exact (s.linkPin_ledger p .down).toLawful
  | lostAtOnce => exact s.takeCommand_lawful runRestart_holdings.conserves _ _

/-! ### The table controller and the verify unit (R97, R101, R115) -/

/-- An event that follows a change of what holds nothing. -/
theorem Lawful.post_of_holdings {s t : State} (h : t.holdings = s.holdings) (k : EventKind) : Lawful s (t.post k) :=
  (Ledger.of_holdings h).toLawful.trans ((Keeps.refl t .empty).post k).lawful

theorem State.signingStep_lawful (s : State) : Lawful s s.signingStep := by
  unfold State.signingStep
  split
  · split
    · exact .post_of_holdings (s.update_holdings _ _ _ _) _
    · exact (Ledger.of_holdings (s.update_holdings _ _ _ _)).toLawful
  · exact .refl s

theorem State.swap_lawful (s : State) : Lawful s s.swap := by
  unfold State.swap
  split
  · exact .post_of_holdings (by rfl) _
  · exact .refl s

theorem State.verdictFail_lawful (s : State) : Lawful s s.verdictFail := by
  unfold State.verdictFail
  split
  · split
    · exact .refl s
    · exact .post_of_holdings (by rfl) _
  · exact .refl s

/-! ### Every command -/

/-- Every command conserves cells, reserve cells and holders, keeps the pool's state with its marks and leaves ports
that are not UP empty (R123, R130, R132, R133). -/
theorem exec_lawful {i : Instr} {s t : State} (h : exec i s = .next t) : Lawful s t := by
  have htake : ∀ {run : Run} (takes perm), run.Conserves → Lawful s (s.takeCommand takes perm run) :=
    fun takes perm hrun => s.takeCommand_lawful hrun takes perm
  have hsame : Run.Conserves fun _ u => (u, refuse .unknownCommand) := fun _ u => .refl u
  have hrest : ∀ {u : State}, u.holdings = s.holdings → Lawful s u := fun hu => (Ledger.of_holdings hu).toLawful
  cases i with
  | pinReset pins => exact holds_of_next h (ResetFrom.lawful ⟨pins.straps, pins.aLink, pins.bLink, .power, rfl⟩)
  | linkPinChange p level =>
    exact holds_of_next h ((s.linkPin_ledger p level).toLawful.trans (State.settleRestart_lawful _ _))
  | frameStart p => exact holds_of_next h (State.startReception_keeps .empty s p).lawful
  | receptionCellClaim p bytes => exact holds_of_next h (State.receiveBytes_keeps .empty s p bytes).lawful
  | oversizeCutoff p bytes => exact holds_of_next h (State.receiveBytes_keeps .empty s p bytes).lawful
  | lineAbort p => exact holds_of_next h (State.abortReception_keeps .empty s p).lawful
  | frameEnd p bytes =>
    exact holds_of_next h
      ((State.receiveBytes_keeps .empty s p bytes).trans (State.endReception_keeps .empty _ p)).lawful
  | classify => exact holds_of_next h (State.classify_keeps .empty s).lawful
  | refill => exact holds_of_next h (hrest (s.update_holdings _ _ _ _))
  | malformedCommand => exact holds_of_next h (State.discardMalformed_keeps .empty s).lawful
  | unknownCommand => exact holds_of_next h (htake _ _ hsame)
  | discover => exact holds_of_next h (htake _ _ fun _ u => .refl u)
  | openSession => exact holds_of_next h (htake _ _ runOpenSession_conserves)
  | closeSession => exact holds_of_next h (htake _ _ fun _ u => (u.endSession_keeps .empty .closed).ledger)
  | getSetting => exact holds_of_next h (htake _ _ runGetSetting_holdings.conserves)
  | setNodeAddress | setSessionTimeout | setVerifyPeriod | setFallback | setPortEnable | setQueueLimit
  | setPoolLowMark | setPoolHighMark => exact holds_of_next h (htake _ _ runSetSetting_conserves)
  | readTable => exact holds_of_next h (htake _ _ runReadTable_holdings.conserves)
  | readNext => exact holds_of_next h (htake _ _ runReadNext_holdings.conserves)
  | writeTable => exact holds_of_next h (htake _ _ runWriteTable_holdings.conserves)
  | commit => exact holds_of_next h (htake _ _ runCommit_holdings.conserves)
  | abortEdit => exact holds_of_next h (htake _ _ runAbortEdit_holdings.conserves)
  | readCountersHits =>
    exact holds_of_next h (htake _ _ (counterRun_keeps runHits_holdings 7).conserves)
  | readCountersPort => exact holds_of_next h (htake _ _ (counterRun_conserves runPort_conserves 3))
  | readCountersMeter =>
    exact holds_of_next h (htake _ _ (counterRun_keeps runMeters_holdings 7).conserves)
  | readCountersPrefilter =>
    exact holds_of_next h (htake _ _ (counterRun_keeps runPrefilter_holdings 3).conserves)
  | readCountersMgmt => exact holds_of_next h (htake _ _ (counterRun_conserves runMgmt_conserves 3))
  | readCountersIntegrity =>
    exact holds_of_next h (htake _ _ (counterRun_keeps runIntegrity_holdings 3).conserves)
  | readStatus => exact holds_of_next h (htake _ _ fun _ u => .refl u)
  | setListener => exact holds_of_next h (htake _ _ runSetListener_conserves)
  | setListenerNone =>
    exact holds_of_next h (htake _ _ fun _ u => (State.clearListener_keeps .empty u).ledger)
  | ackEvent => exact holds_of_next h (htake _ _ runAckEvent_conserves)
  | restartLight | restartFull =>
    exact holds_of_next h ((htake _ _ runRestart_holdings.conserves).trans (State.settleRestart_lawful _ _))
  | lightRestart by_ =>
    refine holds_of_next h ?_
    split
    · exact (s.settling_lawful by_).trans (State.lightRestart_lawful _)
    · exact .refl s
  | fullRestart by_ straps =>
    refine holds_of_next h ?_
    split
    · exact (s.settling_lawful by_).trans (State.fullRestart_lawful _ straps)
    · exact .refl s
  | sessionIdleExpiry => exact holds_of_next h (s.endSession_keeps .empty .expired).lawful
  | signingStep => exact holds_of_next h s.signingStep_lawful
  | swap => exact holds_of_next h s.swap_lawful
  | copyingStep => exact holds_of_next h (hrest (s.update_holdings _ _ _ _))
  | endOfCopying => exact holds_of_next h (hrest (s.update_holdings _ _ _ _))
  | verifyPeriodExpiry => exact holds_of_next h (hrest (s.update_holdings _ _ _ _))
  | sweepStep => exact holds_of_next h (hrest (s.update_holdings _ _ _ _))
  | verdictPass =>
    refine holds_of_next h ?_
    split
    · exact hrest (s.update_holdings _ _ _ _)
    · exact .refl s
  | verdictFail => exact holds_of_next h s.verdictFail_lawful
  | storageUpset bank table index content =>
    refine holds_of_next h ?_
    split
    · exact hrest (s.update_holdings _ _ _ _)
    · exact .refl s
  | reserveGrant =>
    exact holds_of_next h (((Keeps.refl s .empty).onCommons (Commons.arbiter_flows _ _ _)).lawful.trans
      (State.settleRestart_lawful _ _))
  | mgmtOutAdmit p =>
    exact holds_of_next h ((Keeps.refl s .empty).onCommons (g := fun e => Commons.admitOffers e p)
      (Commons.admitOffers_flows _ p _ _)).lawful
  | transmissionStart p => exact holds_of_next h (State.startTransmission_keeps .empty s p).lawful
  | transmissionEnd p =>
    exact holds_of_next h ((State.endTransmission_keeps .empty s p).lawful.trans (State.settleRestart_lawful _ _))
  | eventSend => exact holds_of_next h ((Keeps.refl s .empty).onCommons (Commons.trySend_flows _ _ _)).lawful
  | retryTimerExpiry =>
    exact holds_of_next h ((Keeps.refl s .empty).onCommons (Commons.retryExpiry_flows _ _ _)).lawful
  | puntTake => exact holds_of_next h ((Keeps.refl s .empty).onCommons (Commons.puntTake_flows _ _ _)).lawful
  | uptimeCount => exact holds_of_next h (hrest rfl)

theorem step_lawful {s t : State} (h : step s = .next t) : Lawful s t := by
  unfold step at h
  split at h
  · exact holds_of_next h (.refl s)
  next c rest _ =>
    have hqueue : Ledger s { s with pending := rest } := .of_holdings rfl
    exact hqueue.toLawful.trans (exec_lawful h)

end Sys2Proof.Machine
end

section
/-! PROOF. The laws of the pool, of the holders and of ports that are not UP, which every step keeps. -/

set_option Elab.async false

namespace Sys2Proof.Machine

open Sys2Proof.Safety

/-! ### The laws in the words of the specification -/

theorem generalConserved_iff (s : State) : GeneralConserved s ↔ s.cells.Perm (List.finRange 512) := by
  have hcells : ∀ c, s.cells.count c = s.commons.pool.free.count c + (heldCells s).count c := fun c => by
    simp only [State.cells, Commons.cells, heldCells, PortUnit.held, List.count_append]
    omega
  have hlength : s.cells.length = s.commons.pool.freeGeneral + (heldCells s).length := by
    simp only [State.cells, Commons.cells, heldCells, PortUnit.held, Pool.freeGeneral, List.length_append]
    omega
  have hone : ∀ c, (List.finRange 512).count c = 1 := fun c =>
    List.count_eq_one_of_mem (List.nodup_finRange 512) (List.mem_finRange c)
  constructor
  · rintro ⟨hcount, -⟩
    exact List.perm_iff_count.mpr fun c => by rw [hcells, hcount, hone]
  · intro hperm
    refine ⟨fun c => by rw [← hcells, hperm.count_eq, hone], ?_⟩
    rw [← hlength, hperm.length_eq, List.length_finRange]

theorem reserveConserved_iff (s : State) :
    ReserveConserved s ↔ s.reserve = 24 ∧ senderFits s.commons.events = true := by
  have hreserve : s.reserve = s.commons.pool.freeReserve + reserveHeld s := by
    simp only [State.reserve, Commons.reserve, Commons.queued, reserveHeld, PortUnit.held]
    omega
  rw [hreserve]

theorem PortUnit.names_count (u : PortUnit) (id : Nat) : u.names.count id = portRefs u id := by
  have hqueue : ∀ q : ClassQueue, (q.entries.map (·.frame)).count id = q.entries.countP (·.frame == id) := fun q => by
    rw [List.count_eq_countP, List.countP_map]
    rfl
  have htx : (txFrames u.tx).count id =
      (match u.tx with
        | some { source := .copy c _, wire := _ } => if c.frame = id then 1 else 0
        | _ => 0) := by
    cases u.tx with
    | none => rfl
    | some t =>
      obtain ⟨source, wire⟩ := t
      cases source with
      | copy c cls => simp [txFrames, List.count_singleton]
      | built b => rfl
  rw [PortUnit.names, portRefs, List.count_append, htx, List.count_flatMap, Nat.add_comm]
  congr 2
  exact List.map_congr_left fun q _ => hqueue q

theorem holdersCounted_iff (s : State) : HoldersCounted s ↔ s.commons.Counted s.names := by
  have hrefs : ∀ id, refs s id = (s.names ++ s.commons.events.puntQueue).count id := fun id => by
    simp only [refs, State.names, State.waiting, List.count_append, PortUnit.names_count]
    omega
  have hnamed : ∀ id, id ∈ namedFrames s ↔ id ∈ s.names ++ s.commons.events.puntQueue := fun id => by
    simp only [namedFrames, State.names, State.waiting, PortUnit.names, List.mem_append, List.flatMap_append]
    tauto
  constructor
  · rintro ⟨hnodup, hheld, hstored⟩
    exact ⟨hnodup, fun f hf => by rw [← hrefs]; exact hheld f hf, fun id hid => hstored id ((hnamed id).mpr hid)⟩
  · rintro ⟨hnodup, hheld, hstored⟩
    exact ⟨hnodup, fun f hf => by rw [hrefs]; exact hheld f hf, fun id hid => hstored id ((hnamed id).mp hid)⟩

theorem idleUnlessUp_iff (u : PortUnit) (mgmtOut : List Built) :
    idleUnlessUp u mgmtOut = true ↔ (u.oper ≠ .up → u.Empty ∧ mgmtOut = []) := by
  have hqueues : (u.queues.toList.all fun q => q.entries.isEmpty) = true ↔ ∀ c, (u.queue c).entries = [] := by
    rw [PortUnit.queues_toList]
    simp [Fin.forall_fin_succ]
  simp only [idleUnlessUp, Bool.or_eq_true, Bool.and_eq_true, decide_eq_true_eq, hqueues, Option.isNone_iff_eq_none,
    List.isEmpty_iff]
  constructor
  · rintro (hup | ⟨⟨⟨hreception, htx⟩, hout⟩, hclasses⟩) hdown
    · exact absurd hup hdown
    · exact ⟨⟨hreception, htx, hclasses⟩, hout⟩
  · intro h
    by_cases hup : u.oper = .up
    · exact .inl hup
    · obtain ⟨hempty, hout⟩ := h hup
      exact .inr ⟨⟨⟨hempty.reception, hempty.tx⟩, hout⟩, hempty.queues⟩

theorem downPortsEmpty_iff (s : State) : DownPortsEmpty s ↔ s.DownEmpty := by
  rw [DownPortsEmpty, idleUnlessUp_iff, idleUnlessUp_iff]
  constructor
  · rintro ⟨hA, hB⟩ p hp
    cases p
    · exact hA hp
    · exact hB hp
  · exact fun h => ⟨h .a, h .b⟩

end Sys2Proof.Machine

namespace Sys2Proof.Settled

open Sys2Proof.Machine Sys2Proof.Safety

/-- Settles O8: what is balanced with an empty hand permutes the general cells, and a reset frees them all. -/
theorem generalCellsConserved : Obligations.GeneralCellsConserved := fun s t hs hstep =>
  (generalConserved_iff t).mpr ((step_lawful hstep).cells ((generalConserved_iff s).mp hs))

/-- Settles O9: free reserve cells, queues, transmissions and builders exchange reserve cells with one another. -/
theorem reserveCellsConserved : Obligations.ReserveCellsConserved := fun s t hs hstep => by
  obtain ⟨hsum, hfits⟩ := (reserveConserved_iff s).mp hs
  exact (reserveConserved_iff t).mpr ((step_lawful hstep).reserve hfits hsum).symm

/-- Settles O10: a holder that leaves a queue or a transmitter is in hand until it stands elsewhere or is released. -/
theorem holdersStayCounted : Obligations.HoldersStayCounted := fun s t hs hstep =>
  (holdersCounted_iff t).mpr ((step_lawful hstep).holders ((holdersCounted_iff s).mp hs))

/-- Settles O13: every change of the free cells and of the marks evaluates the pool's state anew. -/
theorem poolStateAgrees : Obligations.PoolStateAgrees := fun _ _ hs hstep => (step_lawful hstep).pool hs

/-- Settles O18: a port that leaves UP is emptied, and nothing joins a port that is not UP. -/
theorem downPortsStayEmpty : Obligations.DownPortsStayEmpty := fun s t hs hstep =>
  (downPortsEmpty_iff t).mpr ((step_lawful hstep).down ((downPortsEmpty_iff s).mp hs))

end Sys2Proof.Settled
end

section
/-! PROOF. Receptions: what a frame start, a line abort and a frame end do, and how a good frame is routed (R124 to
R128, R132, R133). -/

set_option Elab.async false

namespace Sys2Proof.Machine

open Sys2Proof.Safety

/-- A claimed cell leaves the free ones, and the pool evaluates its state on what then is free (R124, R133). -/
theorem Commons.takeGeneral_evaluated (v : State) (x : Commons) :
    PoolEvaluated v (x.setFree (Commons.takeGeneral v.env x).pool.free) (Commons.takeGeneral v.env x) := by
  rw [(Commons.takeGeneral_frame v.env x).1]
  exact Commons.evalPool_evaluated v _

/-! ### A frame start (R124, R125) -/

theorem State.startReception_untaken {s : State} {p : Port}
    (h : (s.port p).oper ≠ .up ∨ (s.port p).reception ≠ none) : s.startReception p = s := by
  unfold State.startReception
  split
  · rfl
  next hnone =>
    rcases h with hdown | hbusy
    · exact if_neg fun hup => hdown (State.oper_of_isUp hup)
    · exact absurd hnone hbusy

theorem State.startReception_claims {s : State} {p : Port} {c : GeneralCell} {rest : List GeneralCell}
    (hup : (s.port p).oper = .up) (hnone : (s.port p).reception = none)
    (hfree : s.commons.pool.free = c :: rest) :
    s.startReception p = (s.onCommons Commons.takeGeneral).setPort p
      { s.port p with reception := some (.receiving [] [c]) } := by
  rw [← State.setPort_onCommons]
  · unfold State.startReception
    simp only [hnone, (s.isUp_eq_true_iff p).mpr hup, if_true, hfree]
  · rfl

theorem State.startReception_refused {s : State} {p : Port} (hup : (s.port p).oper = .up)
    (hnone : (s.port p).reception = none) (hfree : s.commons.pool.free = []) :
    s.startReception p = s.discardReception p [] .noBuffer := by
  unfold State.startReception
  simp only [hnone, (s.isUp_eq_true_iff p).mpr hup, if_true, hfree]

/-- A pool whose state agrees with its marks does not change it when no cell returns. -/
theorem Commons.giveGeneral_nil (e : Env) {x : Commons} (hx : x.pool.Agrees) : giveGeneral e [] x = x := by
  obtain ⟨-, -, hlow⟩ := hx
  have hsame : ({ x with pool := { x.pool with free := x.pool.free ++ [] } } : Commons) = x := by
    rw [List.append_nil]
  unfold giveGeneral
  rw [hsame]
  refine evalPool_stays e (fun h => ?_) fun h => ?_
  · rwa [if_pos h] at hlow
  · rwa [if_neg (by simp [h])] at hlow

/-! ### A reception that ends (R125, R126, R132) -/

/-- A reception that ends is counted under `k` and returns its cells. -/
def State.returned (s : State) (p : Port) (k : PortCounter) (cells : List GeneralCell) : State :=
  ((s.setPort p { s.port p with reception := none }).count p k).onCommons fun e => Commons.giveGeneral e cells

/-- The port, the free cells and the rest of the part after a reception returned its cells. -/
theorem State.returned_effects (s : State) (p : Port) (k : PortCounter) (cells : List GeneralCell) :
    let t := s.returned p k cells
    t.port p = { (s.port p).count k with reception := none } ∧
      t.port (otherPort p) = s.port (otherPort p) ∧
      t.commons.pool.free.Perm (s.commons.pool.free ++ cells) ∧
      PoolEvaluated s { s.commons with pool := { s.commons.pool with free := t.commons.pool.free } } t.commons ∧
      t.commons.frames = s.commons.frames ∧ t.endpoint = s.endpoint ∧ t.classifier = s.classifier ∧
      t.tables = s.tables := by
  have hcommons : (s.returned p k cells).commons = Commons.giveGeneral s.env cells s.commons := by
    cases p <;> rfl
  obtain ⟨hfree, -, -, hframes, -⟩ := Commons.giveGeneral_frame s.env cells s.commons
  refine ⟨by cases p <;> rfl, by cases p <;> rfl, ?_, ?_, ?_, by cases p <;> rfl, by cases p <;> rfl,
    by cases p <;> rfl⟩
  · rw [hcommons, hfree]
  · rw [hcommons]
    exact Commons.giveGeneral_evaluated s cells _
  · rw [hcommons, hframes]

section
variable {s : State} {p : Port}

theorem State.receptions_end_none (h : (s.port p).reception = none) :
    s.abortReception p = s ∧ s.endReception p = s := by
  simp only [State.abortReception, State.endReception, h, and_self]

theorem State.receptions_end_discarding (h : (s.port p).reception = some .discarding) :
    s.abortReception p = s.setPort p { s.port p with reception := none } ∧
      s.endReception p = s.setPort p { s.port p with reception := none } := by
  simp only [State.abortReception, State.endReception, h, and_self]

variable {bytes : List Byte} {cells : List GeneralCell}

theorem State.abortReception_receiving (h : (s.port p).reception = some (.receiving bytes cells)) :
    s.abortReception p = s.returned p .lineAbort cells := by
  simp only [State.abortReception, h]
  rfl

theorem State.endReception_fails (h : (s.port p).reception = some (.receiving bytes cells)) {why : IntakeFail}
    (hwhy : intakeCheck bytes = some why) : s.endReception p = s.returned p why.counter cells := by
  simp only [State.endReception, h, hwhy]
  rfl

theorem State.endReception_good (h : (s.port p).reception = some (.receiving bytes cells))
    (hgood : intakeCheck bytes = none) :
    s.endReception p = (s.setPort p { s.port p with reception := none }).routeGood p bytes cells := by
  simp only [State.endReception, h, hgood]

end

/-- The counter of the first intake check that fails (R1, R126, R129). -/
theorem intakeCheck_counter (bytes : List Byte) :
    (intakeCheck bytes).map IntakeFail.counter =
      if bytes.length < 13 then some .runt
      else if 3 ≤ rxTagctl bytes ∨ u16At bytes 2 = 0xFFFF#16 then some .malformed
      else if 1024 < rxLenField bytes then some .oversize
      else if bytes.length ≠ 13 + 2 * rxTagctl bytes + rxLenField bytes then some .malformed
      else if checkValue (bytes.take (bytes.length - 4)) ≠ u32LeAt bytes (bytes.length - 4) then some .checkFail
      else none := by
  unfold intakeCheck rxSrc
  simp only [apply_ite (Option.map IntakeFail.counter)]
  rfl

/-! ### A good frame (R9, R13, R126, R127, R132) -/

theorem intakeFlags_one (t : Word16) : intakeFlags (.one t) = 0x0100#16 := by
  show putFlag (putFlag 0#16 .tagged true) .double false = _
  decide

theorem intakeFlags_two (t u : Word16) : intakeFlags (.two t u) = 0x0300#16 := by
  show putFlag (putFlag 0#16 .tagged true) .double true = _
  decide

/-- Flags of a record by the number of tags that came (R15). -/
theorem intakeFlags_rxTags (bytes : List Byte) : intakeFlags (rxTags bytes) =
    if rxTagctl bytes = 0 then 0#16 else if rxTagctl bytes = 1 then 0x0100#16 else 0x0300#16 := by
  unfold rxTags
  split
  · rfl
  · split
    · exact intakeFlags_one _
    · exact intakeFlags_two _ _

/-- The stored frame that a good reception becomes. -/
def RxFrame.received (id : Nat) (p : Port) (bytes : List Byte) (cells : List GeneralCell) : RxFrame :=
  { id := id, holders := 1, bytes := bytes, record := makeRecord p bytes cells }

/-- The only holder of the frame stored last is dropped: the frame goes and its cells come free. -/
theorem Commons.dropHolder_last {frames : List RxFrame} {f : RxFrame} (hfresh : ∀ g ∈ frames, g.id ≠ f.id)
    (hone : f.holders ≤ 1) : dropHolder f.id (frames ++ [f]) = (frames, f.record.cellList) := by
  induction frames with
  | nil => simp [dropHolder, hone]
  | cons g rest ih =>
    have hg : g.id ≠ f.id := hfresh g List.mem_cons_self
    simp [dropHolder, hg, ih fun i hi => hfresh i (List.mem_cons_of_mem _ hi)]

/-- The frame stored last loses its only holder: it goes, and its cells return where it has any. -/
theorem Commons.release_last (e : Env) {x : Commons} {frames : List RxFrame} {f : RxFrame}
    (hframes : x.frames = frames ++ [f]) (hfresh : ∀ g ∈ frames, g.id ≠ f.id) (hone : f.holders ≤ 1) :
    (release e f.id x).frames = frames ∧ (release e f.id x).pool.free = x.pool.free ++ f.record.cellList ∧
      (f.record.cellList ≠ [] →
        release e f.id x = giveGeneral e f.record.cellList { x with frames := frames }) := by
  have hdrop : dropHolder f.id x.frames = (frames, f.record.cellList) := by
    rw [hframes]
    exact dropHolder_last hfresh hone
  obtain ⟨hleft, hfree, -⟩ := release_frame e f.id x
  rw [hdrop] at hleft hfree
  refine ⟨hleft, hfree, fun hcells => ?_⟩
  rw [release, hdrop, if_neg hcells]

section
variable (s : State) (p : Port) (bytes : List Byte) (cells : List GeneralCell)

/-- The part once a good frame is counted and stored, before it is routed. -/
def State.storing (s : State) (p : Port) (bytes : List Byte) (cells : List GeneralCell) : State :=
  { s with commons := (Commons.store bytes (makeRecord p bytes cells) s.commons).1 }.setPort p
    { (s.port p).count .receivedGood with reception := none }

theorem State.routeGood_eq :
    (s.setPort p { s.port p with reception := none }).routeGood p bytes cells =
      if (s.storing p bytes cells).takesCommand (makeRecord p bytes cells) then
        (s.storing p bytes cells).offerCommand s.commons.nextFrame
      else (s.storing p bytes cells).offerIngress p s.commons.nextFrame := by
  cases p <;> rfl

theorem State.storing_env : (s.storing p bytes cells).env = s.env := by
  rw [State.storing, State.setPort_env]
  · rfl
  · cases p <;> rfl

theorem State.storing_port : (s.storing p bytes cells).port p =
    { (s.port p).count .receivedGood with reception := none } := by
  rw [State.storing, State.setPort_port]

theorem State.storing_port_other : (s.storing p bytes cells).port (otherPort p) = s.port (otherPort p) := by
  rw [State.storing, State.setPort_port_other]
  cases p <;> rfl

theorem State.storing_commons : (s.storing p bytes cells).commons =
    { s.commons with
      frames := s.commons.frames ++ [RxFrame.received s.commons.nextFrame p bytes cells]
      nextFrame := s.commons.nextFrame + 1 } := by
  rw [State.storing, State.setPort_commons]
  rfl

@[simp] theorem State.storing_endpoint : (s.storing p bytes cells).endpoint = s.endpoint := by
  simp [State.storing]

@[simp] theorem State.storing_classifier : (s.storing p bytes cells).classifier = s.classifier := by
  simp [State.storing]

@[simp] theorem State.storing_tables : (s.storing p bytes cells).tables = s.tables := by simp [State.storing]

@[simp] theorem State.storing_verify : (s.storing p bytes cells).verify = s.verify := by simp [State.storing]

theorem State.storing_takesCommand :
    (s.storing p bytes cells).takesCommand (makeRecord p bytes cells) = true ↔
      byteAt bytes 4 = 2#8 ∧ (u16At bytes 0 = s.endpoint.nodeAddress ∨ u16At bytes 0 = 0xFFFE#16) := by
  simp [State.takesCommand, makeRecord, Config.kindMgmt, Config.nearest]

end

section
variable {s : State} {id : Nat}

theorem State.offerCommand_joins (h : s.endpoint.commands.length < 4) : s.offerCommand id =
    { s with endpoint := { s.endpoint with commands := s.endpoint.commands ++ [id] } } := if_pos h

theorem State.offerCommand_full (h : 4 ≤ s.endpoint.commands.length) : s.offerCommand id =
    { s with commons := { s.commons with
      mgmt := { s.commons.mgmt with overrun := satInc s.commons.mgmt.overrun } } }.release id :=
  if_neg (Nat.not_lt.mpr h)

variable {p : Port}

theorem State.offerIngress_joins (h : (s.classifier.ingress p).length < 8) : s.offerIngress p id =
    { s with classifier := s.classifier.setIngress p (s.classifier.ingress p ++ [id]) } := if_pos h

theorem State.offerIngress_full (h : 8 ≤ (s.classifier.ingress p).length) :
    s.offerIngress p id = (s.count p .ingressFull).release id := if_neg (Nat.not_lt.mpr h)

end

/-- A good frame that its queue refuses loses its only holder: it goes, and its cells return (R28, R127). -/
theorem State.refusedFrame_effects {s t : State} {p : Port} {bytes : List Byte} {cells : List GeneralCell}
    (hfresh : ∀ g ∈ s.commons.frames, g.id ≠ s.commons.nextFrame) {m : MgmtCounters}
    (hcommons : t.commons = { s.commons with
      frames := s.commons.frames ++ [RxFrame.received s.commons.nextFrame p bytes cells]
      nextFrame := s.commons.nextFrame + 1
      mgmt := m })
    (henv : t.env = s.env) :
    let u := (t.release s.commons.nextFrame).commons
    u.frames = s.commons.frames ∧ u.pool.free.Perm (s.commons.pool.free ++ cells) ∧
      u.mgmt.overrun = m.overrun ∧
      (cells ≠ [] → PoolEvaluated s
        { s.commons with
          nextFrame := s.commons.nextFrame + 1
          pool := { s.commons.pool with free := u.pool.free }
          mgmt := m } u) := by
  have hframes : t.commons.frames =
      s.commons.frames ++ [RxFrame.received s.commons.nextFrame p bytes cells] := by rw [hcommons]
  have hpool : t.commons.pool = s.commons.pool := by rw [hcommons]
  obtain ⟨hleft, hfree, hgiven⟩ := Commons.release_last s.env hframes hfresh (Nat.le_refl 1)
  have hrelease : (t.release s.commons.nextFrame).commons =
      Commons.release s.env s.commons.nextFrame t.commons := by
    rw [← henv]
    rfl
  obtain ⟨-, -, -, -, -, -, hoverrun, -⟩ := Commons.release_frame s.env s.commons.nextFrame t.commons
  dsimp only
  rw [hrelease]
  refine ⟨hleft, ?_, ?_, fun hcells => ?_⟩
  · rw [hpool] at hfree
    exact .of_eq hfree
  · rw [hoverrun, hcommons]
  · have hreturned : Commons.release s.env s.commons.nextFrame t.commons =
        Commons.giveGeneral s.env cells
          { s.commons with nextFrame := s.commons.nextFrame + 1, mgmt := m } :=
      (hgiven hcells).trans (by rw [hcommons]; rfl)
    rw [hreturned]
    exact Commons.giveGeneral_evaluated s cells
      { s.commons with nextFrame := s.commons.nextFrame + 1, mgmt := m }

end Sys2Proof.Machine

namespace Sys2Proof.Settled

open Sys2Proof.Machine Sys2Proof.Safety

/-- Settles O40: a frame start by the free cells it finds, and not taken at a port that is not UP or receives. -/
theorem frameStartBegins : Obligations.FrameStartBegins := by
  intro p s
  refine ⟨fun hup hnone => ⟨s.startReception p, rfl, ?_⟩,
    fun h => congrArg Host.Outcome.next (State.startReception_untaken h)⟩
  cases hfree : s.commons.pool.free with
  | nil =>
    have hzero : s.commons.pool.freeGeneral = 0 := by rw [Pool.freeGeneral, hfree]; rfl
    have hcommons := s.discardReception_commons p [] .noBuffer
    obtain ⟨hgiven, -, -, hframes, -⟩ := Commons.giveGeneral_frame s.env [] s.commons
    rw [State.startReception_refused hup hnone hfree]
    obtain ⟨hother, hendpoint, hclassifier, htables⟩ := s.discardReception_frame p [] .noBuffer
    refine ⟨hother, hendpoint, hclassifier, htables, by cases p <;> rfl, by cases p <;> rfl, ?_,
      fun h => absurd hzero h, fun _ => ⟨s.discardReception_port p [] .noBuffer, ?_, fun hs => ?_⟩⟩
    · rw [hcommons, hframes]
    · rw [hcommons, Pool.freeGeneral, hgiven, hfree]
      rfl
    · rw [hcommons, Commons.giveGeneral_nil s.env hs]
  | cons c rest =>
    rw [State.startReception_claims hup hnone hfree]
    obtain ⟨htaken, -, -, hframes, -⟩ := Commons.takeGeneral_frame s.env s.commons
    rw [hfree, List.tail_cons] at htaken
    refine ⟨by simp, by simp, by simp, by simp, by simp, by simp, ?_, fun _ => ⟨c, by simp, ?_, ?_⟩, fun hzero => ?_⟩
    · rw [State.setPort_commons]
      exact hframes
    · rw [State.setPort_commons, State.onCommons_commons, htaken]
    · rw [State.setPort_commons]
      exact Commons.takeGeneral_evaluated s s.commons
    · rw [Pool.freeGeneral, hfree] at hzero
      exact absurd hzero (Nat.succ_ne_zero _)

/-- Settles O42: a line abort and a failed check return the cells, and a reception that discards just ends. -/
theorem receptionsEndCounted : Obligations.ReceptionsEndCounted := by
  intro p s
  refine ⟨fun hnone => ?_, fun hdiscarding => ?_, fun bytes cells hreception => ?_⟩
  · obtain ⟨habort, hend⟩ := State.receptions_end_none hnone
    exact ⟨congrArg Host.Outcome.next habort, congrArg Host.Outcome.next hend⟩
  · obtain ⟨habort, hend⟩ := State.receptions_end_discarding hdiscarding
    exact ⟨congrArg Host.Outcome.next habort, congrArg Host.Outcome.next hend⟩
  · refine ⟨⟨_, congrArg Host.Outcome.next (State.abortReception_receiving hreception), s.returned_effects p _ cells⟩,
      fun k hk => ?_⟩
    obtain ⟨why, hwhy, rfl⟩ := Option.map_eq_some_iff.mp ((intakeCheck_counter bytes).trans hk)
    exact ⟨s.returned p why.counter cells, congrArg Host.Outcome.next (State.endReception_fails hreception hwhy), s.returned_effects p _ cells⟩

/-- Settles O43: the frame is stored with one holder, joins its queue where there is room, and else loses that
holder. -/
theorem goodFramesAreRouted : Obligations.GoodFramesAreRouted := by
  refine ⟨fun _ _ _ => rfl, fun p s bytes cells hreception hgood hfresh => ?_⟩
  intro stored mgmt
  have hstored : stored = RxFrame.received s.commons.nextFrame p bytes cells := by
    simp only [stored, RxFrame.received, makeRecord, intakeFlags_rxTags]
    rfl
  have hmgmt := s.storing_takesCommand p bytes cells
  have hcommons := s.storing_commons p bytes cells
  have henv := s.storing_env p bytes cells
  have hport := s.storing_port p bytes cells
  have hother := s.storing_port_other p bytes cells
  have hend := (State.endReception_good hreception hgood).trans (s.routeGood_eq p bytes cells)
  clear_value stored
  subst hstored
  by_cases hcommand : mgmt
  · rw [if_pos (hmgmt.mpr hcommand)] at hend
    refine ⟨_, congrArg Host.Outcome.next hend, ?_⟩
    by_cases hroom : s.endpoint.commands.length < 4
    · rw [State.offerCommand_joins (by simpa using hroom)]
      exact ⟨hother, by simp, by simp, fun _ _ => ⟨hcommons, by simp [RxFrame.received], by simp, hport⟩,
        fun _ hfull => absurd hroom (Nat.not_lt.mpr hfull), fun h => absurd hcommand h,
        fun h => absurd hcommand h⟩
    · rw [State.offerCommand_full (by simpa using hroom)]
      obtain ⟨hframes, hfree, hoverrun, hevaluated⟩ := State.refusedFrame_effects (t := { s.storing p bytes cells with
        commons := { (s.storing p bytes cells).commons with
          mgmt := { (s.storing p bytes cells).commons.mgmt with
            overrun := satInc (s.storing p bytes cells).commons.mgmt.overrun } } }) hfresh (by rw [hcommons]) henv
      exact ⟨hother, s.storing_tables p bytes cells, s.storing_verify p bytes cells,
        fun _ h => absurd h hroom,
        fun _ _ => ⟨hframes, s.storing_endpoint p bytes cells, hfree, hoverrun, s.storing_classifier p bytes cells,
          hevaluated, hport⟩,
        fun h => absurd hcommand h, fun h => absurd hcommand h⟩
  · rw [if_neg (mt hmgmt.mp hcommand)] at hend
    refine ⟨_, congrArg Host.Outcome.next hend, ?_⟩
    by_cases hroom : (s.classifier.ingress p).length < 8
    · rw [State.offerIngress_joins (by simpa using hroom)]
      exact ⟨hother, by simp, by simp, fun h => absurd h hcommand, fun h => absurd h hcommand,
        fun _ _ => ⟨hcommons, by simp [RxFrame.received], by simp, hport⟩,
        fun _ hfull => absurd hroom (Nat.not_lt.mpr hfull)⟩
    · rw [State.offerIngress_full (by simpa using hroom)]
      obtain ⟨hframes, hfree, -, hevaluated⟩ := State.refusedFrame_effects
        (t := (s.storing p bytes cells).count p .ingressFull) hfresh
        (by rw [State.count, State.setPort_commons, hcommons]) (by rw [State.count, State.setPort_env, henv]; rfl)
      refine ⟨by simpa [State.release, State.count] using hother, by simp [State.release, State.count],
        by simp [State.release, State.count], fun h => absurd h hcommand, fun h => absurd h hcommand,
        fun _ h => absurd h hroom, fun _ _ => ⟨hframes, by simp [State.release, State.count], hfree,
          by simp [State.release, State.count], hevaluated, ?_⟩⟩
      simp only [State.release, State.onCommons_port, State.count, State.setPort_port, hport]
      rfl

end Sys2Proof.Settled
end

section
/-! PROOF. Builders that wait: the claims that the reserve arbiter grants and the offers that a management-out queue
admits, in their rank order (R131, R140, R153, R172, R179). -/

set_option Elab.async false

namespace Sys2Proof.Machine

open Sys2Proof.Safety

namespace Commons

/-! ### What waits (R131, R140) -/

theorem hasRoom_iff (x : Commons) (p : Port) : x.hasRoom p = true ↔ (x.mgmtOut p).length < 4 := by
  unfold hasRoom
  exact decide_eq_true_iff

theorem responseClaimWaits_iff (x : Commons) : x.responseClaimWaits = true ↔ ∃ b, x.output = .claiming b := by
  unfold responseClaimWaits
  split
  next b hb => simp [hb]
  next hnot => simpa using hnot

theorem responseOfferWaits_iff (x : Commons) (p : Port) :
    x.responseOfferWaits p = true ↔ ∃ b, x.output = .offering b ∧ b.port = p := by
  unfold responseOfferWaits
  split
  next b hb => simp [hb]
  next hnot => simpa using fun b hb => absurd hb (hnot b)

theorem eventClaimWaits_iff (x : Commons) :
    x.eventClaimWaits = true ↔ ∃ w, x.events.sender = .awaiting w ∧ w.flight = .claiming := by
  unfold eventClaimWaits
  split
  next w hw => simp [hw]
  next hidle => simp [hidle]

theorem eventOfferWaits_iff (x : Commons) (p : Port) : x.eventOfferWaits p = true ↔
    ∃ w b, x.events.sender = .awaiting w ∧ w.flight = .offering b ∧ b.port = p := by
  unfold eventOfferWaits
  split
  next w hw =>
    split
    next b hb => simp [hw, hb]
    next hnot => simpa [hw] using fun b hb => absurd hb (hnot b)
  next hidle => simp [hidle]

/-! ### Queues that grow at their tails (R140) -/

/-- Between `x` and `y` frames joined the tails of the management-out queues, and none left. -/
def Grows (x y : Commons) : Prop := ∀ q, ∃ more, y.mgmtOut q = x.mgmtOut q ++ more

theorem Grows.of_eq {x y : Commons} (hA : y.mgmtOutA = x.mgmtOutA) (hB : y.mgmtOutB = x.mgmtOutB) : Grows x y := by
  intro q
  refine ⟨[], ?_⟩
  rw [List.append_nil]
  cases q
  · exact hA
  · exact hB

theorem Grows.refl (x : Commons) : Grows x x := .of_eq rfl rfl

theorem Grows.trans {x y z : Commons} (h : Grows x y) (k : Grows y z) : Grows x z := fun q => by
  obtain ⟨l, hl⟩ := h q
  obtain ⟨m, hm⟩ := k q
  exact ⟨l ++ m, by rw [hm, hl, List.append_assoc]⟩

theorem pushMgmtOut_grows (x : Commons) (b : Built) : Grows x (x.pushMgmtOut b) := fun q => by
  by_cases hq : q = b.port
  · rw [hq]
    exact ⟨[b], x.pushMgmtOut_mgmtOut b⟩
  · refine ⟨[], ?_⟩
    rw [eq_otherPort_of_ne hq, pushMgmtOut, setMgmtOut_other, List.append_nil]

theorem offerEvent_grows (e : Env) (w : Awaiting) (b : Built) (x : Commons) : Grows x (offerEvent e w b x) := by
  unfold offerEvent
  split
  · split
    · exact (x.pushMgmtOut_grows b).trans (.of_eq rfl rfl)
    · exact .of_eq rfl rfl
  · exact .of_eq rfl rfl

theorem grantEvent_grows (e : Env) (x : Commons) : Grows x (grantEvent e x) := by
  unfold grantEvent
  split
  · split
    · dsimp only
      split
      · exact Grows.trans (.of_eq rfl rfl) (offerEvent_grows e _ _ _)
      · exact .refl x
    · exact .refl x
  · exact .refl x

theorem trySend_grows (e : Env) (x : Commons) : Grows x (trySend e x) := by
  unfold trySend
  split
  · split
    · unfold claimEvent
      split
      · exact .of_eq rfl rfl
      · exact Grows.trans (.of_eq rfl rfl) (grantEvent_grows e _)
    · exact .refl x
  · exact .refl x

theorem post_grows (e : Env) (k : EventKind) (x : Commons) : Grows x (post e k x) := by
  refine Grows.trans ?_ (trySend_grows e _)
  rw [accept_eq]
  exact .of_eq rfl rfl

theorem evalPool_grows (e : Env) (x : Commons) : Grows x (evalPool e x) := by
  unfold evalPool
  split
  · split
    · exact Grows.trans (.of_eq rfl rfl) (post_grows e _ _)
    · exact .refl x
  · split
    · exact Grows.trans (.of_eq rfl rfl) (post_grows e _ _)
    · exact .refl x

theorem release_grows (e : Env) (id : Nat) (x : Commons) : Grows x (release e id x) := by
  unfold release
  split
  · exact .of_eq rfl rfl
  · exact Grows.trans (.of_eq rfl rfl) (evalPool_grows e _)

theorem offerPunt_grows (e : Env) (b : Built) (x : Commons) : Grows x (offerPunt e b x) := by
  unfold offerPunt
  split
  · split
    · exact (x.pushMgmtOut_grows b).trans (.of_eq rfl rfl)
    · exact .of_eq rfl rfl
  · exact .of_eq rfl rfl

theorem grantPunt_grows (e : Env) (x : Commons) : Grows x (grantPunt e x) := by
  unfold grantPunt
  split
  · split
    · dsimp only
      split
      · refine Grows.trans ?_ (offerPunt_grows e _ _)
        refine Grows.trans ?_ (release_grows e _ _)
        exact .of_eq rfl rfl
      · exact .refl x
    · exact .refl x
  · exact .refl x

theorem admitWaitingEvent_grows (e : Env) (p : Port) (x : Commons) : Grows x (admitWaitingEvent e p x) := by
  unfold admitWaitingEvent
  split
  · split
    · split
      · exact (x.pushMgmtOut_grows _).trans (.of_eq rfl rfl)
      · exact .refl x
    · exact .refl x
  · exact .refl x

theorem admitWaitingPunt_grows (e : Env) (p : Port) (x : Commons) : Grows x (admitWaitingPunt e p x) := by
  unfold admitWaitingPunt
  split
  · split
    · exact (x.pushMgmtOut_grows _).trans (.of_eq rfl rfl)
    · exact .refl x
  · exact .refl x

/-! ### Cells that return without a send (R132, R133, R172) -/

/-- The management-out queues, the free reserve cells, the sender and the endpoint's output. -/
def outlets (x : Commons) : List Built × List Built × Nat × Sender × Output :=
  (x.mgmtOutA, x.mgmtOutB, x.pool.freeReserve, x.events.sender, x.output)

/-- A post to a sender that is not IDLE begins no send. -/
theorem post_outlets (e : Env) (k : EventKind) {x : Commons} (h : x.events.sender ≠ .idle) :
    (post e k x).outlets = x.outlets := by
  have haccepted := accept_eq e k x
  have hbusy : (accept e k x).events.sender = x.events.sender := by rw [haccepted]
  have hstays : trySend e (accept e k x) = accept e k x := by
    unfold trySend
    split
    next hidle _ => exact absurd (hbusy ▸ hidle) h
    · rfl
  rw [post, hstays, haccepted]
  rfl

theorem evalPool_outlets (e : Env) {x : Commons} (h : x.events.sender ≠ .idle) :
    (evalPool e x).outlets = x.outlets := by
  unfold evalPool
  split
  · split
    · exact post_outlets e _ h
    · rfl
  · split
    · exact post_outlets e _ h
    · rfl

/-- The cells that come free with a holder of a stored frame. -/
theorem dropHolder_of_frame? {frames : List RxFrame} {id : Nat} {f : RxFrame}
    (h : frames.find? (fun g => g.id == id) = some f) :
    (dropHolder id frames).2 = if f.holders ≤ 1 then f.record.cellList else [] := by
  induction frames with
  | nil => cases h
  | cons g rest ih =>
    by_cases hg : g.id = id
    · have hgf : g = f := by simpa [hg] using h
      subst hgf
      by_cases hone : g.holders ≤ 1
      · simp [dropHolder, hg, hone]
      · simp [dropHolder, hg, hone]
    · have hrest : rest.find? (fun i => i.id == id) = some f := by simpa [hg] using h
      simpa [dropHolder, hg] using ih hrest

/-- A release of a holder begins no send where the frame keeps a holder, where the sender is not IDLE, or where the
pool does not change its state. -/
theorem release_outlets (e : Env) {x : Commons} {id : Nat} {f : RxFrame} (hf : x.frame? id = some f)
    (hquiet : 2 ≤ f.holders ∨ x.events.sender ≠ .idle ∨
      ((x.pool.low = true → x.pool.freeGeneral + f.cells ≤ x.pool.highMark) ∧
        (x.pool.low = false → x.pool.lowMark ≤ x.pool.freeGeneral + f.cells))) :
    (release e id x).outlets = x.outlets := by
  have hdrop : (dropHolder id x.frames).2 = if f.holders ≤ 1 then f.record.cellList else [] := dropHolder_of_frame? hf
  unfold release
  split
  · rfl
  next hcells =>
    have hone : f.holders ≤ 1 := by
      by_contra hmore
      exact hcells (by rw [hdrop, if_neg hmore])
    rw [if_pos hone] at hdrop
    rcases hquiet with hmore | hbusy | ⟨hlow, hok⟩
    · omega
    · exact evalPool_outlets e hbusy
    · have hleft : ∀ y : Commons, y.pool.free = x.pool.free ++ f.record.cellList →
          y.pool.freeGeneral = x.pool.freeGeneral + f.cells := fun y hy => by
        rw [Pool.freeGeneral, hy, List.length_append]
        rfl
      rw [giveGeneral, hdrop]
      rw [evalPool_stays]
      · rfl
      · exact fun h => by rw [hleft _ rfl]; exact hlow h
      · exact fun h => by rw [hleft _ rfl]; exact hok h

/-! ### The grants one by one (R131) -/

section
variable {e : Env} {x : Commons}

theorem grantResponse_of_not_claiming (h : ∀ b, x.output ≠ .claiming b) : grantResponse e x = x := by
  unfold grantResponse
  split
  next b hb => exact absurd hb (h b)
  · rfl

theorem grantResponse_short {b : Built} (h : x.output = .claiming b) (hshort : x.pool.freeReserve < b.cells) :
    grantResponse e x = x := by
  simp only [grantResponse, h, if_neg (Nat.not_le.mpr hshort)]

theorem grantResponse_joins {b : Built} (h : x.output = .claiming b) (hup : e.up b.port = true)
    (hroom : (x.mgmtOut b.port).length < 4) (hcells : b.cells ≤ x.pool.freeReserve) :
    grantResponse e x = (x.takeReserve b.cells).admitResponse b := by
  have hroom' : (x.takeReserve b.cells).hasRoom b.port = true := by
    rw [hasRoom_iff]
    cases hp : b.port <;> simpa [mgmtOut, hp] using hroom
  simp only [grantResponse, h, if_pos hcells, offerResponse, hup, hroom', if_true]

theorem grantEvent_of_not_claiming (h : x.eventClaimWaits = false) : grantEvent e x = x := by
  unfold grantEvent
  split
  next w _ _ _ hsender _ _ =>
    have hnot : w.flight ≠ .claiming := fun hw => by
      rw [(eventClaimWaits_iff x).mpr ⟨w, hsender, hw⟩] at h
      cases h
    rw [if_neg hnot]
  · rfl

theorem grantPunt_of_not_claiming (h : x.events.punt ≠ .claiming) : grantPunt e x = x := by
  unfold grantPunt
  split
  next hpunt _ _ => exact absurd hpunt h
  · rfl

/-- The arbiter stops at a response claim that it cannot grant, and goes on to the event report where none waits. -/
theorem arbiter_eq (e : Env) (x : Commons) : arbiter e x =
    if (grantResponse e x).responseClaimWaits then grantResponse e x
    else if (grantEvent e (grantResponse e x)).eventClaimWaits then grantEvent e (grantResponse e x)
    else grantPunt e (grantEvent e (grantResponse e x)) := rfl

/-- Past the response the arbiter looks at the event report and at the punt report. -/
theorem arbiter_past_response (h : ∀ b, (grantResponse e x).output ≠ .claiming b) :
    arbiter e x =
      if (grantEvent e (grantResponse e x)).eventClaimWaits then grantEvent e (grantResponse e x)
      else grantPunt e (grantEvent e (grantResponse e x)) := by
  have hnone : (grantResponse e x).responseClaimWaits = false := by
    rw [Bool.eq_false_iff, Ne, responseClaimWaits_iff]
    exact fun ⟨b, hb⟩ => h b hb
  rw [arbiter_eq, hnone]
  rfl

/-- Past the response the arbiter lets frames join the tails of the queues, and the output stays. -/
theorem arbiter_past_response_grows (h : ∀ b, (grantResponse e x).output ≠ .claiming b) :
    Grows (grantResponse e x) (arbiter e x) ∧ (arbiter e x).output = (grantResponse e x).output := by
  rw [arbiter_past_response h]
  have hevent := grantEvent_grows e (grantResponse e x)
  split
  · exact ⟨hevent, by simp⟩
  · exact ⟨hevent.trans (grantPunt_grows e _), by simp⟩

end

section
variable {v : State} {x : Commons}

/-- An event report whose claim waits joins its queue where a cell is free, there is room and no response waits for
it. -/
theorem grantEvent_joins {w : Awaiting} {l : Listener} {r : EventRecord} {rest : List EventRecord}
    (hsender : x.events.sender = .awaiting w) (hclaims : w.flight = .claiming)
    (hlistener : x.events.listener = some l) (hqueue : x.events.queue = r :: rest) (hup : (v.port l.port).oper = .up)
    (hcell : 1 ≤ x.pool.freeReserve) (hroom : (x.mgmtOut l.port).length < 4)
    (hfirst : x.responseOfferWaits l.port = false) :
    grantEvent v.env x =
      (x.takeReserve 1).admitEvent w (eventReport l v.endpoint.nodeAddress r w.captured) := by
  have hroom' : (x.takeReserve 1).hasRoom l.port = true := by
    rw [hasRoom_iff]
    cases hp : l.port <;> simpa [mgmtOut, hp] using hroom
  have hfirst' : (x.takeReserve 1).responseOfferWaits l.port = false := hfirst
  rw [grantEvent_claiming v x w l r rest hsender hclaims hlistener hqueue, if_pos hcell, offerEvent_up v w _ _ hup]
  exact if_pos (by simp [eventReport, hroom', hfirst'])

/-- It waits for room where there is none or a response waits for it. -/
theorem grantEvent_offers {w : Awaiting} {l : Listener} {r : EventRecord} {rest : List EventRecord}
    (hsender : x.events.sender = .awaiting w) (hclaims : w.flight = .claiming)
    (hlistener : x.events.listener = some l) (hqueue : x.events.queue = r :: rest) (hup : (v.port l.port).oper = .up)
    (hcell : 1 ≤ x.pool.freeReserve)
    (hfull : 4 ≤ (x.mgmtOut l.port).length ∨ x.responseOfferWaits l.port = true) :
    grantEvent v.env x = (x.takeReserve 1).setSender
      (.awaiting { w with flight := .offering (eventReport l v.endpoint.nodeAddress r w.captured) }) := by
  have hnot : ¬(((x.takeReserve 1).hasRoom l.port && !(x.takeReserve 1).responseOfferWaits l.port) = true) := by
    rw [Bool.and_eq_true, hasRoom_iff]
    rintro ⟨hroom, hfirst⟩
    rcases hfull with hlong | hwaits
    · have hsame : (x.takeReserve 1).mgmtOut l.port = x.mgmtOut l.port := by cases l.port <;> rfl
      rw [hsame] at hroom
      omega
    · have hsame : (x.takeReserve 1).responseOfferWaits l.port = true := hwaits
      simp [hsame] at hfirst
  rw [grantEvent_claiming v x w l r rest hsender hclaims hlistener hqueue, if_pos hcell, offerEvent_up v w _ _ hup]
  exact if_neg hnot

/-- A punt report that joins its queue where there is room and nothing of higher rank waits for it. -/
theorem offerPunt_joins {b : Built} (hup : (v.port b.port).oper = .up) (hroom : (x.mgmtOut b.port).length < 4)
    (hfirst : x.responseOfferWaits b.port = false) (hsecond : x.eventOfferWaits b.port = false) :
    offerPunt v.env b x = x.admitPunt b := by
  have hroom' := (hasRoom_iff x b.port).mpr hroom
  simp only [offerPunt, env_up, hup, decide_true, hroom', hfirst, hsecond, Bool.not_false, Bool.and_self, if_true]

theorem offerPunt_offers {b : Built} (hup : (v.port b.port).oper = .up)
    (hfull : 4 ≤ (x.mgmtOut b.port).length ∨ x.responseOfferWaits b.port = true ∨
      x.eventOfferWaits b.port = true) :
    offerPunt v.env b x = x.setPunt (.offering b) := by
  have hnot : ¬((x.hasRoom b.port && !x.responseOfferWaits b.port && !x.eventOfferWaits b.port) = true) := by
    rw [Bool.and_eq_true, Bool.and_eq_true, hasRoom_iff]
    rintro ⟨⟨hroom, hfirst⟩, hsecond⟩
    rcases hfull with hlong | hwaits | hwaits
    · omega
    · simp [hwaits] at hfirst
    · simp [hwaits] at hsecond
  simp only [offerPunt, env_up, hup, decide_true, if_true, if_neg hnot]

/-- The punt side as it offers its report: the cells are taken, the entry has left the queue and its holder is
released (R131, R179). -/
def puntTaken (v : State) (x : Commons) (id : Nat) (rest : List Nat) (b : Built) : Commons :=
  release v.env id { x.takeReserve b.cells with events := { x.events with puntQueue := rest, punt := .idle } }

/-- The grant of a waiting claim of a punt report. -/
theorem grantPunt_claiming {l : Listener} {id : Nat} {rest : List Nat} {f : RxFrame}
    (hclaims : x.events.punt = .claiming) (hlistener : x.events.listener = some l)
    (hqueue : x.events.puntQueue = id :: rest) (hf : x.frame? id = some f) :
    let b := puntReport l v.endpoint.nodeAddress f
    grantPunt v.env x =
      if b.cells ≤ x.pool.freeReserve then offerPunt v.env b (puntTaken v x id rest b) else x := by
  unfold grantPunt
  simp only [hclaims, hlistener, hqueue, hf]
  rfl

/-- The release of the punted frame's holder begins no send where its frame keeps a holder, where the sender is not
IDLE, or where the pool does not change its state. -/
theorem puntTaken_effects {id : Nat} {rest : List Nat} {f : RxFrame} (hf : x.frame? id = some f) (b : Built)
    (hquiet : 2 ≤ f.holders ∨ x.events.sender ≠ .idle ∨
      ((x.pool.low = true → x.pool.freeGeneral + f.cells ≤ x.pool.highMark) ∧
        (x.pool.low = false → x.pool.lowMark ≤ x.pool.freeGeneral + f.cells))) :
    let y := puntTaken v x id rest b
    (∀ q, y.mgmtOut q = x.mgmtOut q) ∧ y.pool.freeReserve = x.pool.freeReserve - b.cells ∧
      y.events.sender = x.events.sender ∧ y.output = x.output ∧ y.events.puntQueue = rest ∧
      y.frames = (dropHolder id x.frames).1 := by
  have houtlets := release_outlets v.env (x := { x.takeReserve b.cells with
    events := { x.events with puntQueue := rest, punt := .idle } }) hf hquiet
  simp only [outlets, Prod.mk.injEq] at houtlets
  obtain ⟨hA, hB, hfree, hsender, houtput⟩ := houtlets
  obtain ⟨hframes, -, -, -, -, -, -, -, -, -, -, hpunts, -⟩ := release_frame v.env id { x.takeReserve b.cells with
    events := { x.events with puntQueue := rest, punt := .idle } }
  refine ⟨fun q => ?_, hfree, hsender, houtput, hpunts, hframes⟩
  cases q
  · exact hA
  · exact hB

end

/-! ### Offers that the queue admits (R140) -/

section
variable {v : State} {x : Commons} {p : Port}

theorem admitWaitingResponse_joins {b : Built} (h : x.output = .offering b) (hp : b.port = p)
    (hup : (v.port p).oper = .up) (hroom : (x.mgmtOut p).length < 4) :
    admitWaitingResponse v.env p x = x.admitResponse b := by
  simp only [admitWaitingResponse, h, hp, env_up, hup, decide_true, (hasRoom_iff x p).mpr hroom, and_self, if_true]

theorem admitWaitingResponse_stays
    (h : x.responseOfferWaits p = false ∨ (v.port p).oper ≠ .up ∨ 4 ≤ (x.mgmtOut p).length) :
    admitWaitingResponse v.env p x = x := by
  unfold admitWaitingResponse
  split
  next b hb =>
    refine if_neg ?_
    rintro ⟨hp, hup, hroom⟩
    rw [hasRoom_iff] at hroom
    rcases h with hnone | hdown | hfull
    · rw [(responseOfferWaits_iff x p).mpr ⟨b, hb, hp⟩] at hnone
      cases hnone
    · rw [env_up, decide_eq_true_eq] at hup
      exact hdown hup
    · omega
  · rfl

theorem admitWaitingEvent_joins {w : Awaiting} {b : Built} (hsender : x.events.sender = .awaiting w)
    (hoffers : w.flight = .offering b) (hp : b.port = p) (hup : (v.port p).oper = .up)
    (hroom : (x.mgmtOut p).length < 4) (hfirst : x.responseOfferWaits p = false) :
    admitWaitingEvent v.env p x = x.admitEvent w b := by
  simp only [admitWaitingEvent, hsender, hoffers, hp, env_up, hup, decide_true, (hasRoom_iff x p).mpr hroom, hfirst,
    Bool.false_eq_true, not_false_eq_true, and_self, if_true]

theorem admitWaitingEvent_stays
    (h : x.eventOfferWaits p = false ∨ (v.port p).oper ≠ .up ∨ 4 ≤ (x.mgmtOut p).length) :
    admitWaitingEvent v.env p x = x := by
  unfold admitWaitingEvent
  split
  next w hw =>
    split
    next b hb =>
      refine if_neg ?_
      rintro ⟨hp, hup, hroom, -⟩
      rw [hasRoom_iff] at hroom
      rcases h with hnone | hdown | hfull
      · rw [(eventOfferWaits_iff x p).mpr ⟨w, b, hw, hb, hp⟩] at hnone
        cases hnone
      · rw [env_up, decide_eq_true_eq] at hup
        exact hdown hup
      · omega
    · rfl
  · rfl

theorem admitWaitingPunt_joins {b : Built} (h : x.events.punt = .offering b) (hp : b.port = p)
    (hup : (v.port p).oper = .up) (hroom : (x.mgmtOut p).length < 4) (hfirst : x.responseOfferWaits p = false)
    (hsecond : x.eventOfferWaits p = false) : admitWaitingPunt v.env p x = x.admitPunt b := by
  simp only [admitWaitingPunt, h, hp, env_up, hup, decide_true, (hasRoom_iff x p).mpr hroom, hfirst, hsecond,
    Bool.false_eq_true, not_false_eq_true, and_self, if_true]

theorem admitWaitingPunt_stays
    (h : x.events.punt = .idle ∨ (v.port p).oper ≠ .up ∨ 4 ≤ (x.mgmtOut p).length) :
    admitWaitingPunt v.env p x = x := by
  unfold admitWaitingPunt
  split
  next b hb =>
    refine if_neg ?_
    rintro ⟨-, hup, hroom, -, -⟩
    rw [hasRoom_iff] at hroom
    rcases h with hidle | hdown | hfull
    · rw [hb] at hidle
      cases hidle
    · rw [env_up, decide_eq_true_eq] at hup
      exact hdown hup
    · omega
  · rfl

/-- A response that has joined its queue no longer waits for room. -/
theorem admitResponse_offers (x : Commons) (b : Built) (q : Port) :
    (x.admitResponse b).responseOfferWaits q = false := by
  obtain ⟨port, builder, dest, src, tags, payload⟩ := b
  cases builder with
  | response k => cases k <;> rfl
  | event => rfl
  | punt => rfl

theorem admitResponse_claims (x : Commons) (b c : Built) : (x.admitResponse b).output ≠ .claiming c := by
  obtain ⟨port, builder, dest, src, tags, payload⟩ := b
  cases builder with
  | response k => cases k <;> nofun
  | event => nofun
  | punt => nofun

end

end Commons

end Sys2Proof.Machine
end

section
/-! PROOF. Builders that wait join their queues: the rows RESERVE_GRANT and MGMT_OUT_ADMIT (R131, R140, R153, R172,
R179). -/

set_option Elab.async false

namespace Sys2Proof.Machine

open Sys2Proof.Safety

/-- RESERVE_GRANT where no restart falls due by it. -/
theorem execReserveGrant_eq {s : State}
    (h : ∀ k, (Commons.arbiter s.env s.commons).output ≠ .restartDue k) :
    exec .reserveGrant s = .next (s.onCommons Commons.arbiter) :=
  congrArg Host.Outcome.next (State.settleRestart_none _ ⟨h .light, h .full⟩)

theorem execReserveGrant_stays {s : State} (h : ∀ k, s.commons.output ≠ .restartDue k)
    (hsame : Commons.arbiter s.env s.commons = s.commons) : exec .reserveGrant s = .next s := by
  rw [execReserveGrant_eq (by rwa [hsame])]
  exact congrArg Host.Outcome.next (by rw [State.onCommons, hsame])

theorem not_due_of_noRestartDue {s : State} (h : NoRestartDue s) (k : RestartKind) :
    s.commons.output ≠ .restartDue k := by
  cases k
  · exact h.1
  · exact h.2

theorem outputAfterAdmission_eq (b : Builder) : Commons.outputAfterAdmission b =
    match b with | .response (some k) => .restartPending k | _ => .idle := by
  cases b with
  | response k => cases k <;> rfl
  | event => rfl
  | punt => rfl

/-- A response that has joined its queue leaves no restart due. -/
theorem Commons.admitResponse_not_due (x : Commons) (b : Built) (k : RestartKind) :
    (x.admitResponse b).output ≠ .restartDue k := by
  show outputAfterAdmission b.builder ≠ _
  rw [outputAfterAdmission_eq]
  split <;> nofun

/-- A queue that a report did not wait for. -/
theorem Commons.not_eventOfferWaits {x : Commons} {p : Port}
    (h : ¬∃ (w : Awaiting) (b : Built), x.events.sender = .awaiting w ∧ w.flight = .offering b ∧ b.port = p) :
    x.eventOfferWaits p = false := by
  rw [Bool.eq_false_iff, Ne, eventOfferWaits_iff]
  exact h

theorem Commons.not_responseOfferWaits {x : Commons} {p : Port}
    (h : ¬∃ b : Built, x.output = .offering b ∧ b.port = p) : x.responseOfferWaits p = false := by
  rw [Bool.eq_false_iff, Ne, responseOfferWaits_iff]
  exact h

theorem Commons.not_eventClaimWaits {x : Commons}
    (h : ¬∃ w : Awaiting, x.events.sender = .awaiting w ∧ w.flight = .claiming) : x.eventClaimWaits = false := by
  rw [Bool.eq_false_iff, Ne, eventClaimWaits_iff]
  exact h

namespace Commons

/-! ### A response that is granted (R131, R153) -/

section
variable {e : Env} {x : Commons} {b : Built}

/-- A granted response joins the tail of its queue, before what the rest of the grants let join. -/
theorem arbiter_joins_response (hclaims : x.output = .claiming b) (hup : e.up b.port = true)
    (hroom : (x.mgmtOut b.port).length < 4) (hcells : b.cells ≤ x.pool.freeReserve) :
    (∃ more, (arbiter e x).mgmtOut b.port = x.mgmtOut b.port ++ b :: more) ∧
      (arbiter e x).output = outputAfterAdmission b.builder ∧
      (x.events.sender = .idle → x.events.punt = .idle →
        arbiter e x = (x.takeReserve b.cells).admitResponse b) := by
  have hgrant := grantResponse_joins hclaims hup hroom hcells
  have hnone : ∀ c, (grantResponse e x).output ≠ .claiming c := by
    rw [hgrant]
    exact (x.takeReserve b.cells).admitResponse_claims b
  obtain ⟨hgrows, houtput⟩ := arbiter_past_response_grows hnone
  rw [hgrant] at hgrows houtput
  obtain ⟨more, hmore⟩ := hgrows b.port
  refine ⟨⟨more, ?_⟩, houtput, fun hidle hpunt => ?_⟩
  · rw [hmore]
    have hjoined : ((x.takeReserve b.cells).admitResponse b).mgmtOut b.port = x.mgmtOut b.port ++ [b] :=
      (x.takeReserve b.cells).pushMgmtOut_mgmtOut b
    rw [hjoined, List.append_assoc]
    rfl
  · have hsender : ((x.takeReserve b.cells).admitResponse b).events = x.events := by simp [admitResponse]
    have hevent : ((x.takeReserve b.cells).admitResponse b).eventClaimWaits = false :=
      not_eventClaimWaits (by rw [hsender, hidle]; rintro ⟨w, hw, -⟩; cases hw)
    rw [arbiter_past_response hnone, hgrant, grantEvent_of_not_claiming hevent, hevent]
    exact grantPunt_of_not_claiming (by rw [hsender, hpunt]; nofun)

end

/-! ### An event report that is granted (R131, R172) -/

section
variable {v : State} {x : Commons}

/-- Where no response claim waits the arbiter begins with the event report. -/
theorem arbiter_of_not_claiming (e : Env) (h : ∀ b, x.output ≠ .claiming b) :
    arbiter e x = if (grantEvent e x).eventClaimWaits then grantEvent e x else grantPunt e (grantEvent e x) := by
  have hsame := grantResponse_of_not_claiming (e := e) h
  rw [arbiter_past_response (by rwa [hsame]), hsame]

/-- The punt side is granted nothing, or offers the report of the head entry. -/
theorem grantPunt_cases (v : State) (x : Commons) : grantPunt v.env x = x ∨
    ∃ (l : Listener) (id : Nat) (rest : List Nat) (f : RxFrame), x.events.punt = .claiming ∧
      x.events.listener = some l ∧ x.events.puntQueue = id :: rest ∧ x.frame? id = some f ∧
      grantPunt v.env x = offerPunt v.env (puntReport l v.endpoint.nodeAddress f)
        (puntTaken v x id rest (puntReport l v.endpoint.nodeAddress f)) := by
  by_cases hclaims : x.events.punt = .claiming
  · cases hlistener : x.events.listener with
    | none => exact .inl (by simp only [grantPunt, hclaims, hlistener])
    | some l =>
      cases hqueue : x.events.puntQueue with
      | nil => exact .inl (by simp only [grantPunt, hclaims, hlistener, hqueue])
      | cons id rest =>
        cases hf : x.frame? id with
        | none => exact .inl (by simp only [grantPunt, hclaims, hlistener, hqueue, hf])
        | some f =>
          have hgrant := grantPunt_claiming (v := v) hclaims hlistener hqueue hf
          by_cases hcells : (puntReport l v.endpoint.nodeAddress f).cells ≤ x.pool.freeReserve
          · exact .inr ⟨l, id, rest, f, hclaims, rfl, rfl, hf, by rw [hgrant, if_pos hcells]⟩
          · exact .inl (by rw [hgrant, if_neg hcells])
  · exact .inl (grantPunt_of_not_claiming hclaims)

/-- A grant to the punt side leaves a sender that is not IDLE as it is. -/
theorem grantPunt_sender (h : x.events.sender ≠ .idle) :
    (grantPunt v.env x).events.sender = x.events.sender := by
  rcases grantPunt_cases v x with hsame | ⟨l, id, rest, f, -, -, -, hf, hgrant⟩
  · rw [hsame]
  · obtain ⟨-, -, hsender, -⟩ := puntTaken_effects (rest := rest) hf (puntReport l v.endpoint.nodeAddress f)
      (.inr (.inl h))
    rw [hgrant]
    simpa using hsender

/-- A punt report joins no queue for whose room a frame of higher rank waits. -/
theorem grantPunt_waits {l : Listener} (hlistener : x.events.listener = some l) (hup : (v.port l.port).oper = .up)
    (hbusy : x.events.sender ≠ .idle) (hfull : x.eventOfferWaits l.port = true) :
    (grantPunt v.env x).mgmtOut l.port = x.mgmtOut l.port := by
  rcases grantPunt_cases v x with hsame | ⟨m, id, rest, f, -, hm, -, hf, hgrant⟩
  · rw [hsame]
  · obtain rfl : l = m := Option.some.inj (hlistener.symm.trans hm)
    obtain ⟨hout, -, hsender, -⟩ := puntTaken_effects (v := v) (rest := rest) hf
      (puntReport l v.endpoint.nodeAddress f) (.inr (.inl hbusy))
    have hwaits : (puntTaken v x id rest (puntReport l v.endpoint.nodeAddress f)).eventOfferWaits l.port = true := by
      rw [← hfull, eventOfferWaits, hsender]
      rfl
    have hport : (puntReport l v.endpoint.nodeAddress f).port = l.port := rfl
    rw [hgrant, offerPunt_offers (hport ▸ hup) (.inr (.inr hwaits)), ← hout l.port]
    cases l.port <;> rfl

theorem grantEvent_short {w : Awaiting} {l : Listener} {r : EventRecord} {rest : List EventRecord}
    (hsender : x.events.sender = .awaiting w) (hclaims : w.flight = .claiming)
    (hlistener : x.events.listener = some l) (hqueue : x.events.queue = r :: rest)
    (hnone : x.pool.freeReserve = 0) : grantEvent v.env x = x := by
  rw [grantEvent_claiming v x w l r rest hsender hclaims hlistener hqueue, if_neg (by omega)]

/-- An event report that has joined its queue claims nothing, and it is not waited for. -/
theorem admitEvent_waits (x : Commons) (w : Awaiting) (b : Built) (q : Port) :
    (x.admitEvent w b).eventClaimWaits = false ∧ (x.admitEvent w b).eventOfferWaits q = false := ⟨rfl, rfl⟩

/-- The event report joins the tail of its queue, before what the punt side lets join. -/
theorem arbiter_joins_event {w : Awaiting} {l : Listener} {r : EventRecord} {rest : List EventRecord}
    (hnone : ∀ b, x.output ≠ .claiming b)
    (hsender : x.events.sender = .awaiting w) (hclaims : w.flight = .claiming)
    (hlistener : x.events.listener = some l) (hqueue : x.events.queue = r :: rest) (hup : (v.port l.port).oper = .up)
    (hcell : 1 ≤ x.pool.freeReserve) (hroom : (x.mgmtOut l.port).length < 4)
    (hfirst : x.responseOfferWaits l.port = false) :
    let report := eventReport l v.endpoint.nodeAddress r w.captured
    let y := arbiter v.env x
    (∃ more, y.mgmtOut l.port = x.mgmtOut l.port ++ report :: more) ∧
      y.events.sender = .awaiting { w with timer := true, flight := .queued } ∧
      (x.events.punt ≠ .claiming → y = (x.takeReserve 1).admitEvent w report) ∧ y.output = x.output := by
  intro report y
  have hgrant := grantEvent_joins hsender hclaims hlistener hqueue hup hcell hroom hfirst
  have hy : y = grantPunt v.env ((x.takeReserve 1).admitEvent w report) := by
    show arbiter v.env x = _
    rw [arbiter_of_not_claiming _ hnone, hgrant]
    rfl
  obtain ⟨more, hmore⟩ := grantPunt_grows v.env ((x.takeReserve 1).admitEvent w report) l.port
  have hjoined : ((x.takeReserve 1).admitEvent w report).mgmtOut l.port = x.mgmtOut l.port ++ [report] := by
    have hpushed := (x.takeReserve 1).pushMgmtOut_mgmtOut report
    have hport : report.port = l.port := rfl
    rw [hport] at hpushed
    cases hp : l.port <;> rw [hp] at hpushed <;> exact hpushed
  refine ⟨⟨more, ?_⟩, ?_, fun hpunt => ?_, ?_⟩
  · rw [hy, hmore, hjoined, List.append_assoc]
    rfl
  · rw [hy, grantPunt_sender (by simp [admitEvent])]
    rfl
  · rw [hy]
    refine grantPunt_of_not_claiming ?_
    simpa [admitEvent] using hpunt
  · rw [hy]
    simp

/-- It waits for room, and the punt side lets nothing join before it. -/
theorem arbiter_offers_event {w : Awaiting} {l : Listener} {r : EventRecord} {rest : List EventRecord}
    (hnone : ∀ b, x.output ≠ .claiming b)
    (hsender : x.events.sender = .awaiting w) (hclaims : w.flight = .claiming)
    (hlistener : x.events.listener = some l) (hqueue : x.events.queue = r :: rest) (hup : (v.port l.port).oper = .up)
    (hcell : 1 ≤ x.pool.freeReserve)
    (hfull : 4 ≤ (x.mgmtOut l.port).length ∨ x.responseOfferWaits l.port = true) :
    let report := eventReport l v.endpoint.nodeAddress r w.captured
    let y := arbiter v.env x
    y.mgmtOut l.port = x.mgmtOut l.port ∧
      y.events.sender = .awaiting { w with flight := .offering report } ∧ y.output = x.output := by
  intro report y
  have hgrant := grantEvent_offers hsender hclaims hlistener hqueue hup hcell hfull
  have hy : y = grantPunt v.env
      ((x.takeReserve 1).setSender (.awaiting { w with flight := .offering report })) := by
    show arbiter v.env x = _
    rw [arbiter_of_not_claiming _ hnone, hgrant]
    rfl
  have hbusy : ((x.takeReserve 1).setSender (.awaiting { w with flight := .offering report })).events.sender ≠
      .idle := nofun
  have hwaits : ((x.takeReserve 1).setSender
      (.awaiting { w with flight := .offering report })).eventOfferWaits l.port = true :=
    decide_eq_true rfl
  refine ⟨?_, ?_, ?_⟩
  · rw [hy, grantPunt_waits (by simpa using hlistener) hup hbusy hwaits]
    cases l.port <;> rfl
  · rw [hy, grantPunt_sender hbusy]
    rfl
  · rw [hy]
    simp

end

/-! ### A punt report that is granted (R131, R179) -/

section
variable {v : State} {x : Commons} {l : Listener} {id : Nat} {rest : List Nat} {f : RxFrame}
  (hnone : ∀ b, x.output ≠ .claiming b) (hevent : x.eventClaimWaits = false)
  (hclaims : x.events.punt = .claiming) (hlistener : x.events.listener = some l)
  (hqueue : x.events.puntQueue = id :: rest) (hf : x.frame? id = some f)

include hnone hevent hclaims hlistener hqueue hf

theorem arbiter_grants_punt :
    let b := puntReport l v.endpoint.nodeAddress f
    arbiter v.env x = if b.cells ≤ x.pool.freeReserve then offerPunt v.env b (puntTaken v x id rest b) else x := by
  rw [arbiter_of_not_claiming _ hnone, grantEvent_of_not_claiming hevent, hevent]
  exact grantPunt_claiming hclaims hlistener hqueue hf

/-- The head entry leaves the punt queue, and its report joins its queue or waits for room. -/
theorem arbiter_punt_effects (hup : (v.port l.port).oper = .up)
    (hcells : (puntReport l v.endpoint.nodeAddress f).cells ≤ x.pool.freeReserve)
    (hquiet : 2 ≤ f.holders ∨ x.events.sender ≠ .idle ∨
      ((x.pool.low = true → x.pool.freeGeneral + f.cells ≤ x.pool.highMark) ∧
        (x.pool.low = false → x.pool.lowMark ≤ x.pool.freeGeneral + f.cells))) :
    let b := puntReport l v.endpoint.nodeAddress f
    let y := arbiter v.env x
    y.events.puntQueue = rest ∧ y.frames = (dropHolder id x.frames).1 ∧
      y.pool.freeReserve + b.cells = x.pool.freeReserve ∧ y.events.sender = x.events.sender ∧
      y.output = x.output ∧
      ((x.mgmtOut l.port).length < 4 → x.responseOfferWaits l.port = false → x.eventOfferWaits l.port = false →
        y.mgmtOut l.port = x.mgmtOut l.port ++ [b] ∧ y.events.punt = .idle) ∧
      (4 ≤ (x.mgmtOut l.port).length ∨ x.responseOfferWaits l.port = true ∨ x.eventOfferWaits l.port = true →
        y.mgmtOut l.port = x.mgmtOut l.port ∧ y.events.punt = .offering b) := by
  intro b y
  have hy : y = offerPunt v.env b (puntTaken v x id rest b) :=
    (arbiter_grants_punt (v := v) hnone hevent hclaims hlistener hqueue hf).trans (if_pos hcells)
  obtain ⟨hout, hfree, hsender, houtput, hpunts, hframes⟩ :=
    puntTaken_effects (v := v) (rest := rest) hf b hquiet
  have hresponse : (puntTaken v x id rest b).responseOfferWaits l.port = x.responseOfferWaits l.port := by
    rw [responseOfferWaits, houtput]
    rfl
  have hreport : (puntTaken v x id rest b).eventOfferWaits l.port = x.eventOfferWaits l.port := by
    rw [eventOfferWaits, hsender]
    rfl
  have hport : (v.port b.port).oper = .up := hup
  obtain ⟨-, -, -, -, hframes', -, houtput', -, -, -, -, -, hsender', hpunts'⟩ :=
    offerPunt_frame v.env b (puntTaken v x id rest b)
  refine ⟨?_, ?_, ?_, ?_, ?_, fun hroom hfirst hsecond => ?_, fun hfull => ?_⟩
  · rw [hy, hpunts', hpunts]
  · rw [hy, hframes', hframes]
  · have hkept : y.pool.freeReserve = (puntTaken v x id rest b).pool.freeReserve := by
      rw [hy]
      by_cases hjoins : ((puntTaken v x id rest b).mgmtOut b.port).length < 4 ∧
          (puntTaken v x id rest b).responseOfferWaits b.port = false ∧
          (puntTaken v x id rest b).eventOfferWaits b.port = false
      · obtain ⟨hroom, hfirst, hsecond⟩ := hjoins
        rw [offerPunt_joins hport hroom hfirst hsecond, (admitPunt_frame _ b).1]
      · rw [offerPunt_offers hport (by
          simp only [not_and_or, Nat.not_lt, Bool.not_eq_false] at hjoins
          exact hjoins), setPunt_pool]
    rw [hkept, hfree]
    exact Nat.sub_add_cancel hcells
  · rw [hy, hsender', hsender]
  · rw [hy, houtput', houtput]
  · rw [hy, offerPunt_joins hport ((hout l.port).symm ▸ hroom) (hresponse.trans hfirst) (hreport.trans hsecond)]
    refine ⟨?_, rfl⟩
    have hpushed := (puntTaken v x id rest b).pushMgmtOut_mgmtOut b
    rw [show b.port = l.port from rfl, hout] at hpushed
    cases hp : l.port <;> rw [hp] at hpushed <;> exact hpushed
  · rw [hy, offerPunt_offers hport (by
      rw [show b.port = l.port from rfl, hout, hresponse, hreport]
      exact hfull)]
    refine ⟨?_, rfl⟩
    rw [← hout l.port]
    cases l.port <;> rfl

end

/-! ### Offers that are admitted (R140) -/

section
variable {v : State} {x : Commons} {p : Port}

theorem admitResponse_mgmtOut (x : Commons) (b : Built) (hp : b.port = p) :
    (x.admitResponse b).mgmtOut p = x.mgmtOut p ++ [b] := by
  subst hp
  exact x.pushMgmtOut_mgmtOut b

theorem admitEvent_mgmtOut (x : Commons) (w : Awaiting) (b : Built) (hp : b.port = p) :
    (x.admitEvent w b).mgmtOut p = x.mgmtOut p ++ [b] := by
  subst hp
  have hpushed := x.pushMgmtOut_mgmtOut b
  cases hb : b.port <;> rw [hb] at hpushed <;> exact hpushed

theorem admitPunt_mgmtOut (x : Commons) (b : Built) (hp : b.port = p) :
    (x.admitPunt b).mgmtOut p = x.mgmtOut p ++ [b] := by
  subst hp
  have hpushed := x.pushMgmtOut_mgmtOut b
  cases hb : b.port <;> rw [hb] at hpushed <;> exact hpushed

theorem admitOffers_joins_response {b : Built} (h : x.output = .offering b) (hp : b.port = p)
    (hup : (v.port p).oper = .up) (hroom : (x.mgmtOut p).length < 4) :
    (∃ more, (admitOffers v.env p x).mgmtOut p = x.mgmtOut p ++ b :: more) ∧
      (admitOffers v.env p x).output = outputAfterAdmission b.builder := by
  rw [admitOffers, admitWaitingResponse_joins h hp hup hroom]
  obtain ⟨more, hmore⟩ := ((admitWaitingEvent_grows v.env p (x.admitResponse b)).trans
    (admitWaitingPunt_grows v.env p _)) p
  refine ⟨⟨more, ?_⟩, by simp [admitResponse]⟩
  rw [hmore, admitResponse_mgmtOut x b hp, List.append_assoc]
  rfl

theorem admitOffers_joins_event {w : Awaiting} {b : Built} (hfirst : x.responseOfferWaits p = false)
    (hsender : x.events.sender = .awaiting w) (hoffers : w.flight = .offering b) (hp : b.port = p)
    (hup : (v.port p).oper = .up) (hroom : (x.mgmtOut p).length < 4) :
    (∃ more, (admitOffers v.env p x).mgmtOut p = x.mgmtOut p ++ b :: more ∧
        (x.events.punt = .idle → more = [])) ∧
      (admitOffers v.env p x).events.sender = .awaiting { w with timer := true, flight := .queued } ∧
      (admitOffers v.env p x).output = x.output := by
  have hjoined := admitEvent_mgmtOut x w b hp
  rw [admitOffers, admitWaitingResponse_stays (.inl hfirst),
    admitWaitingEvent_joins hsender hoffers hp hup hroom hfirst]
  refine ⟨?_, by simp [admitEvent], by simp [admitEvent]⟩
  by_cases hidle : x.events.punt = .idle
  · refine ⟨[], ?_, fun _ => rfl⟩
    rw [admitWaitingPunt_stays (.inl (by simpa [admitEvent] using hidle)), hjoined]
  · obtain ⟨more, hmore⟩ := admitWaitingPunt_grows v.env p (x.admitEvent w b) p
    refine ⟨more, ?_, fun h => absurd h hidle⟩
    rw [hmore, hjoined, List.append_assoc]
    rfl

theorem admitOffers_joins_punt {b : Built} (hfirst : x.responseOfferWaits p = false)
    (hsecond : x.eventOfferWaits p = false) (h : x.events.punt = .offering b) (hp : b.port = p)
    (hup : (v.port p).oper = .up) (hroom : (x.mgmtOut p).length < 4) :
    admitOffers v.env p x = x.admitPunt b := by
  rw [admitOffers, admitWaitingResponse_stays (.inl hfirst), admitWaitingEvent_stays (.inl hsecond),
    admitWaitingPunt_joins h hp hup hroom hfirst hsecond]

theorem admitOffers_stays (h : (v.port p).oper ≠ .up ∨ 4 ≤ (x.mgmtOut p).length) :
    admitOffers v.env p x = x := by
  rw [admitOffers, admitWaitingResponse_stays (.inr h), admitWaitingEvent_stays (.inr h),
    admitWaitingPunt_stays (.inr h)]

/-- Three frames that wait for one queue join it in their rank order as long as it has room. -/
theorem admitOffers_joins_three {b report punted : Built} {w : Awaiting} (h : x.output = .offering b)
    (hsender : x.events.sender = .awaiting w) (hoffers : w.flight = .offering report)
    (hpunt : x.events.punt = .offering punted) (hb : b.port = p) (hreport : report.port = p)
    (hpunted : punted.port = p) (hup : (v.port p).oper = .up) :
    (admitOffers v.env p x).mgmtOut p =
      x.mgmtOut p ++ [b, report, punted].take (4 - (x.mgmtOut p).length) := by
  by_cases hfull : 4 ≤ (x.mgmtOut p).length
  · rw [admitOffers_stays (.inr hfull), Nat.sub_eq_zero_of_le hfull, List.take_zero, List.append_nil]
  · have hjoined := admitResponse_mgmtOut x b hb
    have hsender' : (x.admitResponse b).events.sender = .awaiting w := by simpa [admitResponse] using hsender
    have hpunt' : (x.admitResponse b).events.punt = .offering punted := by simpa [admitResponse] using hpunt
    rw [admitOffers, admitWaitingResponse_joins h hb hup (by omega)]
    by_cases hthree : 3 ≤ (x.mgmtOut p).length
    · have hfull' : 4 ≤ ((x.admitResponse b).mgmtOut p).length := by
        rw [hjoined, List.length_append]
        exact Nat.succ_le_succ hthree
      rw [admitWaitingEvent_stays (.inr (.inr hfull')), admitWaitingPunt_stays (.inr (.inr hfull')), hjoined,
        show 4 - (x.mgmtOut p).length = 1 by omega]
      rfl
    · have hroom : ((x.admitResponse b).mgmtOut p).length < 4 := by
        rw [hjoined, List.length_append, List.length_singleton]
        omega
      have hjoined' := admitEvent_mgmtOut (x.admitResponse b) w report hreport
      rw [hjoined] at hjoined'
      rw [admitWaitingEvent_joins hsender' hoffers hreport hup hroom (admitResponse_offers x b p)]
      by_cases htwo : 2 ≤ (x.mgmtOut p).length
      · have hfull' : 4 ≤ (((x.admitResponse b).admitEvent w report).mgmtOut p).length := by
          rw [hjoined', List.length_append, List.length_append]
          exact Nat.add_le_add_right htwo 2
        rw [admitWaitingPunt_stays (.inr (.inr hfull')), hjoined', show 4 - (x.mgmtOut p).length = 2 by omega,
          List.append_assoc]
        rfl
      · have hroom' : (((x.admitResponse b).admitEvent w report).mgmtOut p).length < 4 := by
          rw [hjoined', List.length_append, List.length_append, List.length_singleton, List.length_singleton]
          omega
        have hfirst' : ((x.admitResponse b).admitEvent w report).responseOfferWaits p = false := by
          rw [responseOfferWaits, show ((x.admitResponse b).admitEvent w report).output = (x.admitResponse b).output by
            simp [admitEvent]]
          exact admitResponse_offers x b p
        rw [admitWaitingPunt_joins (by simpa [admitEvent] using hpunt') hpunted hup hroom' hfirst'
          (admitEvent_waits _ w report p).2, admitPunt_mgmtOut _ punted hpunted, hjoined',
          List.take_of_length_le (show [b, report, punted].length ≤ 4 - (x.mgmtOut p).length by
            simp only [List.length_cons, List.length_nil]
            omega), List.append_assoc, List.append_assoc]
        rfl

end

end Commons

end Sys2Proof.Machine
end

section
/-! PROOF. All three builders claim at once, and every clause of the grants and admissions (R131, R140). -/

set_option Elab.async false

namespace Sys2Proof.Machine

open Sys2Proof.Safety

namespace Commons

/-- A response that is granted leaves the arbiter to the claims of lower rank. -/
theorem arbiter_after_response {e : Env} {x : Commons} (h : ∀ b, (grantResponse e x).output ≠ .claiming b) :
    arbiter e x = arbiter e (grantResponse e x) := by
  rw [arbiter_past_response h, arbiter_of_not_claiming e h]

section
variable {v : State} {x : Commons} {b : Built} {w : Awaiting} {l : Listener} {r : EventRecord}
  {records : List EventRecord} {id : Nat} {rest : List Nat} {f : RxFrame}

/-- The frames that the arbiter lets join from the claims of the sender and of the punt side, with `n` cells free. -/
def lowerGrants (report punted : Built) (n : Nat) : List Built :=
  if n < 1 then [] else if n < 1 + punted.cells then [report] else [report, punted]

/-- Behind the response the event report joins where a cell is free, and behind it the punt report where its cells
are. -/
theorem arbiter_joins_lower (hnone : ∀ b, x.output ≠ .claiming b) (hfirst : x.responseOfferWaits l.port = false)
    (hsender : x.events.sender = .awaiting w) (hclaims : w.flight = .claiming)
    (hpunt : x.events.punt = .claiming) (hlistener : x.events.listener = some l)
    (hqueue : x.events.queue = r :: records) (hpunts : x.events.puntQueue = id :: rest)
    (hf : x.frame? id = some f) (hmore : 2 ≤ f.holders) (hup : (v.port l.port).oper = .up)
    (hroom : (x.mgmtOut l.port).length ≤ 2) :
    (arbiter v.env x).mgmtOut l.port = x.mgmtOut l.port ++
      lowerGrants (eventReport l v.endpoint.nodeAddress r w.captured) (puntReport l v.endpoint.nodeAddress f)
        x.pool.freeReserve := by
  let report := eventReport l v.endpoint.nodeAddress r w.captured
  let punted := puntReport l v.endpoint.nodeAddress f
  by_cases hcell : x.pool.freeReserve < 1
  · have hshort := grantEvent_short (v := v) hsender hclaims hlistener hqueue (by omega)
    rw [arbiter_of_not_claiming _ hnone, hshort, if_pos ((eventClaimWaits_iff x).mpr ⟨w, hsender, hclaims⟩),
      lowerGrants, if_pos hcell, List.append_nil]
  · have hgrant := grantEvent_joins hsender hclaims hlistener hqueue hup (Nat.not_lt.mp hcell) (by omega) hfirst
    obtain ⟨y, hy⟩ : ∃ y, y = (x.takeReserve 1).admitEvent w report := ⟨_, rfl⟩
    have harbiter : arbiter v.env x = grantPunt v.env y := by
      rw [arbiter_of_not_claiming _ hnone, hgrant, hy]
      rfl
    have hout : y.mgmtOut l.port = x.mgmtOut l.port ++ [report] := by
      rw [hy, admitEvent_mgmtOut (p := l.port) _ w report rfl]
      cases l.port <;> rfl
    have hfree : y.pool.freeReserve = x.pool.freeReserve - 1 := by rw [hy, (admitEvent_frame _ w report).1]; rfl
    have hpunty : grantPunt v.env y = if punted.cells ≤ y.pool.freeReserve then
        offerPunt v.env punted (puntTaken v y id rest punted) else y := by
      refine grantPunt_claiming ?_ ?_ ?_ ?_
      · rw [hy]; simpa [admitEvent] using hpunt
      · rw [hy]; simpa [admitEvent] using hlistener
      · rw [hy]; simpa [admitEvent] using hpunts
      · rw [hy, frame?, (admitEvent_frame _ w report).2.1]; exact hf
    rw [harbiter, hpunty, lowerGrants, if_neg hcell]
    by_cases hcells : punted.cells ≤ y.pool.freeReserve
    · have hfy : y.frame? id = some f := by rw [hy, frame?, (admitEvent_frame _ w report).2.1]; exact hf
      obtain ⟨hsame, -, hsendery, houtput, -⟩ := puntTaken_effects (v := v) (rest := rest) hfy punted (.inl hmore)
      have hresponse : (puntTaken v y id rest punted).responseOfferWaits l.port = false := by
        have hstays : y.output = x.output := by rw [hy]; simp [admitEvent]
        rw [responseOfferWaits, houtput, hstays]
        exact hfirst
      have hevent : (puntTaken v y id rest punted).eventOfferWaits l.port = false := by
        rw [eventOfferWaits, hsendery, hy]
        rfl
      have hroomy : ((puntTaken v y id rest punted).mgmtOut l.port).length < 4 := by
        rw [hsame, hout, List.length_append, List.length_singleton]
        omega
      rw [if_pos hcells, offerPunt_joins (b := punted) hup hroomy hresponse hevent,
        admitPunt_mgmtOut (p := l.port) _ punted rfl, hsame, hout, if_neg (show ¬x.pool.freeReserve < 1 + punted.cells by omega),
        List.append_assoc]
      rfl
    · rw [if_neg hcells, hout, if_pos (show x.pool.freeReserve < 1 + punted.cells by omega)]

/-- All three builders claim: they join in their rank order as far as the free cells go. -/
theorem arbiter_joins_three (houtput : x.output = .claiming b) (hport : b.port = l.port)
    (hsender : x.events.sender = .awaiting w) (hclaims : w.flight = .claiming)
    (hpunt : x.events.punt = .claiming) (hlistener : x.events.listener = some l)
    (hqueue : x.events.queue = r :: records) (hpunts : x.events.puntQueue = id :: rest)
    (hf : x.frame? id = some f) (hmore : 2 ≤ f.holders) (hup : (v.port l.port).oper = .up)
    (hroom : (x.mgmtOut l.port).length ≤ 1) (hcells : b.cells ≤ x.pool.freeReserve) :
    (arbiter v.env x).mgmtOut l.port = x.mgmtOut l.port ++ b ::
        lowerGrants (eventReport l v.endpoint.nodeAddress r w.captured) (puntReport l v.endpoint.nodeAddress f)
          (x.pool.freeReserve - b.cells) ∧
      ∀ k, (arbiter v.env x).output ≠ .restartDue k := by
  have hgrant : grantResponse v.env x = (x.takeReserve b.cells).admitResponse b :=
    grantResponse_joins houtput (by rw [env_up, hport, hup]; rfl) (by rw [hport]; omega) hcells
  have hnone : ∀ c, (grantResponse v.env x).output ≠ .claiming c := by
    rw [hgrant]
    exact (x.takeReserve b.cells).admitResponse_claims b
  obtain ⟨-, hstays⟩ := arbiter_past_response_grows hnone
  refine ⟨?_, fun k => ?_⟩
  · have hevents : ((x.takeReserve b.cells).admitResponse b).events = x.events := by simp [admitResponse]
    have hframes : ((x.takeReserve b.cells).admitResponse b).frame? id = x.frame? id := by
      rw [frame?, (admitResponse_frame _ b).2.1]
      rfl
    have hout : ((x.takeReserve b.cells).admitResponse b).mgmtOut l.port = x.mgmtOut l.port ++ [b] := by
      rw [admitResponse_mgmtOut _ b hport]
      cases l.port <;> rfl
    have hfree : ((x.takeReserve b.cells).admitResponse b).pool.freeReserve = x.pool.freeReserve - b.cells := by
      rw [(admitResponse_frame _ b).1]
      rfl
    rw [hgrant] at hnone
    rw [arbiter_after_response (by rwa [hgrant]), hgrant, arbiter_joins_lower hnone (admitResponse_offers _ b l.port)
      (by rw [hevents, hsender]) hclaims (by rw [hevents, hpunt]) (by rw [hevents, hlistener])
      (by rw [hevents, hqueue]) (by rw [hevents, hpunts]) (hframes.trans hf) hmore hup
      (by rw [hout, List.length_append, List.length_singleton]; omega), hout, hfree, List.append_assoc]
    rfl
  · rw [hstays, hgrant]
    exact admitResponse_not_due _ b k

end

end Commons

end Sys2Proof.Machine

namespace Sys2Proof.Settled

open Sys2Proof.Machine Sys2Proof.Safety

/-- Settles O51: the grants of the reserve arbiter and the admissions of a queue, each builder by what waits before
it. -/
theorem waitingResponsesJoin : Obligations.WaitingResponsesJoin := by
  unfold Obligations.WaitingResponsesJoin
  intro claims offers responds
  refine ⟨?_, ?_, ?_, ?_, ?_, ?_, ?_, ?_, ?_, ?_⟩
  · intro s b hclaims hshort
    have hgrant := Commons.grantResponse_short (e := s.env) hclaims hshort
    refine execReserveGrant_stays (fun k => by rw [hclaims]; nofun) ?_
    rw [Commons.arbiter_eq, hgrant, if_pos ((Commons.responseClaimWaits_iff _).mpr ⟨b, hclaims⟩)]
  · intro s b hclaims hup hroom hcells
    obtain ⟨⟨more, hmore⟩, houtput, hquiet⟩ :=
      Commons.arbiter_joins_response (e := s.env) hclaims (by rw [Commons.env_up, hup]; rfl) hroom hcells
    have hdue : ∀ k, (Commons.arbiter s.env s.commons).output ≠ .restartDue k := fun k => by
      rw [houtput, outputAfterAdmission_eq]
      split <;> nofun
    refine ⟨_, more, execReserveGrant_eq hdue, hmore, houtput.trans (outputAfterAdmission_eq _), fun hidle hpunt => ?_,
      rfl⟩
    have hfinal := hquiet hidle hpunt
    refine ⟨?_, ?_⟩
    · rw [hfinal, Commons.admitResponse_mgmtOut _ b rfl] at hmore
      have hsame : (s.commons.takeReserve b.cells).mgmtOut b.port = s.commons.mgmtOut b.port := by
        cases b.port <;> rfl
      rw [hsame] at hmore
      exact (List.cons.inj (List.append_cancel_left hmore)).2.symm
    · rw [State.onCommons_commons, hfinal, (Commons.admitResponse_frame _ b).1]
      rfl
  · intro s w l r rest hrestart hnone hsender hclaims hlistener hqueue hup report
    have hdue := not_due_of_noRestartDue hrestart
    refine ⟨fun hzero => ?_, fun hcell hroom hfirst => ?_, fun hcell hfull => ?_⟩
    · have hshort := Commons.grantEvent_short (v := s) hsender hclaims hlistener hqueue hzero
      refine execReserveGrant_stays hdue ?_
      rw [Commons.arbiter_of_not_claiming _ hnone, hshort,
        if_pos ((Commons.eventClaimWaits_iff _).mpr ⟨w, hsender, hclaims⟩)]
    · obtain ⟨⟨more, hmore⟩, hafter, hpunt, houtput⟩ := Commons.arbiter_joins_event (v := s) hnone hsender hclaims
        hlistener hqueue hup hcell hroom (Commons.not_responseOfferWaits hfirst)
      refine ⟨_, more, execReserveGrant_eq fun k => by rw [houtput]; exact hdue k, hmore, hafter, fun hquiet => ?_,
        houtput, rfl⟩
      have hfinal := hpunt hquiet
      obtain ⟨hpool, hframes, -⟩ := Commons.admitEvent_frame (s.commons.takeReserve 1) w report
      rw [State.onCommons_commons, hfinal, hpool, hframes]
      refine ⟨?_, Nat.sub_add_cancel hcell, rfl, rfl⟩
      rw [hfinal, Commons.admitEvent_mgmtOut (p := l.port) _ w report rfl] at hmore
      have hsame : (s.commons.takeReserve 1).mgmtOut l.port = s.commons.mgmtOut l.port := by cases l.port <;> rfl
      rw [hsame] at hmore
      exact (List.cons.inj (List.append_cancel_left hmore)).2.symm
    · obtain ⟨hout, hafter, houtput⟩ := Commons.arbiter_offers_event (v := s) hnone hsender hclaims hlistener hqueue
        hup hcell (hfull.imp_right (Commons.responseOfferWaits_iff _ _).mpr)
      exact ⟨_, execReserveGrant_eq fun k => by rw [houtput]; exact hdue k, hout, hafter, rfl⟩
  · intro s l id rest f hrestart hnone hevent hclaims hlistener hqueue hf hup report
    have hdue := not_due_of_noRestartDue hrestart
    have hnoevent := Commons.not_eventClaimWaits hevent
    refine ⟨fun hshort => ?_, ?_⟩
    · refine execReserveGrant_stays hdue ?_
      exact (Commons.arbiter_grants_punt (v := s) hnone hnoevent hclaims hlistener hqueue hf).trans
        (if_neg (Nat.not_le.mpr hshort))
    · intro left hcells hquiet
      obtain ⟨hpunts, hframes, hfree, hsender, houtput, hjoins, hwaits⟩ :=
        Commons.arbiter_punt_effects (v := s) hnone hnoevent hclaims hlistener hqueue hf hup hcells hquiet
      refine ⟨_, execReserveGrant_eq fun k => by rw [houtput]; exact hdue k, hpunts, hframes, hfree, hsender,
        fun hroom hfirst hsecond => hjoins hroom (Commons.not_responseOfferWaits hfirst)
          (Commons.not_eventOfferWaits hsecond), fun hfull => hwaits ?_, rfl⟩
      exact hfull.imp_right (Or.imp (Commons.responseOfferWaits_iff _ _).mpr (Commons.eventOfferWaits_iff _ _).mpr)
  · intro s b w l r more id rest f houtput hport hsender hclaims hpunt hlistener hqueue hpunts hf hmore hup hroom
      hcells report punted
    obtain ⟨hout, hdue⟩ := Commons.arbiter_joins_three (v := s) houtput hport hsender hclaims hpunt hlistener hqueue
      hpunts hf hmore hup hroom hcells
    refine ⟨_, execReserveGrant_eq hdue, hout.trans (congrArg _ ?_)⟩
    by_cases hone : s.commons.pool.freeReserve < b.cells + 1
    · rw [if_pos hone, Commons.lowerGrants, if_pos (by omega)]
    · rw [if_neg hone, Commons.lowerGrants, if_neg (by omega)]
      by_cases hall : s.commons.pool.freeReserve < b.cells + 1 + punted.cells
      · rw [if_pos hall, if_pos (show s.commons.pool.freeReserve - b.cells < 1 + punted.cells by omega)]
      · rw [if_neg hall, if_neg (show ¬s.commons.pool.freeReserve - b.cells < 1 + punted.cells by omega)]
  · intro s p b h hp hup hroom
    obtain ⟨⟨more, hmore⟩, houtput⟩ := Commons.admitOffers_joins_response (v := s) h hp hup hroom
    exact ⟨_, more, rfl, hmore, houtput.trans (outputAfterAdmission_eq _), (Commons.admitOffers_frame _ _ _).1, rfl⟩
  · intro s p w b hfirst hsender hoffers hp hup hroom
    obtain ⟨⟨more, hmore, hquiet⟩, hafter, houtput⟩ := Commons.admitOffers_joins_event (v := s)
      (Commons.not_responseOfferWaits hfirst) hsender hoffers hp hup hroom
    exact ⟨_, more, rfl, hmore, hquiet, hafter, (Commons.admitOffers_frame _ _ _).1, houtput, rfl⟩
  · intro s p b hfirst hsecond h hp hup hroom
    have hfinal := Commons.admitOffers_joins_punt (v := s) (Commons.not_responseOfferWaits hfirst)
      (Commons.not_eventOfferWaits hsecond) h hp hup hroom
    obtain ⟨hpool, -, -, houtput, -, -, -, -, -, hsender, -⟩ := Commons.admitPunt_frame s.commons b
    refine ⟨_, rfl, ?_, ?_, ?_, ?_, ?_, rfl⟩
    · rw [State.onCommons_commons, hfinal, Commons.admitPunt_mgmtOut _ b hp]
    · rw [State.onCommons_commons, hfinal]
      rfl
    · rw [State.onCommons_commons, hfinal, hpool]
    · rw [State.onCommons_commons, hfinal, hsender]
    · rw [State.onCommons_commons, hfinal, houtput]
  · intro s p b report punted w h hsender hoffers hpunt hb hreport hpunted hup
    exact ⟨_, rfl, Commons.admitOffers_joins_three (v := s) h hsender hoffers hpunt hb hreport hpunted hup⟩
  · intro s p h
    have hsame := Commons.admitOffers_stays (v := s) h
    exact congrArg Host.Outcome.next (by rw [State.onCommons, hsame])

end Sys2Proof.Settled
end

section
/-! PROOF. What the event unit shows of a happening at a port: the events that the pool posts, the listener, and the
head that awaits its acknowledgement (R123, R133, R145, R175). -/

set_option Elab.async false

namespace Sys2Proof.Machine

open Sys2Proof.Safety

/-- What a sender keeps of the head it has sent: its retry count and its captured value (R172). -/
def Sender.head : Sender → Option (Nat × Word16)
  | .awaiting w => some (w.retry, w.captured)
  | .idle => none

namespace Commons

/-- The kinds of the events that wait. -/
def kinds (x : Commons) : List EventKind := x.events.queue.map (·.kind)

theorem kinds_length (x : Commons) : x.kinds.length = x.events.queue.length := List.length_map _

/-- Between `x` and `y`, where the event queue has room, a pool that agrees with its marks goes on doing so: it posts
nothing and keeps its state, or it goes from POOL_LOW to POOL_OK and posts that once (R133). -/
def PoolPosts (x y : Commons) : Prop :=
  x.pool.Agrees → (x.pool.low = true → x.events.queue.length < 16) → y.pool.Agrees ∧
    ((y.kinds = x.kinds ∧ y.pool.low = x.pool.low) ∨
      (x.pool.low = true ∧ y.pool.low = false ∧ ∃ n, y.kinds = x.kinds ++ [.poolOk n]))

/-- The listener as the surroundings `e` show its port: none, or one that is not UP. -/
def ListenerDown (e : Env) (x : Commons) : Prop := ∀ l, x.events.listener = some l → e.up l.port = false

/-- Between `x` and `y` the event unit keeps its listener and, where that is not reached, the head it has sent, and the
pool posts what it has to. -/
structure Calm (e : Env) (x y : Commons) : Prop where
  listener : y.events.listener = x.events.listener
  head : ListenerDown e x → y.events.sender.head = x.events.sender.head
  posts : PoolPosts x y

theorem PoolPosts.of_eq {x y : Commons} (hfree : y.pool.free = x.pool.free) (hlow : y.pool.low = x.pool.low)
    (hlowMark : y.pool.lowMark = x.pool.lowMark) (hhighMark : y.pool.highMark = x.pool.highMark)
    (hqueue : y.events.queue = x.events.queue) : PoolPosts x y := fun hx _ => by
  refine ⟨?_, .inl ⟨by rw [kinds, kinds, hqueue], hlow⟩⟩
  simp only [Pool.Agrees, Pool.freeGeneral, hfree, hlow, hlowMark, hhighMark] at hx ⊢
  exact hx

theorem PoolPosts.trans {x y z : Commons} (f : PoolPosts x y) (g : PoolPosts y z) : PoolPosts x z := fun hx hroom => by
  obtain ⟨hy, ⟨hkinds, hlow⟩ | ⟨hwas, hnow, n, hn⟩⟩ := f hx hroom
  · have hlength : y.events.queue.length = x.events.queue.length := by rw [← kinds_length, hkinds, kinds_length]
    obtain ⟨hz, hposts⟩ := g hy (by rw [hlow, hlength]; exact hroom)
    rw [hkinds, hlow] at hposts
    exact ⟨hz, hposts⟩
  · obtain ⟨hz, ⟨hkinds, hlow⟩ | ⟨hlow, -⟩⟩ := g hy (by rw [hnow]; nofun)
    · exact ⟨hz, .inr ⟨hwas, hlow.trans hnow, n, hkinds.trans hn⟩⟩
    · rw [hnow] at hlow
      cases hlow

namespace Calm

variable {e : Env} {x y z : Commons}

theorem trans (f : Calm e x y) (g : Calm e y z) : Calm e x z where
  listener := g.listener.trans f.listener
  head hx := (g.head fun l hl => hx l (f.listener ▸ hl)).trans (f.head hx)
  posts := f.posts.trans g.posts

/-- What leaves the general cells, the marks, the event queue, the listener and the sender. -/
theorem of_events (hfree : y.pool.free = x.pool.free) (hlow : y.pool.low = x.pool.low)
    (hlowMark : y.pool.lowMark = x.pool.lowMark) (hhighMark : y.pool.highMark = x.pool.highMark)
    (hqueue : y.events.queue = x.events.queue) (hlistener : y.events.listener = x.events.listener)
    (hhead : y.events.sender.head = x.events.sender.head) : Calm e x y :=
  ⟨hlistener, fun _ => hhead, .of_eq hfree hlow hlowMark hhighMark hqueue⟩

theorem refl (e : Env) (x : Commons) : Calm e x x := of_events rfl rfl rfl rfl rfl rfl rfl

end Calm

section
variable (e : Env) (x : Commons)

/-- No send begins where the listener is not reached. -/
theorem trySend_down {x : Commons} (h : ListenerDown e x) : trySend e x = x := by
  unfold trySend
  split
  next l _ hl => simp [h l hl]
  · rfl

/-- An event that finds room joins the queue, and no send begins where the listener is not reached. -/
theorem accept_kinds (k : EventKind) (hroom : x.events.queue.length < 16) :
    (accept e k x).kinds = x.kinds ++ [k] := by
  have hroom' : x.events.queue.length < Config.eventDepth := hroom
  simp only [accept, if_pos hroom', kinds, List.map_append]
  rfl

theorem post_kinds (k : EventKind) (hroom : x.events.queue.length < 16) : (post e k x).kinds = x.kinds ++ [k] := by
  rw [← accept_kinds e x k hroom, post, kinds, kinds]
  simp

theorem post_head (k : EventKind) (h : ListenerDown e x) : (post e k x).events.sender = x.events.sender := by
  have haccepted : ListenerDown e (accept e k x) := fun l hl => h l (by simpa using hl)
  rw [post, trySend_down e haccepted]
  simp

theorem evalPool_posts (hlow : x.pool.low = false → x.pool.lowMark ≤ x.pool.freeGeneral) (hmarks : x.pool.MarksOrdered)
    (hroom : x.pool.low = true → x.events.queue.length < 16) :
    (evalPool e x).pool.Agrees ∧
      (((evalPool e x).kinds = x.kinds ∧ (evalPool e x).pool.low = x.pool.low) ∨
        (x.pool.low = true ∧ (evalPool e x).pool.low = false ∧
          ∃ n, (evalPool e x).kinds = x.kinds ++ [.poolOk n])) := by
  refine ⟨evalPool_agrees e hmarks, ?_⟩
  cases hstate : x.pool.low with
  | false =>
    rw [evalPool_stays e (by rw [hstate]; nofun) hlow]
    exact .inl ⟨rfl, hstate⟩
  | true =>
    by_cases hover : x.pool.highMark < x.pool.freeGeneral
    · have hposted := post_kinds e { x with pool := { x.pool with low := false } } (.poolOk x.pool.freeGeneral)
        (hroom hstate)
      refine .inr ⟨rfl, ?_, x.pool.freeGeneral, ?_⟩
      · rw [evalPool_low_eq, hstate, if_pos rfl]
        simpa using hover
      · rw [evalPool, if_pos hstate, if_pos hover]
        exact hposted
    · rw [evalPool_stays e (fun _ => Nat.not_lt.mp hover) hlow]
      exact .inl ⟨rfl, hstate⟩

theorem evalPool_head (h : ListenerDown e x) : (evalPool e x).events.sender = x.events.sender := by
  unfold evalPool
  split
  · split
    · exact post_head e _ _ h
    · rfl
  · split
    · exact post_head e _ _ h
    · rfl

theorem giveGeneral_calm (cells : List GeneralCell) : Calm e x (giveGeneral e cells x) where
  listener := by simp
  head h := congrArg Sender.head (evalPool_head e _ h)
  posts hx hroom := by
    obtain ⟨hmarks, hhigh, hlow⟩ := hx
    refine evalPool_posts e _ (fun hok => ?_) ⟨hmarks, hhigh⟩ hroom
    have hbefore : x.pool.lowMark ≤ x.pool.freeGeneral := by
      have hok' : x.pool.low = false := hok
      rwa [hok', if_neg Bool.false_ne_true] at hlow
    refine hbefore.trans ?_
    simp only [Pool.freeGeneral, List.length_append]
    omega

theorem release_calm (id : Nat) : Calm e x (release e id x) := by
  unfold release
  split
  · exact .of_events rfl rfl rfl rfl rfl rfl rfl
  · refine Calm.trans ?_ (giveGeneral_calm e _ _)
    exact .of_events rfl rfl rfl rfl rfl rfl rfl

theorem settleBuilt_calm (fate : Fate) (b : Built) :
    Calm e x ((x.reportFate fate b).giveReserve b.cells) := by
  have hevents : (x.reportFate fate b).events = x.events := by simp
  exact .of_events (by simp) (by simp) (by simp) (by simp) (congrArg EventUnit.queue hevents)
    (congrArg EventUnit.listener hevents) (congrArg (fun u => u.sender.head) hevents)

theorem setMgmtOut_calm (p : Port) (q : List Built) : Calm e x (x.setMgmtOut p q) := by
  refine .of_events ?_ ?_ ?_ ?_ ?_ ?_ ?_ <;> simp

/-! ### Builders that are withdrawn, refused and granted (R131, R140, R153, R175) -/

theorem withdrawEvent_head : x.withdrawEvent.events.sender.head = x.events.sender.head := by
  unfold withdrawEvent
  split
  next w hw =>
    split
    · rw [hw]; rfl
    · rw [hw]; rfl
    · rfl
  · rfl

theorem withdrawEvent_calm : Calm e x x.withdrawEvent := by
  refine .of_events ?_ ?_ ?_ ?_ ?_ ?_ (withdrawEvent_head x) <;> simp

theorem withdrawPunt_calm : Calm e x x.withdrawPunt := by
  refine .of_events ?_ ?_ ?_ ?_ ?_ ?_ ?_ <;> simp

theorem loseResponse_calm (b : Built) : Calm e x (x.loseResponse b) := .of_events rfl rfl rfl rfl rfl rfl rfl

theorem withdrawClaimsFor_calm (p : Port) : Calm e x (withdrawClaimsFor p x) := by
  have hresponse : Calm e x (withdrawResponseClaim p x) := by
    unfold withdrawResponseClaim
    split
    · split
      · exact loseResponse_calm e x _
      · exact .refl e x
    · exact .refl e x
  have hevent : ∀ y, Calm e y (withdrawEventClaim p y) := fun y => by
    unfold withdrawEventClaim
    split
    · exact withdrawEvent_calm e y
    · exact .refl e y
  have hpunt : ∀ y, Calm e y (withdrawPuntClaim p y) := fun y => by
    unfold withdrawPuntClaim
    split
    · exact withdrawPunt_calm e y
    · exact .refl e y
  exact (hresponse.trans (hevent _)).trans (hpunt _)

theorem refuseOffersAt_calm (p : Port) : Calm e x (refuseOffersAt p x) := by
  have hresponse : Calm e x (refuseResponse p x) := by
    unfold refuseResponse
    split
    · split
      · exact .of_events rfl rfl rfl rfl rfl rfl rfl
      · exact .refl e x
    · exact .refl e x
  have hevent : ∀ y, Calm e y (refuseEvent p y) := fun y => by
    unfold refuseEvent
    split
    · exact withdrawEvent_calm e y
    · exact .refl e y
  have hpunt : ∀ y, Calm e y (refusePunt p y) := fun y => by
    unfold refusePunt
    split
    · split
      · exact withdrawPunt_calm e y
      · exact .refl e y
    · exact .refl e y
  exact (hresponse.trans (hevent _)).trans (hpunt _)

theorem grantResponse_calm : Calm e x (grantResponse e x) := by
  refine .of_events ?_ ?_ ?_ ?_ ?_ ?_ ?_ <;> simp

theorem offerEvent_head {x : Commons} {w : Awaiting} (hw : x.events.sender = .awaiting w) (b : Built) :
    (offerEvent e w b x).events.sender.head = x.events.sender.head := by
  rw [hw]
  unfold offerEvent
  split
  · split <;> rfl
  · rfl

theorem grantEvent_head : (grantEvent e x).events.sender.head = x.events.sender.head := by
  unfold grantEvent
  split
  next w _ _ _ hw _ _ =>
    split
    · dsimp only
      split
      · exact offerEvent_head e (x := x.takeReserve _) hw _
      · rfl
    · rfl
  · rfl

theorem grantEvent_calm : Calm e x (grantEvent e x) := by
  refine .of_events ?_ ?_ ?_ ?_ ?_ ?_ (grantEvent_head e x) <;> simp

theorem offerPunt_calm (b : Built) : Calm e x (offerPunt e b x) := by
  refine .of_events ?_ ?_ ?_ ?_ ?_ ?_ ?_ <;> simp

theorem grantPunt_calm : Calm e x (grantPunt e x) := by
  unfold grantPunt
  split
  · split
    · dsimp only
      split
      · refine Calm.trans ?_ (offerPunt_calm e _ _)
        refine Calm.trans ?_ (release_calm e _ _)
        exact .of_events rfl rfl rfl rfl rfl rfl rfl
      · exact .refl e x
    · exact .refl e x
  · exact .refl e x

theorem arbiter_calm : Calm e x (arbiter e x) := by
  have hresponse := grantResponse_calm e x
  have hevent := hresponse.trans (grantEvent_calm e _)
  rw [arbiter_eq]
  split
  · exact hresponse
  · split
    · exact hevent
    · exact hevent.trans (grantPunt_calm e _)

end

/-! ### The response in hand (R143, R153, R165) -/

/-- The endpoint's output and the count of its lost responses. -/
def answer (x : Commons) : Output × Word32 := (x.output, x.mgmt.respLost)

/-- The answer after a response was lost. -/
def lostAnswer (x : Commons) (b : Built) : Output × Word32 :=
  (outputAfterLoss b.builder, satInc x.mgmt.respLost)

/-- No restart hangs on the response in hand. -/
def NoRestart (x : Commons) : Prop :=
  (∀ k, x.output ≠ .restartPending k) ∧ (∀ k, x.output ≠ .restartDue k) ∧
    ∀ b k, x.output = .claiming b ∨ x.output = .offering b → b.builder ≠ .response (some k)

theorem NoRestart.of_output {x y : Commons} (h : x.NoRestart) (hy : y.output = x.output) : y.NoRestart := by
  simpa only [NoRestart, hy] using h

theorem outputAfterLoss_of_plain {b : Builder} (h : ∀ k, b ≠ .response (some k)) : outputAfterLoss b = .idle := by
  cases b with
  | response k =>
    cases k with
    | none => rfl
    | some k => exact absurd rfl (h k)
  | event => rfl
  | punt => rfl

theorem outputAfterAdmission_of_plain {b : Builder} (h : ∀ k, b ≠ .response (some k)) :
    outputAfterAdmission b = .idle := by
  cases b with
  | response k =>
    cases k with
    | none => rfl
    | some k => exact absurd rfl (h k)
  | event => rfl
  | punt => rfl

theorem NoRestart.of_idle {x : Commons} (h : x.output = .idle) : x.NoRestart := by
  refine ⟨fun k => ?_, fun k => ?_, fun b k hb => ?_⟩
  · rw [h]; nofun
  · rw [h]; nofun
  · rw [h] at hb
    rcases hb with hb | hb <;> cases hb

section
variable (p : Port) (x : Commons)

theorem withdrawClaimsFor_answer :
    (withdrawClaimsFor p x).answer = (withdrawResponseClaim p x).answer := by
  have hevent : ∀ y, (withdrawEventClaim p y).answer = y.answer := fun y => by
    unfold withdrawEventClaim answer
    split <;> simp
  have hpunt : ∀ y, (withdrawPuntClaim p y).answer = y.answer := fun y => by
    unfold withdrawPuntClaim answer
    split <;> simp
  rw [withdrawClaimsFor_eq, hpunt, hevent]

theorem refuseOffersAt_answer : (refuseOffersAt p x).answer = (refuseResponse p x).answer := by
  have hevent : ∀ y, (refuseEvent p y).answer = y.answer := fun y => by
    unfold refuseEvent answer
    split <;> simp
  have hpunt : ∀ y, (refusePunt p y).answer = y.answer := fun y => by
    unfold refusePunt answer
    split
    · split <;> simp
    · rfl
  rw [refuseOffersAt_eq, hpunt, hevent]

variable {p x}

/-- A response that claims cells for the port is lost. -/
theorem withdrawClaimsFor_loses {b : Built} (h : x.output = .claiming b) (hp : b.port = p) :
    (withdrawClaimsFor p x).answer = x.lostAnswer b := by
  rw [withdrawClaimsFor_answer]
  simp only [withdrawResponseClaim, h, hp, if_true]
  rfl

/-- Any other answer stays. -/
theorem withdrawClaimsFor_leaves (h : ∀ b, x.output = .claiming b → b.port ≠ p) :
    (withdrawClaimsFor p x).answer = x.answer := by
  rw [withdrawClaimsFor_answer, withdrawResponseClaim]
  split
  next b hb => rw [if_neg (h b hb)]
  · rfl

/-- A response that waits for room at the port is lost. -/
theorem refuseOffersAt_loses {b : Built} (h : x.output = .offering b) (hp : b.port = p) :
    (refuseOffersAt p x).answer = x.lostAnswer b := by
  rw [refuseOffersAt_answer]
  simp only [refuseResponse, h, hp, if_true]
  rfl

theorem refuseOffersAt_leaves (h : ∀ b, x.output = .offering b → b.port ≠ p) :
    (refuseOffersAt p x).answer = x.answer := by
  rw [refuseOffersAt_answer, refuseResponse]
  split
  next b hb => rw [if_neg (h b hb)]
  · rfl

/-- The arbiter leaves an answer that claims nothing. -/
theorem arbiter_leaves (e : Env) (h : ∀ b, x.output ≠ .claiming b) : (arbiter e x).answer = x.answer := by
  have hsame := grantResponse_of_not_claiming (e := e) h
  rw [arbiter_past_response (by rwa [hsame]), hsame]
  split <;> simp [answer]

/-- A response on which no restart hangs leaves none due however the arbiter grants it. -/
theorem arbiter_noRestart (e : Env) (h : x.NoRestart) : (arbiter e x).NoRestart := by
  by_cases hclaims : ∃ b, x.output = .claiming b
  · obtain ⟨b, hb⟩ := hclaims
    have hplain : ∀ k, b.builder ≠ .response (some k) := fun k => h.2.2 b k (.inl hb)
    have hoffered : ∀ y : Commons, (offerResponse e b y).NoRestart := fun y => by
      unfold offerResponse
      split
      · split
        · exact .of_idle (outputAfterAdmission_of_plain hplain)
        · refine ⟨nofun, nofun, fun c k hc => ?_⟩
          rcases hc with hc | hc
          · cases hc
          · cases hc
            exact hplain k
      · exact .of_idle (outputAfterLoss_of_plain hplain)
    have hgranted : (grantResponse e x).NoRestart := by
      simp only [grantResponse, hb]
      split
      · exact hoffered _
      · exact h
    rw [arbiter_eq]
    split
    · exact hgranted
    · split
      · exact hgranted.of_output (by simp)
      · exact hgranted.of_output (by simp)
  · have hnone : ∀ b, x.output ≠ .claiming b := fun b hb => hclaims ⟨b, hb⟩
    exact h.of_output (congrArg Prod.fst (arbiter_leaves e hnone))

end

end Commons

end Sys2Proof.Machine
end

section
/-! PROOF. A port that leaves UP, effect by effect: what its flush leaves of the rest of the part, the response in hand,
and the events that follow (R123, R143, R145, R153, R165, R175). -/

set_option Elab.async false

namespace Sys2Proof.Machine

open Sys2Proof.Safety

namespace Commons

/-- Between `x` and `y` no response is lost, and a restart that waits for its response may fall due (R143, R165). -/
structure Follows (x y : Commons) : Prop where
  respLost : y.mgmt.respLost = x.mgmt.respLost
  output : y.output = x.output ∨ ∃ k, x.output = .restartPending k ∧ y.output = .restartDue k

/-- A restart of kind `k` waits for its response, or is due. -/
def Restarting (k : RestartKind) (x : Commons) : Prop := x.output = .restartPending k ∨ x.output = .restartDue k

theorem Follows.of_answer {x y : Commons} (h : y.answer = x.answer) : Follows x y :=
  ⟨congrArg Prod.snd h, .inl (congrArg Prod.fst h)⟩

section
variable {x y z : Commons} {k : RestartKind}

theorem Follows.due (f : Follows x y) (h : x.output = .restartDue k) : y.output = .restartDue k := by
  rcases f.output with hsame | ⟨j, hpending, -⟩
  · rw [hsame, h]
  · rw [h] at hpending
    cases hpending

theorem Follows.restarting (f : Follows x y) (h : Restarting k x) : Restarting k y := by
  rcases h with hpending | hdue
  · rcases f.output with hsame | ⟨j, hj, hdue⟩
    · exact .inl (hsame.trans hpending)
    · rw [hpending] at hj
      cases hj
      exact .inr hdue
  · exact .inr (f.due hdue)

theorem Follows.of_settled (f : Follows x y) (h : ∀ k, x.output ≠ .restartPending k) : y.answer = x.answer := by
  rcases f.output with hsame | ⟨k, hk, -⟩
  · exact Prod.ext hsame f.respLost
  · exact absurd hk (h k)

theorem Follows.trans (f : Follows x y) (g : Follows y z) : Follows x z := by
  refine ⟨g.respLost.trans f.respLost, ?_⟩
  rcases f.output with hsame | ⟨k, hpending, hdue⟩
  · rw [← hsame]
    exact g.output
  · exact .inr ⟨k, hpending, g.due hdue⟩

end

theorem reportFate_follows (fate : Fate) (b : Built) (x : Commons) : Follows x (reportFate fate b x) := by
  refine ⟨by simp, ?_⟩
  unfold reportFate
  split
  next k _ =>
    split
    next hpending => exact .inr ⟨k, hpending, rfl⟩
    · exact .inl rfl
  · exact .inl rfl
  · exact .inl rfl
  · split
    · exact .inl rfl
    · exact .inl rfl

/-- The fate of the response that a restart waits for makes it due (R143, R165). -/
theorem reportFate_due {fate : Fate} {b : Built} {x : Commons} {k : RestartKind}
    (hb : b.builder = .response (some k)) (hx : Restarting k x) :
    (reportFate fate b x).output = .restartDue k := by
  simp only [reportFate, hb]
  rcases hx with hpending | hdue
  · rw [if_pos hpending]
  · rw [if_neg (by rw [hdue]; nofun)]
    exact hdue

end Commons

/-! ### The flush of a port (R123, R145) -/

/-- Between `s` and `t` the flush of port `p` changes that port and what the ports share alone. -/
structure State.Flushes (p : Port) (s t : State) : Prop where
  blocks : t.blocks = s.blocks
  pending : t.pending = s.pending
  other : t.port (otherPort p) = s.port (otherPort p)
  oper : (t.port p).oper = (s.port p).oper
  calm : Commons.Calm s.env s.commons t.commons
  follows : Commons.Follows s.commons t.commons

theorem State.env_of_blocks {p : Port} {s t : State} (hblocks : t.blocks = s.blocks)
    (hother : t.port (otherPort p) = s.port (otherPort p)) (hoper : (t.port p).oper = (s.port p).oper) :
    t.env = s.env := by
  simp only [State.blocks, Prod.mk.injEq] at hblocks
  obtain ⟨hendpoint, -, -, -, htables, -⟩ := hblocks
  have hup : ∀ q, t.isUp q = s.isUp q := fun q => by
    rw [Bool.eq_iff_iff, State.isUp_eq_true_iff, State.isUp_eq_true_iff]
    by_cases hq : q = p
    · rw [hq, hoper]
    · rw [eq_otherPort_of_ne hq, hother]
  simp only [State.env, hup, hendpoint, htables]

namespace State.Flushes

variable {p : Port} {s t u : State}

theorem env (f : Flushes p s t) : t.env = s.env := State.env_of_blocks f.blocks f.other f.oper

theorem refl (p : Port) (s : State) : Flushes p s s :=
  ⟨rfl, rfl, rfl, rfl, .refl _ _, .of_answer rfl⟩

theorem trans (f : Flushes p s t) (g : Flushes p t u) : Flushes p s u where
  blocks := g.blocks.trans f.blocks
  pending := g.pending.trans f.pending
  other := g.other.trans f.other
  oper := g.oper.trans f.oper
  calm := f.calm.trans (f.env ▸ g.calm)
  follows := f.follows.trans g.follows

theorem setPort (f : Flushes p s t) {v : PortUnit} (hoper : v.oper = (t.port p).oper) :
    Flushes p s (t.setPort p v) := by
  refine f.trans ⟨by simp, by simp, by simp, by simpa using hoper, ?_, ?_⟩
  · rw [State.setPort_commons]
    exact .refl _ _
  · rw [State.setPort_commons]
    exact .of_answer rfl

theorem count (f : Flushes p s t) (k : PortCounter) : Flushes p s (t.count p k) := f.setPort rfl

theorem onCommons (f : Flushes p s t) {g : Env → Commons → Commons}
    (hcalm : Commons.Calm t.env t.commons (g t.env t.commons))
    (hfollows : Commons.Follows t.commons (g t.env t.commons)) : Flushes p s (t.onCommons g) :=
  f.trans ⟨by simp, by simp, by simp, by simp, hcalm, hfollows⟩

theorem release (f : Flushes p s t) (id : Nat) : Flushes p s (t.release id) :=
  f.onCommons (Commons.release_calm _ _ id) (.of_answer (by simp [Commons.answer]))

theorem giveGeneral (f : Flushes p s t) (cells : List GeneralCell) :
    Flushes p s (t.onCommons fun e => Commons.giveGeneral e cells) :=
  f.onCommons (Commons.giveGeneral_calm _ _ cells) (.of_answer (by simp [Commons.answer]))

theorem settleBuilt (f : Flushes p s t) (fate : Commons.Fate) (b : Built) :
    Flushes p s (t.onCommons fun _ x => (x.reportFate fate b).giveReserve b.cells) :=
  f.onCommons (Commons.settleBuilt_calm _ _ fate b)
    ((Commons.reportFate_follows fate b t.commons).trans (.of_answer rfl))

theorem foldl (f : Flushes p s t) {α : Type} {g : State → α → State} (hg : ∀ v a, Flushes p v (g v a))
    (l : List α) : Flushes p s (l.foldl g t) := by
  induction l generalizing t with
  | nil => exact f
  | cons a l ih => exact ih (f.trans (hg t a))

end State.Flushes

section
variable (s : State) (p : Port)

theorem State.endReceptionForLink_flushes : State.Flushes p s (s.endReceptionForLink p) := by
  have hended : State.Flushes p s (s.setPort p { s.port p with reception := none }) :=
    (State.Flushes.refl p s).setPort rfl
  unfold State.endReceptionForLink
  split
  · exact (hended.count _).giveGeneral _
  · exact hended
  · exact .refl p s

theorem State.abortForLink_flushes : State.Flushes p s (s.abortForLink p) := by
  unfold State.abortForLink
  split
  · have hidle : State.Flushes p s ((s.setPort p { s.port p with tx := none }).count p .txAbort) :=
      ((State.Flushes.refl p s).setPort (v := { s.port p with tx := none }) rfl).count _
    dsimp only
    split
    · exact hidle.release _
    · exact hidle.settleBuilt .aborted _
  · exact .refl p s

theorem State.flushQueue_flushes (c : Fin 4) : State.Flushes p s (State.flushQueue p s c) :=
  ((State.Flushes.refl p s).setPort
    (v := (s.port p).setQueue c { (s.port p).queue c with entries := [] }) rfl).foldl
    (fun v (k : Copy) => ((State.Flushes.refl p v).count .linkDown).release k.frame) _

theorem State.flushBuilt_flushes (b : Built) : State.Flushes p s (State.flushBuilt p s b) :=
  ((State.Flushes.refl p s).count _).settleBuilt .flushed b

theorem State.flushForLink_flushes : State.Flushes p s (s.flushForLink p) := by
  have hclasses := (State.Flushes.refl p s).foldl (fun v c => State.flushQueue_flushes v p c) [0, 1, 2, 3]
  refine State.Flushes.foldl ?_ (fun v b => State.flushBuilt_flushes v p b) _
  exact hclasses.onCommons (g := fun _ x => x.setMgmtOut p []) (Commons.setMgmtOut_calm _ _ p [])
    (.of_answer (by simp [Commons.answer]))

/-- The flush that follows the withdrawal of the claims. -/
theorem State.emptied_flushes :
    State.Flushes p (s.onCommons fun _ => Commons.withdrawClaimsFor p) (s.emptied p) :=
  ((State.endReceptionForLink_flushes _ p).trans (State.abortForLink_flushes _ p)).trans
    (State.flushForLink_flushes _ p)

end

/-! ### A restart whose response is aborted or flushed (R143, R165) -/

section
variable {s : State} {p : Port} {b : Built} {k : RestartKind} (hb : b.builder = .response (some k))

include hb

theorem State.abortForLink_due {wire : List Byte} (htx : (s.port p).tx = some { source := .built b, wire := wire })
    (hs : Commons.Restarting k s.commons) : (s.abortForLink p).commons.output = .restartDue k := by
  simp only [State.abortForLink, htx, State.onCommons_commons, Commons.giveReserve_output]
  exact Commons.reportFate_due hb (by simpa [State.count] using hs)

theorem State.flushBuilts_due {l : List Built} (hmem : b ∈ l) (hs : Commons.Restarting k s.commons) :
    (l.foldl (State.flushBuilt p) s).commons.output = .restartDue k := by
  induction l generalizing s with
  | nil => cases hmem
  | cons c l ih =>
    rw [List.foldl_cons]
    rcases List.mem_cons.mp hmem with rfl | hrest
    · have hdue : (State.flushBuilt p s b).commons.output = .restartDue k :=
        Commons.reportFate_due (x := (s.count p .linkDown).commons) hb (by simpa [State.count] using hs)
      exact ((State.Flushes.refl p _).foldl (fun v d => State.flushBuilt_flushes v p d) l).follows.due hdue
    · exact ih hrest ((State.flushBuilt_flushes s p c).follows.restarting hs)

theorem State.flushForLink_due (hdown : (s.port p).oper ≠ .up) (hmem : b ∈ s.commons.mgmtOut p)
    (hs : Commons.Restarting k s.commons) : (s.flushForLink p).commons.output = .restartDue k := by
  have hclasses := (State.Flushes.refl p s).foldl (fun v c => State.flushQueue_flushes v p c) [0, 1, 2, 3]
  refine State.flushBuilts_due hb ?_ ?_
  · rw [State.flushQueues_mgmtOut hdown]
    exact hmem
  · exact Commons.Follows.restarting (.of_answer (by simp [Commons.answer])) (hclasses.follows.restarting hs)

/-- A restart whose response stands in the transmitter or in the queue of a port that is flushed falls due. -/
theorem State.emptied_due (hdown : (s.port p).oper ≠ .up) (hpending : s.commons.output = .restartPending k)
    (hplace : (∃ w, (s.port p).tx = some { source := .built b, wire := w }) ∨ b ∈ s.commons.mgmtOut p) :
    (s.emptied p).commons.output = .restartDue k := by
  let s0 := s.onCommons fun _ => Commons.withdrawClaimsFor p
  have hdown0 : (s0.port p).oper ≠ .up := by rwa [State.onCommons_port]
  have hstart : Commons.Restarting k s0.commons := by
    have hsame := Commons.withdrawClaimsFor_leaves (p := p) (x := s.commons) fun b hb => by
      rw [hpending] at hb
      cases hb
    exact .inl ((congrArg Prod.fst hsame).trans hpending)
  have hended := State.endReceptionForLink_flushes s0 p
  have hdown1 : ((s0.endReceptionForLink p).port p).oper ≠ .up := hended.oper ▸ hdown0
  have haborted := State.abortForLink_flushes (s0.endReceptionForLink p) p
  have hflushed := State.flushForLink_flushes ((s0.endReceptionForLink p).abortForLink p) p
  rcases hplace with ⟨w, htx⟩ | hmem
  · refine hflushed.follows.due (State.abortForLink_due hb (wire := w) ?_ (hended.follows.restarting hstart))
    rw [State.endReceptionForLink_port, State.onCommons_port]
    exact htx
  · refine State.flushForLink_due hb (haborted.oper ▸ hdown1) ?_
      (haborted.follows.restarting (hended.follows.restarting hstart))
    rw [State.abortForLink_mgmtOut hdown1, State.endReceptionForLink_mgmtOut hdown0, State.onCommons_commons,
      State.withdrawClaimsFor_mgmtOut]
    exact hmem

end

/-! ### What the flush makes of the port (R123, R145) -/

theorem repeat_satInc_add {n : Nat} (i j : Nat) (w : BitVec n) :
    Nat.repeat satInc i (Nat.repeat satInc j w) = Nat.repeat satInc (j + i) w := by
  induction i with
  | zero => rfl
  | succ i ih => exact congrArg satInc ih

theorem PortUnit.emptyQueues_counter (u : PortUnit) (k : PortCounter) : u.emptyQueues.counter k = u.counter k := rfl

section
variable (u : PortUnit) (n : Nat)

theorem PortUnit.emptied_linkDown : (u.emptied n).counter .linkDown =
    Nat.repeat satInc (u.storing + u.copies + n) (u.counter .linkDown) := by
  have hcounters : (u.emptied n).counter .linkDown =
      (((u.countTimes .linkDown u.storing).countTimes .txAbort (if u.tx.isSome then 1 else 0)).emptyQueues.countTimes
        .linkDown (u.copies + n)).counter .linkDown := rfl
  rw [hcounters, PortUnit.countTimes_counter, PortUnit.emptyQueues_counter,
    PortUnit.countTimes_counter_ne _ _ (by decide), PortUnit.countTimes_counter, repeat_satInc_add, Nat.add_assoc]

theorem PortUnit.emptied_txAbort : (u.emptied n).counter .txAbort =
    if u.tx.isSome then satInc (u.counter .txAbort) else u.counter .txAbort := by
  have hcounters : (u.emptied n).counter .txAbort =
      (((u.countTimes .linkDown u.storing).countTimes .txAbort (if u.tx.isSome then 1 else 0)).emptyQueues.countTimes
        .linkDown (u.copies + n)).counter .txAbort := rfl
  rw [hcounters, PortUnit.countTimes_counter_ne _ _ (by decide), PortUnit.emptyQueues_counter,
    PortUnit.countTimes_counter, PortUnit.countTimes_counter_ne _ _ (by decide)]
  split <;> rfl

theorem PortUnit.emptied_counter {k : PortCounter} (habort : k ≠ .txAbort) (hdown : k ≠ .linkDown) :
    (u.emptied n).counter k = u.counter k := by
  have hcounters : (u.emptied n).counter k =
      (((u.countTimes .linkDown u.storing).countTimes .txAbort (if u.tx.isSome then 1 else 0)).emptyQueues.countTimes
        .linkDown (u.copies + n)).counter k := rfl
  rw [hcounters, PortUnit.countTimes_counter_ne _ _ hdown, PortUnit.emptyQueues_counter,
    PortUnit.countTimes_counter_ne _ _ habort, PortUnit.countTimes_counter_ne _ _ hdown]

theorem PortUnit.emptied_queue (c : Fin 4) :
    (u.emptied n).queue c = { entries := [], limit := (u.queue c).limit } :=
  PortUnit.emptyQueues_queue _ c

end

/-! ### The grants that follow the flush, and the response in hand (R131, R153, R165) -/

/-- The part once the port is flushed, the offers at it are refused and the arbiter has looked at what remains. -/
def State.granted (s : State) (p : Port) : State := ((s.emptied p).refused p).onCommons Commons.arbiter

section
variable {s : State} {p : Port}

theorem State.granted_frame (s : State) (p : Port) : (s.granted p).blocks = s.blocks ∧
    (s.granted p).pending = s.pending ∧ (s.granted p).port (otherPort p) = s.port (otherPort p) ∧
    (s.granted p).port p = (s.emptied p).port p ∧ Commons.Calm s.env s.commons (s.granted p).commons := by
  have hflushed := State.emptied_flushes s p
  have hwithdrawn := Commons.withdrawClaimsFor_calm s.env s.commons p
  have henv : (s.emptied p).env = s.env := hflushed.env
  have hrefused := Commons.refuseOffersAt_calm s.env (s.emptied p).commons p
  have hgranted := Commons.arbiter_calm s.env (Commons.refuseOffersAt p (s.emptied p).commons)
  have hcommons : (s.granted p).commons =
      Commons.arbiter s.env (Commons.refuseOffersAt p (s.emptied p).commons) := by
    rw [← henv]
    rfl
  refine ⟨hflushed.blocks, hflushed.pending, ?_, by simp [State.granted, State.refused], ?_⟩
  · simpa [State.granted, State.refused] using hflushed.other
  · rw [hcommons]
    exact ((hwithdrawn.trans hflushed.calm).trans hrefused).trans hgranted

/-- An answer that is neither claimed nor offered once the claims are withdrawn stays but for a restart that falls
due. -/
theorem State.granted_answer (hclaims : ∀ b, (s.emptied p).commons.output ≠ .claiming b)
    (hoffers : ∀ b, (s.emptied p).commons.output ≠ .offering b) :
    (s.granted p).commons.answer = (s.emptied p).commons.answer := by
  have hrefused := Commons.refuseOffersAt_leaves (p := p) (x := (s.emptied p).commons)
    fun b hb => absurd hb (hoffers b)
  exact (Commons.arbiter_leaves _ fun b hb => hclaims b ((congrArg Prod.fst hrefused).symm.trans hb)).trans hrefused

theorem State.granted_idle (h : s.commons.output = .idle) : (s.granted p).commons.answer = s.commons.answer := by
  have hwithdrawn := Commons.withdrawClaimsFor_leaves (p := p) (x := s.commons) fun b hb => by
    rw [h] at hb
    cases hb
  have houtput : (Commons.withdrawClaimsFor p s.commons).output = .idle := (congrArg Prod.fst hwithdrawn).trans h
  have hflushed := (State.emptied_flushes s p).follows.of_settled fun k hk => by
    rw [State.onCommons_commons, houtput] at hk
    cases hk
  have hidle : (s.emptied p).commons.output = .idle := (congrArg Prod.fst hflushed).trans houtput
  exact (State.granted_answer (by rw [hidle]; nofun) (by rw [hidle]; nofun)).trans (hflushed.trans hwithdrawn)

/-- A response that waits to leave through the port is lost, and with it the restart that it carries falls due. -/
theorem State.granted_loses {b : Built} (h : s.commons.output = .claiming b ∨ s.commons.output = .offering b)
    (hp : b.port = p) : (s.granted p).commons.answer = s.commons.lostAnswer b := by
  have hafter : ∀ c, Commons.outputAfterLoss b.builder ≠ .claiming c := fun c => by
    unfold Commons.outputAfterLoss
    split <;> nofun
  have hafter' : ∀ c, Commons.outputAfterLoss b.builder ≠ .offering c := fun c => by
    unfold Commons.outputAfterLoss
    split <;> nofun
  have hpending : ∀ k, Commons.outputAfterLoss b.builder ≠ .restartPending k := fun k => by
    unfold Commons.outputAfterLoss
    split <;> nofun
  rcases h with hclaims | hoffers
  · have hlost := Commons.withdrawClaimsFor_loses hclaims hp
    have houtput : (Commons.withdrawClaimsFor p s.commons).output = Commons.outputAfterLoss b.builder :=
      congrArg Prod.fst hlost
    have hflushed := (State.emptied_flushes s p).follows.of_settled fun k hk => hpending k (houtput ▸ hk)
    have hsame : (s.emptied p).commons.output = Commons.outputAfterLoss b.builder :=
      (congrArg Prod.fst hflushed).trans houtput
    exact (State.granted_answer (fun c hc => hafter c (hsame ▸ hc)) fun c hc => hafter' c (hsame ▸ hc)).trans
      (hflushed.trans hlost)
  · have hwithdrawn := Commons.withdrawClaimsFor_leaves (p := p) (x := s.commons) fun c hc => by
      rw [hoffers] at hc
      cases hc
    have houtput : (Commons.withdrawClaimsFor p s.commons).output = .offering b :=
      (congrArg Prod.fst hwithdrawn).trans hoffers
    have hflushed := ((State.emptied_flushes s p).follows.of_settled fun k hk => by
      rw [State.onCommons_commons, houtput] at hk
      cases hk).trans hwithdrawn
    have hlost := Commons.refuseOffersAt_loses ((congrArg Prod.fst hflushed).trans hoffers) hp
    have hrespLost : (s.emptied p).commons.mgmt.respLost = s.commons.mgmt.respLost := congrArg Prod.snd hflushed
    have hfinal : (Commons.refuseOffersAt p (s.emptied p).commons).answer = s.commons.lostAnswer b :=
      hlost.trans (by rw [Commons.lostAnswer, hrespLost]; rfl)
    exact (Commons.arbiter_leaves _ fun c hc => hafter c ((congrArg Prod.fst hfinal).symm.trans hc)).trans hfinal

theorem State.granted_due {b : Built} {k : RestartKind} (hb : b.builder = .response (some k))
    (hdown : (s.port p).oper ≠ .up) (hpending : s.commons.output = .restartPending k)
    (hplace : (∃ w, (s.port p).tx = some { source := .built b, wire := w }) ∨ b ∈ s.commons.mgmtOut p) :
    (s.granted p).commons.output = .restartDue k := by
  have hdue := State.emptied_due hb hdown hpending hplace
  exact (congrArg Prod.fst (State.granted_answer (by rw [hdue]; nofun) (by rw [hdue]; nofun))).trans hdue

/-- Where no restart hangs on the response in hand none falls due. -/
theorem State.granted_noRestart (h : s.commons.NoRestart) : (s.granted p).commons.NoRestart := by
  have hlost : ∀ (x y : Commons) (b : Built), (∀ k, b.builder ≠ .response (some k)) →
      y.answer = x.lostAnswer b → y.NoRestart := fun x y b hb hy =>
    .of_idle ((congrArg Prod.fst hy).trans (Commons.outputAfterLoss_of_plain hb))
  have hwithdrawn : (Commons.withdrawClaimsFor p s.commons).NoRestart := by
    by_cases hclaims : ∃ b, s.commons.output = .claiming b ∧ b.port = p
    · obtain ⟨b, hb, hp⟩ := hclaims
      exact hlost _ _ b (fun k => h.2.2 b k (.inl hb)) (Commons.withdrawClaimsFor_loses hb hp)
    · exact h.of_output (congrArg Prod.fst (Commons.withdrawClaimsFor_leaves fun b hb hp => hclaims ⟨b, hb, hp⟩))
  have hflushed : (s.emptied p).commons.NoRestart := hwithdrawn.of_output
    (congrArg Prod.fst ((State.emptied_flushes s p).follows.of_settled hwithdrawn.1))
  refine Commons.arbiter_noRestart _ ?_
  by_cases hoffers : ∃ b, (s.emptied p).commons.output = .offering b ∧ b.port = p
  · obtain ⟨b, hb, hp⟩ := hoffers
    exact hlost _ _ b (fun k => hflushed.2.2 b k (.inr hb)) (Commons.refuseOffersAt_loses hb hp)
  · exact hflushed.of_output
      (congrArg Prod.fst (Commons.refuseOffersAt_leaves fun b hb hp => hoffers ⟨b, hb, hp⟩))

end

end Sys2Proof.Machine
end

section
/-! PROOF. What a port that has left UP announces, and the part that this leaves (R123, R145, R157, R175). -/

set_option Elab.async false

namespace Sys2Proof.Machine

open Sys2Proof.Safety

namespace Commons

/-- Between `x` and `y` the events `ks` are posted, the listener being one that is not reached: nothing is sent. -/
structure Announces (e : Env) (ks : List EventKind) (x y : Commons) : Prop where
  answer : y.answer = x.answer
  low : y.pool.low = x.pool.low
  agrees : x.pool.Agrees → y.pool.Agrees
  listener : y.events.listener = x.events.listener
  sender : ListenerDown e x → y.events.sender = x.events.sender
  kinds : x.kinds.length + ks.length ≤ 16 → y.kinds = x.kinds ++ ks

namespace Announces

variable {e : Env} {x y z : Commons} {ks ls : List EventKind}

theorem refl (e : Env) (x : Commons) : Announces e [] x x :=
  ⟨rfl, rfl, id, rfl, fun _ => rfl, fun _ => (List.append_nil _).symm⟩

theorem trans (f : Announces e ks x y) (g : Announces e ls y z) : Announces e (ks ++ ls) x z where
  answer := g.answer.trans f.answer
  low := g.low.trans f.low
  agrees hx := g.agrees (f.agrees hx)
  listener := g.listener.trans f.listener
  sender hx := (g.sender fun l hl => hx l (f.listener ▸ hl)).trans (f.sender hx)
  kinds hroom := by
    rw [List.length_append] at hroom
    have hfirst := f.kinds (by omega)
    rw [g.kinds (by rw [hfirst, List.length_append]; omega), hfirst, List.append_assoc]

theorem post (e : Env) (k : EventKind) (x : Commons) : Announces e [k] x (Commons.post e k x) where
  answer := by simp [Commons.answer]
  low := by simp
  agrees hx := by
    simp only [Pool.Agrees, Pool.freeGeneral, post_frame] at hx ⊢
    exact hx
  listener := by simp
  sender := post_head e x k
  kinds hroom := post_kinds e x k (by rw [← kinds_length]; simpa using hroom)

end Announces

/-- The port that the listener of `x` is reached through is `p`. -/
theorem listensOn_of_listener {x : Commons} {l : Listener} {p : Port} (hl : x.events.listener = some l)
    (hp : l.port = p) : x.listensOn p = true := by
  simp [listensOn, hl, hp]

end Commons

/-! ### The head that is held (R123, R175) -/

/-- A sender whose listener is not reached: the head that it has sent waits with no report in flight. -/
def Sender.held : Sender → Sender
  | .awaiting w => .awaiting { w with timer := false, flight := .none }
  | .idle => .idle

theorem Sender.held_eq_of_head {a b : Sender} (h : a.head = b.head) : a.held = b.held := by
  cases a with
  | idle => cases b with
    | idle => rfl
    | awaiting w => cases h
  | awaiting v => cases b with
    | idle => cases h
    | awaiting w =>
      simp only [Sender.head, Option.some.injEq, Prod.mk.injEq] at h
      obtain ⟨hretry, hcaptured⟩ := h
      simp only [Sender.held, hretry, hcaptured]

theorem Commons.holdHead_sender {p : Port} {x : Commons} (h : x.listensOn p = true) :
    (holdHead p x).events.sender = x.events.sender.held := by
  unfold holdHead
  split
  next w hw =>
    rw [if_pos h, hw]
    rfl
  next hidle => rw [hidle]; rfl

/-- What holding the head leaves: all but the sender. -/
theorem Commons.holdHead_leaves (p : Port) (x : Commons) : (holdHead p x).answer = x.answer ∧
    (holdHead p x).pool = x.pool ∧ (holdHead p x).kinds = x.kinds := by
  unfold holdHead
  split
  · split <;> exact ⟨rfl, rfl, rfl⟩
  · exact ⟨rfl, rfl, rfl⟩

/-- A port that is emptied keeps its setting, its link and with them its operational state. -/
theorem PortUnit.emptied_link (u : PortUnit) (n : Nat) :
    (u.emptied n).enabled = u.enabled ∧ (u.emptied n).link = u.link ∧ (u.emptied n).oper = u.oper := by
  have henabled : (u.emptied n).enabled = u.enabled := by
    simp only [emptied, countTimes, emptyQueues, emptyQueue, setQueue]
  have hlink : (u.emptied n).link = u.link := by
    simp only [emptied, countTimes, emptyQueues, emptyQueue, setQueue]
  exact ⟨henabled, hlink, by rw [PortUnit.oper, PortUnit.oper, henabled, hlink]⟩

/-! ### The end of a session owned through the port (R123, R157) -/

/-- The events of a port that has left UP for `o`, once the pool has posted its own. -/
def State.linkNotices (s : State) (p : Port) (o : OperState) : List EventKind :=
  .linkDown p o :: (match s.endpoint.session with
    | some w => if w.port = p then [.sessionEnded .link w.node w.number] else []
    | none => [])

section
variable (s : State) (p : Port)

theorem State.endSessionForLink_blocks :
    (∀ q, (s.endSessionForLink p).port q = s.port q) ∧ (s.endSessionForLink p).pending = s.pending ∧
      (s.endSessionForLink p).classifier = s.classifier ∧ (s.endSessionForLink p).meters = s.meters ∧
      (s.endSessionForLink p).tables = s.tables ∧ (s.endSessionForLink p).verify = s.verify := by
  have hport : ∀ q, (s.endSessionForLink p).port q = s.port q := fun q => by
    unfold State.endSessionForLink State.endSession
    split
    · split
      · split <;> cases q <;> rfl
      · rfl
    · rfl
  refine ⟨hport, ?_⟩
  unfold State.endSessionForLink State.endSession
  split
  · split
    · split <;> exact ⟨rfl, rfl, rfl, rfl, rfl⟩
    · exact ⟨rfl, rfl, rfl, rfl, rfl⟩
  · exact ⟨rfl, rfl, rfl, rfl, rfl⟩

theorem State.endSessionForLink_endpoint : (s.endSessionForLink p).endpoint =
    { s.endpoint with session := s.endpoint.session.filter fun o => decide (o.port ≠ p) } := by
  unfold State.endSessionForLink
  split
  next o ho =>
    split
    next hp =>
      have hgone : decide (o.port ≠ p) = false := decide_eq_false fun h => h hp
      rw [State.endSession, ho, Option.filter_some, hgone]
      rfl
    next hp =>
      rw [ho, Option.filter_some, if_pos (by simpa using hp), ← ho]
  next hnone => rw [hnone, Option.filter_none, ← hnone]

/-- The part once a port that left UP for `o` has posted LINK_DOWN and ended a session owned through it. -/
def State.noticed (o : OperState) : State := (s.post (.linkDown p o)).endSessionForLink p

variable (o : OperState)

theorem State.noticed_blocks :
    (∀ q, (s.noticed p o).port q = s.port q) ∧ (s.noticed p o).pending = s.pending ∧
      (s.noticed p o).classifier = s.classifier ∧ (s.noticed p o).meters = s.meters ∧
      (s.noticed p o).tables = s.tables ∧ (s.noticed p o).verify = s.verify ∧ (s.noticed p o).endpoint =
        { s.endpoint with session := s.endpoint.session.filter fun w => decide (w.port ≠ p) } := by
  obtain ⟨hports, hpending, hclassifier, hmeters, htables, hverify⟩ :=
    State.endSessionForLink_blocks (s.post (.linkDown p o)) p
  exact ⟨fun q => (hports q).trans (State.onCommons_port _ s q), hpending, hclassifier, hmeters, htables, hverify,
    State.endSessionForLink_endpoint (s.post (.linkDown p o)) p⟩

/-- LINK_DOWN, and SESSION_ENDED for a session owned through the port, are what a port that left UP announces. -/
theorem State.noticed_announces :
    Commons.Announces s.env (s.linkNotices p o) s.commons (s.noticed p o).commons := by
  have hposted : Commons.Announces s.env [.linkDown p o] s.commons (s.post (.linkDown p o)).commons :=
    .post s.env _ _
  unfold State.noticed State.endSessionForLink State.linkNotices
  cases hsession : s.endpoint.session with
  | none =>
    have hsame : (s.post (.linkDown p o)).endpoint.session = none := hsession
    simp only [hsame]
    exact hposted
  | some w =>
    have hsame : (s.post (.linkDown p o)).endpoint.session = some w := hsession
    simp only [hsame]
    by_cases hp : w.port = p
    · rw [if_pos hp, if_pos hp, State.endSession, hsame]
      exact hposted.trans (.post s.env (.sessionEnded .link w.node w.number) _)
    · rw [if_neg hp, if_neg hp]
      exact hposted

end

/-! ### The part that the port leaves (R123) -/

section
variable {s : State} {p : Port} (o : OperState)

theorem State.leaveUp_granted (s : State) (p : Port) (o : OperState) : s.leaveUp p o =
    ((s.granted p).noticed p o).onCommons fun _ => Commons.holdHead p := rfl

theorem State.leaveUp_frame (s : State) (p : Port) (o : OperState) :
    (s.leaveUp p o).pending = s.pending ∧
      (s.leaveUp p o).port (otherPort p) = s.port (otherPort p) ∧ (s.leaveUp p o).classifier = s.classifier ∧
      (s.leaveUp p o).tables = s.tables ∧ (s.leaveUp p o).verify = s.verify ∧
      (s.leaveUp p o).meters = s.meters ∧ (s.leaveUp p o).endpoint =
        { s.endpoint with session := s.endpoint.session.filter fun w => decide (w.port ≠ p) } := by
  obtain ⟨hblocks, hpending, hother, -, -⟩ := State.granted_frame s p
  obtain ⟨hports, hpending', hclassifier', hmeters', htables', hverify', hendpoint'⟩ :=
    State.noticed_blocks (s.granted p) p o
  simp only [State.blocks, Prod.mk.injEq] at hblocks
  obtain ⟨hendpoint, hclassifier, -, hmeters, htables, hverify⟩ := hblocks
  simp only [State.leaveUp_granted, State.onCommons_port, State.onCommons_pending, State.onCommons_classifier,
    State.onCommons_meters, State.onCommons_tables, State.onCommons_verify, State.onCommons_endpoint, hports, hpending',
    hclassifier', hmeters', htables', hverify', hendpoint']
  exact ⟨hpending, hother, hclassifier, htables, hverify, hmeters, by rw [hendpoint]⟩

theorem State.leaveUp_port (hdown : (s.port p).oper ≠ .up) :
    (s.leaveUp p o).port p = (s.port p).emptied (s.commons.mgmtOut p).length := by
  obtain ⟨-, -, -, hport, -⟩ := State.granted_frame s p
  obtain ⟨hports, -⟩ := State.noticed_blocks (s.granted p) p o
  rw [← State.emptied_port hdown, ← hport, State.leaveUp_granted, State.onCommons_port, hports]

theorem State.granted_env (s : State) (p : Port) (hdown : (s.port p).oper ≠ .up) : (s.granted p).env = s.env := by
  obtain ⟨hblocks, -, hother, hport, -⟩ := State.granted_frame s p
  refine State.env_of_blocks hblocks hother ?_
  rw [hport, State.emptied_port hdown, (PortUnit.emptied_link _ _).2.2]

theorem State.leaveUp_answer (s : State) (p : Port) (o : OperState) :
    (s.leaveUp p o).commons.answer = (s.granted p).commons.answer := by
  obtain ⟨hsame, -⟩ := Commons.holdHead_leaves p ((s.granted p).noticed p o).commons
  rw [State.leaveUp_granted, State.onCommons_commons, hsame, (State.noticed_announces (s.granted p) p o).answer]

theorem State.leaveUp_sender {l : Listener} (hdown : (s.port p).oper ≠ .up)
    (hl : s.commons.events.listener = some l) (hp : l.port = p) :
    (s.leaveUp p o).commons.events.sender = s.commons.events.sender.held := by
  obtain ⟨-, -, -, -, hcalm⟩ := State.granted_frame s p
  have hannounced := State.noticed_announces (s.granted p) p o
  have hreached : Commons.ListenerDown s.env s.commons := fun k hk => by
    rw [hl, Option.some.injEq] at hk
    rw [← hk, hp, Commons.env_up]
    exact decide_eq_false hdown
  have hreached' : Commons.ListenerDown (s.granted p).env (s.granted p).commons := fun k hk => by
    rw [State.granted_env s p hdown]
    exact hreached k (hcalm.listener ▸ hk)
  have hlistens := Commons.listensOn_of_listener ((hannounced.listener.trans hcalm.listener).trans hl) hp
  rw [State.leaveUp_granted, State.onCommons_commons, Commons.holdHead_sender hlistens, hannounced.sender hreached']
  exact Sender.held_eq_of_head (hcalm.head hreached)

/-- The pool posts at most POOL_OK before the notices of the port, which leave its state (R123, R133). -/
theorem State.leaveUp_kinds (hagrees : PoolAgrees s) (hroom : s.commons.kinds.length ≤ 13) :
    (s.leaveUp p o).commons.pool.Agrees ∧ ∃ early,
      (early = [] ∨ (∃ n, early = [.poolOk n]) ∧ (s.leaveUp p o).commons.pool.low = false) ∧
      (s.leaveUp p o).commons.kinds = s.commons.kinds ++ early ++ s.linkNotices p o := by
  obtain ⟨hblocks, -, -, -, hcalm⟩ := State.granted_frame s p
  have hannounced := State.noticed_announces (s.granted p) p o
  obtain ⟨-, hpool, hkinds⟩ := Commons.holdHead_leaves p ((s.granted p).noticed p o).commons
  simp only [State.blocks, Prod.mk.injEq] at hblocks
  obtain ⟨hendpoint, -⟩ := hblocks
  have hnotices : (s.granted p).linkNotices p o = s.linkNotices p o := by
    rw [State.linkNotices, State.linkNotices, hendpoint]
  have hshort : (s.linkNotices p o).length ≤ 2 := by
    unfold State.linkNotices
    split
    · split <;> simp
    · simp
  rw [Commons.kinds_length] at hroom
  obtain ⟨hafter, hposts⟩ := hcalm.posts hagrees fun _ => by omega
  rw [State.leaveUp_granted, State.onCommons_commons, hpool, hkinds]
  refine ⟨hannounced.agrees hafter, ?_⟩
  rw [hnotices] at hannounced
  rcases hposts with ⟨hsame, -⟩ | ⟨-, hlow, n, hn⟩
  · refine ⟨[], .inl rfl, ?_⟩
    rw [hannounced.kinds (by rw [hsame, Commons.kinds_length]; omega), hsame, List.append_nil]
  · refine ⟨[.poolOk n], .inr ⟨⟨n, rfl⟩, hannounced.low.trans hlow⟩, ?_⟩
    have hlength : (s.granted p).commons.kinds.length = s.commons.events.queue.length + 1 := by
      rw [hn, List.length_append, Commons.kinds_length]
      rfl
    rw [hannounced.kinds (by omega), hn]

end

end Sys2Proof.Machine
end

section
/-! PROOF. A port that enters UP, and the head or the idle sender that its listener finds again (R122, R146, R172,
R175). -/

set_option Elab.async false

namespace Sys2Proof.Machine

open Sys2Proof.Safety

theorem Sender.awaiting_of_head {a : Sender} {retry : Nat} {captured : Word16} (h : a.head = some (retry, captured)) :
    ∃ w : Awaiting, a = .awaiting w ∧ w.retry = retry ∧ w.captured = captured := by
  cases a with
  | idle => cases h
  | awaiting w =>
    simp only [Sender.head, Option.some.injEq, Prod.mk.injEq] at h
    exact ⟨w, rfl, h⟩

namespace Commons

/-- An event that has been posted leaves the queue non-empty, joined or lost (R169). -/
theorem accept_nonempty (e : Env) (k : EventKind) (x : Commons) :
    ∃ r rest, (accept e k x).events.queue = r :: rest := by
  refine List.exists_cons_of_ne_nil ?_
  unfold accept
  split
  · exact List.append_ne_nil_of_right_ne_nil _ (List.cons_ne_nil _ _)
  next hfull =>
    intro hnil
    have hempty : x.events.queue = [] := hnil
    rw [hempty] at hfull
    exact hfull (by decide)

/-- An event that joins the queue joins behind its head. -/
theorem accept_keeps_first (e : Env) (k : EventKind) {x : Commons} {r : EventRecord} {rest : List EventRecord}
    (h : x.events.queue = r :: rest) : ∃ more, (accept e k x).events.queue = r :: more := by
  unfold accept
  split
  · exact ⟨rest ++ _, by rw [h]; rfl⟩
  · exact ⟨rest, h⟩

/-! ### A head that is sent again (R175) -/

theorem withdrawEvent_reserve_le (x : Commons) : x.pool.freeReserve ≤ x.withdrawEvent.pool.freeReserve := by
  unfold withdrawEvent
  split
  · split
    · exact Nat.le_refl _
    · exact Nat.le_add_right _ _
    · exact Nat.le_refl _
  · exact Nat.le_refl _

/-- The claim for a head that is sent again: what waited for it is withdrawn. -/
def reclaimed (retry : Nat) (captured : Word16) (x : Commons) : Commons :=
  x.withdrawEvent.setSender (.awaiting { retry := retry, captured := captured, timer := false, flight := .claiming })

section
variable {v : State} {x : Commons} {w : Awaiting} {l : Listener} (retry : Nat)

theorem resend_reclaims (hsender : x.events.sender = .awaiting w) (hlistener : x.events.listener = some l)
    (hup : (v.port l.port).oper = .up) : resend v.env retry x = claimEvent v.env (reclaimed retry w.captured x) := by
  have hkept : x.withdrawEvent.events.sender.head = some (w.retry, w.captured) := by
    rw [withdrawEvent_head, hsender]
    rfl
  obtain ⟨u, hu, -, hcaptured⟩ := Sender.awaiting_of_head hkept
  have hlistener' : x.withdrawEvent.events.listener = some l := by simpa using hlistener
  have hup' : v.env.up l.port = true := by simp [env_up, hup]
  simp only [resend, hu, hlistener', if_pos hup', reclaimed, hcaptured]

theorem claimEvent_head (e : Env) (x : Commons) : (claimEvent e x).events.sender.head = x.events.sender.head := by
  unfold claimEvent
  split
  · rfl
  · exact grantEvent_head e x

/-- A head that is sent again keeps its captured value. -/
theorem resend_head (hsender : x.events.sender = .awaiting w) (hlistener : x.events.listener = some l)
    (hup : (v.port l.port).oper = .up) :
    (resend v.env retry x).events.sender.head = some (retry, w.captured) := by
  rw [resend_reclaims retry hsender hlistener hup, claimEvent_head]
  rfl

/-- Its report joins the queue where no response waits for cells or room, and there are both. -/
theorem resend_joins {r : EventRecord} {rest : List EventRecord} (hsender : x.events.sender = .awaiting w)
    (hlistener : x.events.listener = some l) (hup : (v.port l.port).oper = .up) (hqueue : x.events.queue = r :: rest)
    (hclaims : ∀ b, x.output ≠ .claiming b) (hoffers : ∀ b, x.output ≠ .offering b)
    (hroom : (x.mgmtOut l.port).length < 4) (hcell : 1 ≤ x.pool.freeReserve) :
    (resend v.env retry x).events.sender =
        .awaiting { retry := retry, captured := w.captured, timer := true, flight := .queued } ∧
      (resend v.env retry x).mgmtOut l.port =
        x.mgmtOut l.port ++ [eventReport l v.endpoint.nodeAddress r w.captured] := by
  let z := reclaimed retry w.captured x
  have houtput : z.output = x.output := by simp [z, reclaimed]
  have hout : z.mgmtOut l.port = x.mgmtOut l.port := by cases hp : l.port <;> simp [z, reclaimed, mgmtOut]
  have hnone : z.responseClaimWaits = false := by
    rw [Bool.eq_false_iff, Ne, responseClaimWaits_iff, houtput]
    exact fun ⟨b, hb⟩ => hclaims b hb
  have hfirst : z.responseOfferWaits l.port = false := by
    rw [Bool.eq_false_iff, Ne, responseOfferWaits_iff, houtput]
    exact fun ⟨b, hb, _⟩ => hoffers b hb
  have hgrant := grantEvent_joins (v := v) (x := z) (r := r) (rest := rest) (l := l) rfl rfl
    (by simpa [z, reclaimed] using hlistener) (by simpa [z, reclaimed] using hqueue) hup
    (hcell.trans (withdrawEvent_reserve_le x)) (by rwa [hout]) hfirst
  have hsent : resend v.env retry x = (z.takeReserve 1).admitEvent
      { retry := retry, captured := w.captured, timer := false, flight := .claiming }
      (eventReport l v.endpoint.nodeAddress r w.captured) := by
    rw [resend_reclaims retry hsender hlistener hup, claimEvent, if_neg (by rw [hnone]; exact Bool.false_ne_true),
      hgrant]
  have hsame : (z.takeReserve 1).mgmtOut l.port = z.mgmtOut l.port := by cases l.port <;> rfl
  rw [hsent]
  exact ⟨rfl, by rw [admitEvent_mgmtOut (p := l.port) _ _ _ rfl, hsame, hout]⟩

end

/-! ### What LINK_UP and the send that it resumes leave (R122, R146, R169) -/

/-- The send that a port which entered UP resumes, `idle` being whether the sender was idle before. -/
def resumed (e : Env) (p : Port) (idle : Bool) (x : Commons) : Commons :=
  if idle then trySend e x else resumeSender e p x

theorem resumed_frame (e : Env) (p : Port) (idle : Bool) (x : Commons) :
    (resumed e p idle x).events.queue = x.events.queue ∧ (resumed e p idle x).events.nextSeq = x.events.nextSeq ∧
      (resumed e p idle x).events.lost = x.events.lost ∧ (resumed e p idle x).mgmt = x.mgmt ∧
      (resumed e p idle x).frames = x.frames ∧ (resumed e p idle x).output = x.output := by
  unfold resumed resumeSender
  split
  · simp
  · split
    · split <;> simp
    · simp

end Commons

theorem State.enterUp_commons (s : State) (p : Port) : (s.enterUp p).commons =
    Commons.resumed s.env p (decide (s.commons.events.sender = .idle))
      (Commons.post s.env (.linkUp p) s.commons) := rfl

section
variable (s : State) (p : Port)

theorem State.enterUp_blocks : (∀ q, (s.enterUp p).port q = s.port q) ∧ (s.enterUp p).endpoint = s.endpoint ∧
    (s.enterUp p).classifier = s.classifier ∧ (s.enterUp p).tables = s.tables ∧ (s.enterUp p).verify = s.verify ∧
    (s.enterUp p).meters = s.meters :=
  ⟨fun q => by cases q <;> rfl, rfl, rfl, rfl, rfl, rfl⟩

/-- Entering UP posts LINK_UP, and leaves the stored frames and the response in hand. -/
theorem State.enterUp_posted : Posted s (s.enterUp p) (.linkUp p) ∧
    (s.enterUp p).commons.frames = s.commons.frames ∧ (s.enterUp p).commons.output = s.commons.output := by
  have haccepted := Commons.accept_accepted s (.linkUp p) s.commons
  obtain ⟨hqueue, hnext, hlost, hmgmt, hframes, houtput⟩ := Commons.resumed_frame s.env p
    (decide (s.commons.events.sender = .idle)) (Commons.post s.env (.linkUp p) s.commons)
  rw [← State.enterUp_commons] at hqueue hnext hlost hmgmt hframes houtput
  refine ⟨?_, hframes.trans (by simp), houtput.trans (by simp)⟩
  simp only [Commons.post, Commons.trySend_frame] at hqueue hnext hlost hmgmt
  unfold Posted Accepted at *
  rw [hqueue, hnext, hlost, hmgmt]
  exact haccepted

variable {s p} {l : Listener}

/-- An idle sender begins a send with the post of LINK_UP itself (R172). -/
theorem State.enterUp_idle (hup : (s.port p).oper = .up) (hlistener : s.commons.events.listener = some l)
    (hp : l.port = p) (hidle : s.commons.events.sender = .idle) :
    (s.enterUp p).commons = Commons.post s.env (.linkUp p) s.commons ∧
      (s.enterUp p).commons.events.sender.head = some (0, (s.enterUp p).commons.events.lost) := by
  subst hp
  let z := Commons.accept s.env (.linkUp l.port) s.commons
  obtain ⟨r, rest, hqueue⟩ := Commons.accept_nonempty s.env (.linkUp l.port) s.commons
  have hbegins := Commons.trySend_begins s z l r rest (by simpa [z] using hidle) (by simpa [z] using hlistener) hup
    hqueue
  have hhead : (Commons.trySend s.env z).events.sender.head = some (0, z.events.lost) := by
    rw [hbegins]
    dsimp only
    split
    · rfl
    · split <;> rfl
  have hbusy : (Commons.trySend s.env z).events.sender ≠ .idle := fun h => by
    rw [h] at hhead
    cases hhead
  have hsame : (s.enterUp l.port).commons = Commons.post s.env (.linkUp l.port) s.commons := by
    rw [State.enterUp_commons, Commons.resumed, if_pos (decide_eq_true hidle)]
    exact Commons.trySend_stays s _ (.inl hbusy)
  refine ⟨hsame, ?_⟩
  rw [hsame]
  exact hhead.trans (by simp [Commons.post, z])

/-- A head that awaits its acknowledgement is sent again with the retry count 0 (R175). -/
theorem State.enterUp_awaiting {w : Awaiting} (hlistener : s.commons.events.listener = some l) (hp : l.port = p)
    (hsender : s.commons.events.sender = .awaiting w) : (s.enterUp p).commons =
      Commons.resend s.env 0 (Commons.accept s.env (.linkUp p) s.commons) := by
  have hsame : Commons.post s.env (.linkUp p) s.commons = Commons.accept s.env (.linkUp p) s.commons :=
    Commons.trySend_stays s _ (.inl (by simp [hsender]))
  have hsender' : (Commons.accept s.env (.linkUp p) s.commons).events.sender = .awaiting w := by simpa using hsender
  have hlistens : (Commons.accept s.env (.linkUp p) s.commons).listensOn p = true :=
    Commons.listensOn_of_listener (by simpa using hlistener) hp
  rw [State.enterUp_commons, hsame, Commons.resumed, if_neg (by simp [hsender])]
  simp only [Commons.resumeSender, hsender', if_pos hlistens]

/-! ### The report that joins the queue at once (R131, R140, R172) -/

/-- No response waits for cells or for room, and port `p` has both for a report. -/
def Commons.RoomAt (x : Commons) (p : Port) : Prop :=
  (∀ b, x.output ≠ .claiming b) ∧ (∀ b, x.output ≠ .offering b) ∧ (x.mgmtOut p).length < 4 ∧ 1 ≤ x.pool.freeReserve

/-- From `s` to `t` the report of `r` has joined the queue of the listener `l`. -/
def State.Reported (s t : State) (l : Listener) (r : EventRecord) (captured : Word16) : Prop :=
  t.commons.events.sender = .awaiting { retry := 0, captured := captured, timer := true, flight := .queued } ∧
    t.commons.mgmtOut l.port = s.commons.mgmtOut l.port ++ [eventReport l s.endpoint.nodeAddress r captured]

theorem State.enterUp_resends {w : Awaiting} (hup : (s.port p).oper = .up)
    (hlistener : s.commons.events.listener = some l) (hp : l.port = p)
    (hsender : s.commons.events.sender = .awaiting w) :
    (s.enterUp p).commons.events.sender.head = some (0, w.captured) ∧
      ∀ (r : EventRecord) (rest : List EventRecord), s.commons.events.queue = r :: rest → s.commons.RoomAt p →
        s.Reported (s.enterUp p) l r w.captured := by
  subst hp
  have hsender' : (Commons.accept s.env (.linkUp l.port) s.commons).events.sender = .awaiting w := by
    simpa using hsender
  have hlistener' : (Commons.accept s.env (.linkUp l.port) s.commons).events.listener = some l := by
    simpa using hlistener
  have hout : (Commons.accept s.env (.linkUp l.port) s.commons).mgmtOut l.port = s.commons.mgmtOut l.port := by
    cases hport : l.port <;> simp [Commons.mgmtOut]
  unfold State.Reported
  rw [State.enterUp_awaiting hlistener rfl hsender]
  refine ⟨Commons.resend_head 0 hsender' hlistener' hup, fun r rest hqueue ⟨hclaims, hoffers, hroom, hcell⟩ => ?_⟩
  obtain ⟨more, hfirst⟩ := Commons.accept_keeps_first s.env (.linkUp l.port) hqueue
  rw [← hout]
  exact Commons.resend_joins 0 hsender' hlistener' hup hfirst (by simpa using hclaims) (by simpa using hoffers)
    (by rwa [hout]) (by simpa using hcell)

theorem State.enterUp_sends (hup : (s.port p).oper = .up) (hlistener : s.commons.events.listener = some l)
    (hp : l.port = p) (hidle : s.commons.events.sender = .idle) :
    (s.enterUp p).commons.events.sender.head = some (0, (s.enterUp p).commons.events.lost) ∧
      ∀ (r : EventRecord) (rest : List EventRecord), (s.enterUp p).commons.events.queue = r :: rest →
        s.commons.RoomAt p → s.Reported (s.enterUp p) l r (s.enterUp p).commons.events.lost := by
  obtain ⟨hsame, hhead⟩ := State.enterUp_idle hup hlistener hp hidle
  refine ⟨hhead, fun r rest hqueue ⟨hclaims, hoffers, hroom, hcell⟩ => ?_⟩
  subst hp
  unfold State.Reported
  rw [hsame] at hqueue ⊢
  obtain ⟨-, -, -, hsend⟩ := Commons.post_postedOn s (.linkUp l.port) s.commons
  obtain ⟨-, -, hgranted⟩ := hsend l r rest hidle hlistener hup hqueue
  obtain ⟨-, -, hjoins⟩ := hgranted hclaims hcell
  refine hjoins ?_
  rintro (hfull | ⟨b, hb, -⟩)
  · omega
  · exact hoffers b hb

end

end Sys2Proof.Machine
end

section
/-! PROOF. A change of the link pin or of port_enable, and the restart that it may settle (R121 to R123, R149, R165). -/

set_option Elab.async false

namespace Sys2Proof.Machine

open Sys2Proof.Safety

theorem PortUnit.oper_up_iff (u : PortUnit) : u.oper = .up ↔ u.enabled = true ∧ u.link = .up := by
  unfold PortUnit.oper
  split
  next henabled =>
    split
    next hlink => simp [henabled, hlink]
    next hlink => simp [hlink]
  next henabled => simp [henabled]

section
variable {s : State} {p : Port} {u : PortUnit}

/-! ### The three ways of a change (R121) -/

theorem State.changePort_leaves (hup : (s.port p).oper = .up) (hdown : u.oper ≠ .up) :
    s.changePort p u = (s.setPort p u).leaveUp p u.oper :=
  if_pos ⟨hup, hdown⟩

theorem State.changePort_enters (hdown : (s.port p).oper ≠ .up) (hup : u.oper = .up) :
    s.changePort p u = (s.setPort p u).enterUp p :=
  (if_neg fun h => hdown h.1).trans (if_pos ⟨hdown, hup⟩)

theorem State.changePort_stays (h : (s.port p).oper = .up ↔ u.oper = .up) : s.changePort p u = s.setPort p u :=
  (if_neg fun hleaves => hleaves.2 (h.mp hleaves.1)).trans (if_neg fun henters => henters.1 (h.mpr henters.2))

theorem State.noRestartDue_of_noRestart {t : State} (h : t.commons.NoRestart) : NoRestartDue t := by
  obtain ⟨-, hdue, -⟩ := h
  exact ⟨hdue .light, hdue .full⟩

theorem execLinkPinChange_eq {level : LinkState} (h : NoRestartDue (s.linkPin p level)) :
    exec (.linkPinChange p level) s = .next (s.linkPin p level) :=
  congrArg Host.Outcome.next (State.settleRestart_none _ h)

theorem execLinkPinChange_stays {level : LinkState} (hdue : NoRestartDue s)
    (h : (s.port p).oper = .up ↔ { s.port p with link := level }.oper = .up) :
    exec (.linkPinChange p level) s = .next (s.setPort p { s.port p with link := level }) := by
  have hsame : s.linkPin p level = s.setPort p { s.port p with link := level } := State.changePort_stays h
  rw [← hsame]
  refine execLinkPinChange_eq ?_
  rw [hsame]
  unfold NoRestartDue
  rwa [State.setPort_commons]

end

/-! ### A restart that the pin settles (R149, R165) -/

/-- A restart of kind `k` hangs on a response that port `p` has yet to send. -/
def State.RestartsThrough (s : State) (p : Port) (k : RestartKind) : Prop :=
  (s.commons.output = .restartPending k ∧ ∃ b : Built, b.builder = .response (some k) ∧
    ((∃ w, (s.port p).tx = some { source := .built b, wire := w }) ∨ b ∈ s.commons.mgmtOut p)) ∨
  ∃ b : Built, b.builder = .response (some k) ∧ b.port = p ∧
    (s.commons.output = .claiming b ∨ s.commons.output = .offering b)

section
variable {s : State} {p : Port} {k : RestartKind}

theorem State.linkPin_down (h : (s.port p).oper = .up) :
    s.linkPin p .down = (s.setPort p { s.port p with link := .down }).leaveUp p .down ∧
      ((s.setPort p { s.port p with link := .down }).port p).oper ≠ .up := by
  obtain ⟨henabled, -⟩ := (PortUnit.oper_up_iff _).mp h
  have hoper : { s.port p with link := .down }.oper = .down := by simp [PortUnit.oper, henabled]
  have hdown : { s.port p with link := .down }.oper ≠ .up := by rw [hoper]; nofun
  refine ⟨?_, by rwa [State.setPort_port]⟩
  rw [State.linkPin, State.changePort_leaves h hdown, hoper]

/-- The fall of the link settles the response, and the restart falls due. -/
theorem State.linkPin_due (hup : (s.port p).oper = .up) (h : s.RestartsThrough p k) :
    (s.linkPin p .down).commons.output = .restartDue k := by
  obtain ⟨hleft, hdown⟩ := State.linkPin_down hup
  rw [hleft]
  refine (congrArg Prod.fst (State.leaveUp_answer _ p .down)).trans ?_
  rcases h with ⟨hpending, b, hb, hplace⟩ | ⟨b, hb, hport, hwaits⟩
  · refine State.granted_due hb hdown (by rwa [State.setPort_commons]) ?_
    rwa [State.setPort_port, State.setPort_commons]
  · refine (congrArg Prod.fst (State.granted_loses (by rwa [State.setPort_commons]) hport)).trans ?_
    simp [Commons.lostAnswer, Commons.outputAfterLoss, hb]

theorem State.linkPin_full (hup : (s.port p).oper = .up) (straps : Straps) :
    (s.linkPin p .down).fullRestart straps =
      { State.afterReset straps (if p = .a then .down else s.portA.link)
          (if p = .b then .down else s.portB.link) .full with pending := s.pending } := by
  obtain ⟨hleft, hdown⟩ := State.linkPin_down hup
  obtain ⟨hpending, hother, -⟩ := State.leaveUp_frame (s.setPort p { s.port p with link := .down }) p .down
  have hport := State.leaveUp_port .down hdown
  have hlink : ((s.linkPin p .down).port p).link = .down := by
    rw [hleft, hport, (PortUnit.emptied_link _ _).2.1, State.setPort_port]
  have hother' : (s.linkPin p .down).port (otherPort p) = s.port (otherPort p) := by
    rw [hleft, hother, State.setPort_port_other]
  have hpending' : (s.linkPin p .down).pending = s.pending := by
    rw [hleft, hpending, State.setPort_pending]
  rw [State.fullRestart, hpending']
  cases p with
  | a =>
    have hA : (s.linkPin .a .down).portA.link = .down := hlink
    have hB : (s.linkPin .a .down).portB = s.portB := hother'
    rw [hA, hB]
    rfl
  | b =>
    have hA : (s.linkPin .b .down).portA = s.portA := hother'
    have hB : (s.linkPin .b .down).portB.link = .down := hlink
    rw [hA, hB]
    rfl

/-! ### A LIGHT restart (R149) -/

theorem Commons.acceptAll_kinds (e : Env) (ks : List EventKind) {x : Commons} (h : x.kinds.length + ks.length ≤ 16) :
    (ks.foldl (fun y k => Commons.accept e k y) x).kinds = x.kinds ++ ks := by
  induction ks generalizing x with
  | nil => exact (List.append_nil _).symm
  | cons k ks ih =>
    rw [List.length_cons] at h
    have hone := Commons.accept_kinds e x k (by rw [← Commons.kinds_length]; omega)
    rw [List.foldl_cons, ih (by rw [hone, List.length_append, List.length_singleton]; omega), hone, List.append_assoc]
    rfl

theorem State.lightRestart_kinds {v : State} (h : v.commons.kinds.length + v.lightEvents.length ≤ 16) :
    v.lightRestart.commons.kinds = v.commons.kinds ++ v.lightEvents := by
  have hkept : v.lightBlocks.commons.kinds = v.commons.kinds := by
    simp only [Commons.kinds, State.lightBlocks, Commons.lightRestart, EventUnit.lightRestart]
  have haccepted := Commons.acceptAll_kinds v.lightBlocks.env v.lightEvents (x := v.lightBlocks.commons)
    (by rwa [hkept])
  rw [State.lightRestart, State.onCommons_commons, ← hkept, ← haccepted, Commons.kinds, Commons.kinds]
  simp only [Commons.trySend_frame]

theorem State.lightRestart_idle (v : State) : v.lightRestart.commons.output = .idle := by
  obtain ⟨-, -, -, -, -, houtput, -⟩ :=
    Commons.acceptAll_frame v.lightBlocks.env v.lightEvents v.commons.lightRestart
  rw [State.lightRestart, State.onCommons_commons]
  simp only [Commons.trySend_frame]
  exact houtput

theorem State.lightRestart_port_oper (v : State) (q : Port) : (v.lightRestart.port q).oper = (v.port q).oper := by
  cases q <;> rfl

/-- The end of a session that a LIGHT restart finds open (R149). -/
def State.openEnds (v : State) : List EventKind :=
  match v.endpoint.session with
  | some o => [.sessionEnded .restart o.node o.number]
  | none => []

/-- The pool's event of a LIGHT restart (R135). -/
theorem State.lightEvents_eq {v : State} (h : v.commons.pool.Agrees) : v.lightEvents =
    [.restarted .light] ++ v.openEnds ++ if v.commons.pool.low then [.poolOk 512] else [] := by
  obtain ⟨hmarks, hhigh, -⟩ := h
  have hlow : v.commons.pool.lightRestart.low = false := by
    refine decide_eq_false ?_
    have h512 : Config.generalCells = 512 := rfl
    omega
  rw [State.lightEvents, hlow, Bool.not_false, Bool.and_true]
  rfl

end

end Sys2Proof.Machine
end

section
/-! PROOF. Every clause of a change of the link pin and of port_enable (R121 to R123, R149, R165). -/

set_option Elab.async false

namespace Sys2Proof.Machine

open Sys2Proof.Safety

/-- The end of a session that the fall of port `p` has left open, by the LIGHT restart that follows (R149). -/
def State.restartNotices (s : State) (p : Port) : List EventKind :=
  match s.endpoint.session with
  | some o => if o.port = p then [] else [.sessionEnded .restart o.node o.number]
  | none => []

section
variable {s : State} {p : Port}

theorem State.notices_length (s : State) (p : Port) (o : OperState) :
    (s.linkNotices p o).length + (s.restartNotices p).length ≤ 2 := by
  unfold State.linkNotices State.restartNotices
  cases s.endpoint.session with
  | none => simp
  | some w => by_cases hw : w.port = p <;> simp [hw]

theorem State.setPort_linkNotices (s : State) (p : Port) (u : PortUnit) (o : OperState) :
    (s.setPort p u).linkNotices p o = s.linkNotices p o := by
  rw [State.linkNotices, State.linkNotices, State.setPort_endpoint]

theorem State.linkPin_endpoint (hup : (s.port p).oper = .up) : (s.linkPin p .down).endpoint =
    { s.endpoint with session := s.endpoint.session.filter fun w => decide (w.port ≠ p) } := by
  obtain ⟨hleft, -⟩ := State.linkPin_down hup
  obtain ⟨-, -, -, -, -, -, hendpoint⟩ := State.leaveUp_frame (s.setPort p { s.port p with link := .down }) p .down
  rw [hleft, hendpoint, State.setPort_endpoint]

theorem State.linkPin_restartNotices (hup : (s.port p).oper = .up) :
    (s.linkPin p .down).openEnds = s.restartNotices p := by
  rw [State.openEnds, State.linkPin_endpoint hup, State.restartNotices]
  cases s.endpoint.session with
  | none => rfl
  | some o => by_cases ho : o.port = p <;> simp [ho, Option.filter_some]

/-- The events of a LIGHT restart that the fall of a link settles: the pool posts POOL_OK at most once, when cells
return or when the restart frees them all. -/
theorem State.linkPin_light_kinds (hup : (s.port p).oper = .up) (hagrees : PoolAgrees s)
    (hroom : s.commons.kinds.length ≤ 12) : ∃ early late : List EventKind,
      (early = [] ∨ ∃ n, early = [.poolOk n]) ∧ (late = [] ∨ late = [.poolOk 512]) ∧
      (s.linkPin p .down).lightRestart.commons.kinds = s.commons.kinds ++ early ++ s.linkNotices p .down ++
        [.restarted .light] ++ s.restartNotices p ++ late := by
  obtain ⟨hleft, -⟩ := State.linkPin_down hup
  have hshort := State.notices_length s p .down
  obtain ⟨hafter, early, hearly, hkinds⟩ := State.leaveUp_kinds (s := s.setPort p { s.port p with link := .down })
    (p := p) .down (by unfold PoolAgrees; rwa [State.setPort_commons]) (by rw [State.setPort_commons]; omega)
  rw [← hleft] at hafter hearly hkinds
  rw [State.setPort_commons, State.setPort_linkNotices] at hkinds
  have hevents := State.lightEvents_eq hafter
  rw [State.linkPin_restartNotices hup] at hevents
  generalize hlate : (if (s.linkPin p .down).commons.pool.low then [EventKind.poolOk 512] else []) = late at hevents
  have honce : early.length + late.length ≤ 1 := by
    rcases hearly with rfl | ⟨⟨n, rfl⟩, hlow⟩
    · rw [← hlate]
      split <;> simp
    · rw [← hlate, if_neg (by rw [hlow]; exact Bool.false_ne_true)]
      simp
  refine ⟨early, late, hearly.imp_right And.left, ?_, ?_⟩
  · rw [← hlate]
    split
    · exact .inr rfl
    · exact .inl rfl
  · rw [State.lightRestart_kinds, hkinds, hevents]
    · simp only [List.append_assoc]
    · rw [hkinds, hevents]
      simp only [List.length_append, List.length_singleton]
      omega

end

end Sys2Proof.Machine

namespace Sys2Proof.Settled

open Sys2Proof.Machine Sys2Proof.Safety

/-- Settles O44: the effects of leaving UP are followed one after another, from the withdrawal of the claims to the head
that is held; entering UP is the post of LINK_UP and the send that it begins or resumes; a restart whose response
the fall of the link settles falls due among those effects and takes effect after them. -/
theorem linkPinMovesThePort : Obligations.LinkPinMovesThePort := by
  unfold Obligations.LinkPinMovesThePort
  intro p s hdue leaves noRestart restarts ended entered left switched
  have hleaves : leaves → (s.port p).oper = .up := (PortUnit.oper_up_iff _).mpr
  have hplain : noRestart → s.commons.NoRestart := fun ⟨hpending, hbuilt⟩ =>
    ⟨hpending, fun k => not_due_of_noRestartDue hdue k, hbuilt⟩
  have henters : ∀ u : PortUnit, (s.port p).oper ≠ .up → u.oper = .up →
      NoRestartDue (s.changePort p u) ∧ (s.changePort p u).port p = u ∧ entered (s.changePort p u) := by
    intro u hdown hup
    rw [State.changePort_enters hdown hup]
    obtain ⟨hports, hendpoint, hclassifier, htables, hverify, hmeters⟩ := State.enterUp_blocks (s.setPort p u) p
    obtain ⟨hposted, hframes, houtput⟩ := State.enterUp_posted (s.setPort p u) p
    have hup' : ((s.setPort p u).port p).oper = .up := by rwa [State.setPort_port]
    have hcommons : (s.setPort p u).commons = s.commons := State.setPort_commons s p u
    have hsame : (s.setPort p u).endpoint = s.endpoint := State.setPort_endpoint s p u
    have hreported : ∀ {t : State} {l : Listener} {r : EventRecord} {captured : Word16},
        (s.setPort p u).Reported t l r captured → s.Reported t l r captured := fun h => by
      rwa [State.Reported, hcommons, hsame] at h
    refine ⟨by rwa [NoRestartDue, houtput, hcommons], by rw [hports, State.setPort_port],
      by rw [hports, State.setPort_port, hup],
      by rw [hports, State.setPort_port_other], hendpoint.trans hsame, by rw [hclassifier, State.setPort_classifier],
      by rw [htables, State.setPort_tables], by rw [hverify, State.setPort_verify],
      by rw [hmeters, State.setPort_meters], by rw [hframes, hcommons], ?_, ?_⟩
    · simpa only [Posted, Accepted, hcommons, hsame, State.setPort_tables] using hposted
    · rintro l hlistener rfl room sent
      refine ⟨fun w hsender => ?_, fun hidle => ?_⟩
      · obtain ⟨hhead, hjoins⟩ := State.enterUp_resends hup' (by rwa [hcommons]) rfl (by rwa [hcommons])
        rw [hcommons] at hjoins
        exact ⟨Sender.awaiting_of_head hhead, fun r rest hqueue hroom => hreported (hjoins r rest hqueue hroom)⟩
      · obtain ⟨hhead, hjoins⟩ := State.enterUp_sends hup' (by rwa [hcommons]) rfl (by rwa [hcommons])
        rw [hcommons] at hjoins
        exact ⟨Sender.awaiting_of_head hhead, fun r rest hqueue hroom => hreported (hjoins r rest hqueue hroom)⟩
  have hleft : ∀ (v : Bool) (l : LinkState), { s.port p with enabled := v, link := l }.oper ≠ .up → leaves →
      noRestart → let t := s.changePort p { s.port p with enabled := v, link := l }
      (t.port p).enabled = v ∧ (t.port p).link = l ∧ NoRestartDue t ∧
        left t { s.port p with enabled := v, link := l }.oper := by
    intro v l hdown hup hnone t
    let u : PortUnit := { s.port p with enabled := v, link := l }
    have ht : t = (s.setPort p u).leaveUp p u.oper := State.changePort_leaves (hleaves hup) hdown
    have hdown' : ((s.setPort p u).port p).oper ≠ .up := by rwa [State.setPort_port]
    have hcommons : (s.setPort p u).commons = s.commons := State.setPort_commons s p u
    have hsame : (s.setPort p u).endpoint = s.endpoint := State.setPort_endpoint s p u
    have hplain' : (s.setPort p u).commons.NoRestart := by rw [hcommons]; exact hplain hnone
    obtain ⟨-, hother, hclassifier, htables, hverify, hmeters, hendpoint⟩ :=
      State.leaveUp_frame (s.setPort p u) p u.oper
    have hport : t.port p = u.emptied (s.commons.mgmtOut p).length := by
      rw [ht, State.leaveUp_port u.oper hdown', State.setPort_port, hcommons]
    obtain ⟨henabled, hlink, hoper⟩ := PortUnit.emptied_link u (s.commons.mgmtOut p).length
    have hanswer : t.commons.answer = ((s.setPort p u).granted p).commons.answer := by
      rw [ht, State.leaveUp_answer]
    rw [← ht] at hother hclassifier htables hverify hmeters hendpoint
    refine ⟨by rw [hport, henabled], by rw [hport, hlink], ?_, by rw [hport, hoper], ?_, ?_, fun c => ?_, ?_, ?_, ?_,
      fun k habort hcount => ?_, by rw [hother, State.setPort_port_other], by rw [hendpoint, hsame],
      by rw [hendpoint, hsame], fun b hb hp => ?_, fun hidle => ?_, fun k hk hp => ?_, fun hagrees hroom => ?_,
      by rw [hclassifier, State.setPort_classifier], by rw [htables, State.setPort_tables],
      by rw [hverify, State.setPort_verify], by rw [hmeters, State.setPort_meters]⟩
    · exact State.noRestartDue_of_noRestart
        ((State.granted_noRestart (p := p) hplain').of_output (congrArg Prod.fst hanswer))
    · rw [hport]
      rfl
    · rw [hport]
      rfl
    · rw [hport, PortUnit.emptied_queue]
      rfl
    · rw [ht]
      exact (State.leaveUp_empty hdown' u.oper).2
    · rw [hport, PortUnit.emptied_txAbort]
      rfl
    · rw [hport, PortUnit.emptied_linkDown]
      rfl
    · rw [hport, PortUnit.emptied_counter u _ habort hcount]
      rfl
    · have hlost := hanswer.trans (State.granted_loses (by rwa [hcommons]) hp)
      rw [hcommons] at hlost
      have houtput : t.commons.output = Commons.outputAfterLoss b.builder := congrArg Prod.fst hlost
      exact ⟨houtput.trans (Commons.outputAfterLoss_of_plain fun k => hnone.2 b k hb), congrArg Prod.snd hlost⟩
    · have hkept := hanswer.trans (State.granted_idle (by rwa [hcommons]))
      rw [hcommons] at hkept
      exact ⟨(congrArg Prod.fst hkept).trans hidle, congrArg Prod.snd hkept⟩
    · rw [ht, State.leaveUp_sender u.oper hdown' (by rwa [hcommons]) hp, hcommons]
      cases s.commons.events.sender <;> rfl
    · obtain ⟨-, early, hearly, hkinds⟩ := State.leaveUp_kinds (s := s.setPort p u) (p := p) u.oper
        (by unfold PoolAgrees; rwa [hcommons]) (by rwa [hcommons, Commons.kinds_length])
      rw [← ht, hcommons, State.setPort_linkNotices] at hkinds
      exact ⟨early, hearly.imp_right And.left, hkinds⟩
  have hstays : ∀ v : Bool, (s.port p).link = .down ∨ (s.port p).enabled = v →
      ((s.port p).oper = .up ↔ { s.port p with enabled := v }.oper = .up) := fun v hv => by
    simp only [PortUnit.oper_up_iff]
    rcases hv with hlink | henabled
    · simp [hlink]
    · rw [henabled]
  refine ⟨fun henabled hlink => ?_, fun henabled hlink => ?_, fun hup hnone => ?_, fun hup hnone => ?_,
    fun v hv => State.changePort_stays (hstays v hv), fun l hl => ?_, fun l hdisabled => ?_, fun hup hrestarts => ?_,
    fun hup hrestarts => ?_⟩
  · obtain ⟨hrest, hport, hentered⟩ := henters { s.port p with link := .up }
      (by rw [Ne, PortUnit.oper_up_iff, hlink]; nofun) ((PortUnit.oper_up_iff _).mpr ⟨henabled, rfl⟩)
    exact ⟨_, execLinkPinChange_eq hrest, hport, hentered⟩
  · exact (henters { s.port p with enabled := true } (by rw [Ne, PortUnit.oper_up_iff, henabled]; nofun)
      ((PortUnit.oper_up_iff _).mpr ⟨rfl, hlink⟩)).2
  · have hoper : { s.port p with link := .down }.oper = .down := by simp [PortUnit.oper, hup.1]
    obtain ⟨henabled, hlink, hrest, hmoved⟩ := hleft (s.port p).enabled .down (by rw [hoper]; nofun) hup hnone
    rw [hoper] at hmoved
    exact ⟨_, execLinkPinChange_eq hrest, henabled.trans hup.1, hlink, hmoved⟩
  · have hoper : { s.port p with enabled := false }.oper = .disabled := by simp [PortUnit.oper]
    obtain ⟨henabled, hlink, -, hmoved⟩ := hleft false (s.port p).link (by rw [hoper]; nofun) hup hnone
    rw [hoper] at hmoved
    exact ⟨henabled, hlink.trans hup.2, hmoved⟩
  · subst hl
    exact (execLinkPinChange_stays hdue Iff.rfl).trans (congrArg Host.Outcome.next (State.setPort_same s p))
  · exact execLinkPinChange_stays hdue (by simp [PortUnit.oper_up_iff, hdisabled])
  · intro after
    have hrestart := State.linkPin_due (hleaves hup) hrestarts
    refine ⟨?_, fun straps => ?_⟩
    · exact (congrArg Host.Outcome.next (State.settleRestart_full s.straps hrestart)).trans
        (congrArg Host.Outcome.next (State.linkPin_full (hleaves hup) s.straps))
    · exact congrArg Host.Outcome.next ((if_pos hrestart).trans (State.linkPin_full (hleaves hup) straps))
  · have hrestart := State.linkPin_due (hleaves hup) hrestarts
    obtain ⟨hfell, hdown⟩ := State.linkPin_down (hleaves hup)
    refine ⟨(s.linkPin p .down).lightRestart, congrArg Host.Outcome.next (State.settleRestart_light s.straps hrestart),
      congrArg Host.Outcome.next (if_pos hrestart), ?_, State.lightRestart_idle _, ?_, fun hagrees hroom => ?_⟩
    · rw [State.lightRestart_port_oper, hfell, State.leaveUp_port .down hdown, (PortUnit.emptied_link _ _).2.2,
        State.setPort_port]
      simp [PortUnit.oper, hup.1]
    · have hendpoint := State.linkPin_endpoint (hleaves hup)
      have hcleared : (s.linkPin p .down).lightRestart.endpoint =
        { (s.linkPin p .down).endpoint with commands := [], session := none } := rfl
      rw [hcleared, hendpoint]
    · exact State.linkPin_light_kinds (hleaves hup) hagrees (by rwa [Commons.kinds_length])

end Sys2Proof.Settled
end

section
/-! PROOF. Transmissions: the queue that is served, the bytes that are sent, and what the end of a transmission returns
(R132, R133, R141 to R144). -/

set_option Elab.async false

namespace Sys2Proof.Machine

open Sys2Proof.Safety

namespace Commons

/-! ### Offers that join behind the head (R140) -/

theorem admitWaitingResponse_grows (e : Env) (p : Port) (x : Commons) : Grows x (admitWaitingResponse e p x) := by
  unfold admitWaitingResponse
  split
  · split
    · exact (x.pushMgmtOut_grows _).trans (.of_eq rfl rfl)
    · exact .refl x
  · exact .refl x

theorem admitOffers_grows (e : Env) (p : Port) (x : Commons) : Grows x (admitOffers e p x) :=
  ((admitWaitingResponse_grows e p x).trans (admitWaitingEvent_grows e p _)).trans (admitWaitingPunt_grows e p _)

/-! ### A holder that is released (R132, R133) -/

/-- The first frame of its name loses a holder, and goes with its last one. -/
theorem dropHolder_append {id : Nat} {before : List RxFrame} {f : RxFrame} (after : List RxFrame)
    (hbefore : ∀ g ∈ before, g.id ≠ id) (hf : f.id = id) :
    dropHolder id (before ++ f :: after) =
      if f.holders ≤ 1 then (before ++ after, f.record.cellList)
      else (before ++ { f with holders := f.holders - 1 } :: after, []) := by
  induction before with
  | nil => simp [dropHolder, hf]
  | cons g rest ih =>
    have hg : g.id ≠ id := hbefore g List.mem_cons_self
    have hrest := ih fun i hi => hbefore i (List.mem_cons_of_mem _ hi)
    rw [List.cons_append, dropHolder, if_neg hg, hrest]
    split <;> rfl

section
variable {x : Commons} {id : Nat} {f : RxFrame}

/-- A frame that keeps a holder keeps its cells. -/
theorem release_shared (e : Env) (hf : x.frame? id = some f) (hmore : 2 ≤ f.holders) :
    release e id x = { x with frames := (dropHolder id x.frames).1 } := by
  have hdrop : (dropHolder id x.frames).2 = [] := by
    rw [dropHolder_of_frame? hf, if_neg (by omega)]
  exact if_pos hdrop

/-- The cells of a frame that loses its last holder return to the pool. -/
theorem release_frees (e : Env) (hf : x.frame? id = some f) (hlast : f.holders ≤ 1)
    (hcells : f.record.cellList ≠ []) :
    release e id x = giveGeneral e f.record.cellList { x with frames := (dropHolder id x.frames).1 } := by
  have hdrop : (dropHolder id x.frames).2 = f.record.cellList := by
    rw [dropHolder_of_frame? hf, if_pos hlast]
  rw [release, hdrop, if_neg hcells]

end

/-! ### Reserve cells that return (R131, R143, R179) -/

section
variable {x : Commons} {b : Built}

/-- The shared blocks once the transmission of `b` has ended, before the arbiter looks: its reserve cells are free,
and a punt report is counted. -/
def returned (x : Commons) (b : Built) : Commons :=
  { x with
    pool := { x.pool with freeReserve := x.pool.freeReserve + b.cells }
    mgmt := { x.mgmt with
      puntsSent := if b.builder = .punt then satInc x.mgmt.puntsSent else x.mgmt.puntsSent } }

/-- The fate SENT of a frame that no restart waits for counts a punt report and does nothing else. -/
theorem reportFate_sent_giveReserve (x : Commons) (hplain : ∀ k, b.builder ≠ .response (some k)) :
    (x.reportFate .sent b).giveReserve b.cells = x.returned b := by
  unfold reportFate returned giveReserve
  split
  next k hb => exact absurd hb (hplain k)
  next hb => simp [hb]
  next hb => simp [hb]
  next hb => simp [hb]

/-- The arbiter does nothing where no claim waits. -/
theorem arbiter_unclaimed (e : Env) (hresponse : ∀ b, x.output ≠ .claiming b) (hevent : x.eventClaimWaits = false)
    (hpunt : x.events.punt ≠ .claiming) : arbiter e x = x := by
  rw [arbiter_of_not_claiming e hresponse, grantEvent_of_not_claiming hevent, hevent]
  exact grantPunt_of_not_claiming hpunt

/-- The arbiter brings no restart about where the response that claims cells carries none. -/
theorem arbiter_not_due (e : Env) (hdue : ∀ k, x.output ≠ .restartDue k)
    (hplain : ∀ b k, x.output = .claiming b → b.builder ≠ .response (some k)) (k : RestartKind) :
    (arbiter e x).output ≠ .restartDue k := by
  by_cases hclaims : ∃ b, x.output = .claiming b
  · obtain ⟨b, hb⟩ := hclaims
    have hnone : x.NoRestart := by
      refine ⟨fun k => by rw [hb]; nofun, hdue, fun c k hc => ?_⟩
      rcases hc with hc | hc
      · exact hplain c k hc
      · rw [hb] at hc
        cases hc
    obtain ⟨-, hafter, -⟩ := arbiter_noRestart e hnone
    exact hafter k
  · have hsame : (arbiter e x).output = x.output :=
      congrArg Prod.fst (arbiter_leaves e fun b hb => hclaims ⟨b, hb⟩)
    rw [hsame]
    exact hdue k

end

end Commons

/-! ### TRANSMISSION_START (R141, R142) -/

/-- The classes in serving order: those before a class are higher. -/
theorem classes_descend (c : Fin 4) : ∃ above below, [3, 2, 1, 0] = above ++ c :: below ∧ ∀ d ∈ above, c < d :=
  match c with
  | 3 => ⟨[], [2, 1, 0], rfl, by decide⟩
  | 2 => ⟨[3], [1, 0], rfl, by decide⟩
  | 1 => ⟨[3, 2], [0], rfl, by decide⟩
  | 0 => ⟨[3, 2, 1], [], rfl, by decide⟩

/-- The class that is served is the highest one that holds a copy. -/
theorem PortUnit.chooseClass_highest {u : PortUnit} {c : Fin 4}
    (hempty : ∀ d : Fin 4, c < d → (u.queue d).entries = []) (hholds : (u.queue c).entries ≠ []) :
    u.chooseClass = some c := by
  obtain ⟨above, below, hclasses, habove⟩ := classes_descend c
  refine List.find?_eq_some_iff_append.mpr ⟨by simpa using hholds, above, below, hclasses, fun d hd => ?_⟩
  rw [hempty d (habove d hd)]
  rfl

section
variable {s : State} {p : Port} (hup : (s.port p).oper = .up) (hidle : (s.port p).tx = none)

include hup hidle

theorem State.startTransmission_built {b : Built} {rest : List Built} (hqueue : s.commons.mgmtOut p = b :: rest) :
    s.startTransmission p = s.startBuilt p b rest := by
  rw [State.startTransmission, if_pos ⟨(s.isUp_eq_true_iff p).mpr hup, hidle⟩, hqueue]

theorem State.startTransmission_copy {c : Fin 4} {h : Copy} {rest : List Copy} {f : RxFrame}
    (hmgmt : s.commons.mgmtOut p = []) (hempty : ∀ d : Fin 4, c < d → ((s.port p).queue d).entries = [])
    (hqueue : ((s.port p).queue c).entries = h :: rest) (hf : s.commons.frame? h.frame = some f) :
    s.startTransmission p = s.setPort p { (s.port p).setQueue c { (s.port p).queue c with entries := rest } with
      tx := some { source := .copy h c, wire := f.wire } } := by
  have hchosen : (s.port p).chooseClass = some c :=
    PortUnit.chooseClass_highest hempty (by rw [hqueue]; exact List.cons_ne_nil h rest)
  rw [State.startTransmission, if_pos ⟨(s.isUp_eq_true_iff p).mpr hup, hidle⟩, hmgmt]
  simp only [hchosen, State.startCopy, hqueue, hf]

end

/-! ### TRANSMISSION_END (R143, R144) -/

/-- The part with the transmission at `p` counted and its transmitter IDLE, before what it held is returned. -/
theorem State.counted_idle (s : State) (p : Port) (k : PortCounter) :
    (s.setPort p { s.port p with tx := none }).count p k = s.setPort p { (s.port p).count k with tx := none } := by
  simp only [State.count, State.setPort_port, State.setPort_setPort]
  rfl

section
variable {s : State} {p : Port} {w : List Byte}

theorem State.endTransmission_copy {c : Copy} {q : Fin 4}
    (htx : (s.port p).tx = some { source := .copy c q, wire := w }) :
    s.endTransmission p = (s.setPort p { (s.port p).count .transmitted with tx := none }).release c.frame := by
  simp only [State.endTransmission, htx, State.counted_idle]

theorem State.endTransmission_built {b : Built} (htx : (s.port p).tx = some { source := .built b, wire := w }) :
    s.endTransmission p = (s.setPort p { (s.port p).count .transmittedMgmt with tx := none }).onCommons
      fun e x => Commons.releaseReserve e b.cells (x.reportFate .sent b) := by
  simp only [State.endTransmission, htx, State.counted_idle]

theorem execTransmissionEnd_eq (h : NoRestartDue (s.endTransmission p)) :
    exec (.transmissionEnd p) s = .next (s.endTransmission p) :=
  congrArg Host.Outcome.next (State.settleRestart_none _ h)

theorem execTransmissionEnd_copy {c : Copy} {q : Fin 4} (hdue : NoRestartDue s)
    (htx : (s.port p).tx = some { source := .copy c q, wire := w }) :
    exec (.transmissionEnd p) s =
      .next ((s.setPort p { (s.port p).count .transmitted with tx := none }).release c.frame) := by
  have hended := State.endTransmission_copy htx
  rw [← hended]
  refine execTransmissionEnd_eq ?_
  have houtput : (s.endTransmission p).commons.output = s.commons.output := by
    rw [hended]
    simp [State.release]
  rwa [NoRestartDue, houtput]

end

/-- The shared blocks after the end of a copy: its holder is released. -/
theorem State.idle_release_commons (s : State) (p : Port) (k : PortCounter) (id : Nat) :
    ((s.setPort p { (s.port p).count k with tx := none }).release id).commons = Commons.release s.env id s.commons := by
  rw [State.release, State.onCommons_commons, State.setPort_commons, State.setPort_env]
  rfl

/-! ### The end of a built frame (R131, R143, R165, R179) -/

section
variable {s : State} {p : Port} {w : List Byte} {b : Built}
  (htx : (s.port p).tx = some { source := .built b, wire := w }) (hplain : ∀ k, b.builder ≠ .response (some k))

include htx hplain

/-- The arbiter looks at the claims once the builder was told SENT and the reserve cells are free. -/
theorem State.endTransmission_built_commons :
    (s.endTransmission p).commons = Commons.arbiter s.env (s.commons.returned b) := by
  rw [State.endTransmission_built htx, State.onCommons_commons, State.setPort_commons,
    ← Commons.reportFate_sent_giveReserve s.commons hplain, State.setPort_env]
  · rfl
  · rfl

theorem State.endTransmission_built_puntsSent : (s.endTransmission p).commons.mgmt.puntsSent =
    if b.builder = .punt then satInc s.commons.mgmt.puntsSent else s.commons.mgmt.puntsSent := by
  obtain ⟨-, -, -, -, -, hpunts, -⟩ := Commons.arbiter_frame s.env (s.commons.returned b)
  rw [State.endTransmission_built_commons htx hplain, hpunts]
  rfl

theorem State.endTransmission_built_not_due (hdue : NoRestartDue s)
    (hclaimed : ∀ r k, s.commons.output = .claiming r → r.builder ≠ .response (some k)) :
    NoRestartDue (s.endTransmission p) := by
  have hafter := Commons.arbiter_not_due s.env (x := s.commons.returned b) (not_due_of_noRestartDue hdue) hclaimed
  rw [NoRestartDue, State.endTransmission_built_commons htx hplain]
  exact ⟨hafter .light, hafter .full⟩

theorem State.endTransmission_built_unclaimed (hresponse : ∀ r, s.commons.output ≠ .claiming r)
    (hevent : s.commons.eventClaimWaits = false) (hpunt : s.commons.events.punt ≠ .claiming) :
    (s.endTransmission p).commons = s.commons.returned b := by
  rw [State.endTransmission_built_commons htx hplain]
  exact Commons.arbiter_unclaimed (x := s.commons.returned b) s.env hresponse hevent hpunt

end

end Sys2Proof.Machine

namespace Sys2Proof.Settled

open Sys2Proof.Machine Sys2Proof.Safety

/-- Settles O50: a start by the queue that is served, the bytes by the form of the tag stack, and an end by what sent
the frame: a copy releases its holder, a built frame returns its reserve cells to the arbiter. -/
theorem transmissionsStartAndEnd : Obligations.TransmissionsStartAndEnd := by
  refine ⟨fun p s b rest hup hidle hqueue => ?_, fun p s c h rest f hup hidle hmgmt hempty hqueue hf => ?_,
    fun f => ?_, fun b => ?_, fun p s c q w hdue htx => ?_, fun p s c q w f hdue htx hf => ?_,
    fun id before after f hbefore hf => Commons.dropHolder_append after hbefore hf,
    fun p s b w hdue htx hplain hclaimed => ?_⟩
  · obtain ⟨more, hmore⟩ := Commons.admitOffers_grows
      (s.setPort p { s.port p with tx := some { source := .built b, wire := b.wire } }).env p
      (s.commons.setMgmtOut p rest) p
    refine ⟨s.startBuilt p b rest, more,
      congrArg Host.Outcome.next (State.startTransmission_built hup hidle hqueue), ?_⟩
    rw [Commons.setMgmtOut_mgmtOut] at hmore
    simpa [State.startBuilt] using hmore
  · exact congrArg Host.Outcome.next (State.startTransmission_copy hup hidle hmgmt hempty hqueue hf)
  · refine ⟨_, rfl, ?_⟩
    rw [RxFrame.wire, segmentFrame]
    cases f.record.tags <;> rfl
  · refine ⟨_, rfl, ?_⟩
    rw [Built.wire, segmentFrame]
    cases b.tags <;> rfl
  · rw [execTransmissionEnd_copy hdue htx, State.counted_idle]
  · have hcommons := s.idle_release_commons p .transmitted c.frame
    obtain ⟨hframes, hfree, -⟩ := Commons.release_frame s.env c.frame s.commons
    refine ⟨_, execTransmissionEnd_copy hdue htx, by simp [State.release], by simp [State.release],
      by simp [State.release], by simp [State.release], by simp [State.release], fun hmore => ?_,
      fun hlast hcells => ?_⟩
    · rw [hcommons, Commons.release_shared s.env hf hmore]
    · rw [hcommons]
      refine ⟨hframes, ?_, ?_⟩
      · rw [hfree, Commons.dropHolder_of_frame? hf, if_pos hlast]
      · rw [Commons.release_frees s.env hf hlast hcells]
        exact Commons.giveGeneral_evaluated s f.record.cellList _
  · have hended := State.endTransmission_built htx
    refine ⟨_, execTransmissionEnd_eq (State.endTransmission_built_not_due htx hplain hdue hclaimed),
      by simp [hended], by simp [hended], State.endTransmission_built_puntsSent htx hplain,
      fun hresponse hpunt hevent => ?_, by simp [hended], by simp [hended], by simp [hended]⟩
    have hnone : s.commons.eventClaimWaits = false :=
      Commons.not_eventClaimWaits fun ⟨w, hw, hclaims⟩ => hevent w hw hclaims
    rw [State.endTransmission_built_puntsSent htx hplain]
    exact State.endTransmission_built_unclaimed htx hplain hresponse hnone hpunt

end Sys2Proof.Settled
end

section
/-! PROOF. Settings, the session record and restarts that fall due: each command leaves every setting in its range and
the session record sound, and settles a restart in the happening that reports or loses its response (R155 to R157,
R160, R165). -/

set_option Elab.async false

namespace Sys2Proof.Machine

open Sys2Proof.Safety

/-! ### What a happening keeps (R155, R160, R165) -/

/-- The low and the high mark of the pool. -/
def Commons.marks (x : Commons) : Nat × Nat := (x.pool.lowMark, x.pool.highMark)

/-- The limits of the class queues of a port. -/
def PortUnit.limits (u : PortUnit) (c : Fin 4) : Nat := (u.queue c).limit

/-- The settings that have a range other than two values. -/
structure Settings where
  nodeAddress : Word16
  sessionTimeout : Nat
  verifyPeriod : Nat
  limits : Port → Fin 4 → Nat
  marks : Nat × Nat

/-- The settings of the part. -/
def State.settings (s : State) : Settings where
  nodeAddress := s.endpoint.nodeAddress
  sessionTimeout := s.endpoint.sessionTimeout
  verifyPeriod := s.verify.period
  limits p := (s.port p).limits
  marks := s.commons.marks

/-- Every setting lies in its range (R160). -/
structure Settings.InRange (x : Settings) : Prop where
  nodeAddress : 1 ≤ x.nodeAddress.toNat ∧ x.nodeAddress.toNat ≤ 0xFFFD
  sessionTimeout : 1 ≤ x.sessionTimeout ∧ x.sessionTimeout ≤ 600
  verifyPeriod : x.verifyPeriod = 0 ∨ (10 ≤ x.verifyPeriod ∧ x.verifyPeriod ≤ 60000)
  limits : ∀ p c, x.limits p c ≤ 512
  marks : x.marks.1 < x.marks.2 ∧ x.marks.2 ≤ 512

theorem settingsInRange_iff (s : State) : SettingsInRange s ↔ s.settings.InRange := by
  constructor
  · rintro ⟨haddress, haddress', htimeout, htimeout', hperiod, hlimits, hmarks⟩
    refine ⟨⟨haddress, haddress'⟩, ⟨htimeout, htimeout'⟩, hperiod, fun p c => ?_, hmarks⟩
    cases p
    · exact (hlimits c).1
    · exact (hlimits c).2
  · rintro ⟨⟨haddress, haddress'⟩, ⟨htimeout, htimeout'⟩, hperiod, hlimits, hmarks⟩
    exact ⟨haddress, haddress', htimeout, htimeout', hperiod, fun c => ⟨hlimits .a c, hlimits .b c⟩, hmarks⟩

/-- From `s` to `t` no setting leaves its range and the session record stays sound. -/
structure Upkeep (s t : State) : Prop where
  settings : s.settings.InRange → t.settings.InRange
  session : sessionFits s.endpoint = true → sessionFits t.endpoint = true

/-- As `Upkeep`, where besides the endpoint's output stays. -/
structure Quiet (s t : State) : Prop extends Upkeep s t where
  output : t.commons.output = s.commons.output

/-- As `Upkeep`, where besides no restart stays due. -/
structure Orderly (s t : State) : Prop extends Upkeep s t where
  due : NoRestartDue s → NoRestartDue t

theorem Upkeep.refl (s : State) : Upkeep s s := ⟨fun h => h, fun h => h⟩

theorem Upkeep.trans {s t u : State} (h : Upkeep s t) (k : Upkeep t u) : Upkeep s u :=
  ⟨k.settings ∘ h.settings, k.session ∘ h.session⟩

/-- What leaves the settings as they are and the session record sound. -/
theorem Upkeep.of_settings {s t : State} (hsettings : t.settings = s.settings)
    (hsession : sessionFits s.endpoint = true → sessionFits t.endpoint = true) : Upkeep s t :=
  ⟨fun h => hsettings ▸ h, hsession⟩

/-- A session record that keeps its number and its cursor stays sound. -/
theorem sessionFits_update {e : Endpoint} (h : sessionFits e = true) {f : Session → Session}
    (hf : ∀ o, (f o).number = o.number ∧ (f o).cursor = o.cursor) :
    sessionFits { e with session := e.session.map f } = true := by
  unfold sessionFits at h ⊢
  cases ho : e.session with
  | none => rfl
  | some o =>
    obtain ⟨hnumber, hcursor⟩ := hf o
    rw [ho] at h
    simpa only [Option.map_some, hnumber, hcursor] using h

namespace Upkeep
variable {s t : State}

theorem setPort (h : Upkeep s t) (p : Port) {u : PortUnit} (hu : u.limits = (t.port p).limits) :
    Upkeep s (t.setPort p u) := by
  refine h.trans (.of_settings ?_ (by rw [State.setPort_endpoint]; exact id))
  have hlimits : ∀ q, ((t.setPort p u).port q).limits = (t.port q).limits := fun q => by
    by_cases hqp : q = p
    · rw [hqp, State.setPort_port, hu]
    · rw [State.port_ne t u hqp]
  simp only [State.settings, State.setPort_endpoint, State.setPort_verify, State.setPort_commons, hlimits]

theorem onCommons (h : Upkeep s t) {g : Env → Commons → Commons}
    (hg : ∀ e x, (g e x).marks = x.marks) : Upkeep s (t.onCommons g) := by
  refine h.trans (.of_settings ?_ id)
  simp only [State.settings, State.onCommons_endpoint, State.onCommons_verify, State.onCommons_port,
    State.onCommons_commons, hg]

theorem withSession (h : Upkeep s t) {f : Session → Session}
    (hf : ∀ o, (f o).number = o.number ∧ (f o).cursor = o.cursor) : Upkeep s (t.withSession f) :=
  h.trans (.of_settings (by simp [State.settings, State.withSession]) fun ht => sessionFits_update ht hf)

theorem restartIdle (h : Upkeep s t) : Upkeep s t.restartIdle := h.withSession fun _ => ⟨rfl, rfl⟩

/-- A session that ends leaves nothing that could be unsound. -/
theorem closed (s : State) : Upkeep s { s with endpoint := { s.endpoint with session := none } } :=
  .of_settings (by simp [State.settings]) fun _ => rfl

/-- What every step of a fold keeps the fold keeps. -/
theorem foldl (h : Upkeep s t) {α : Type} {f : State → α → State} (hf : ∀ u a, Upkeep u (f u a))
    (l : List α) : Upkeep s (l.foldl f t) := by
  induction l generalizing t with
  | nil => exact h
  | cons a l ih => exact ih (h.trans (hf t a))

end Upkeep

namespace Quiet
variable {s t : State}

theorem refl (s : State) : Quiet s s := ⟨.refl s, rfl⟩

theorem trans {u : State} (h : Quiet s t) (k : Quiet t u) : Quiet s u :=
  ⟨h.toUpkeep.trans k.toUpkeep, k.output.trans h.output⟩

theorem orderly (h : Quiet s t) : Orderly s t := ⟨h.toUpkeep, fun hs => by
  unfold NoRestartDue
  rw [h.output]
  exact hs⟩

theorem setPort (h : Quiet s t) (p : Port) {u : PortUnit} (hu : u.limits = (t.port p).limits) :
    Quiet s (t.setPort p u) :=
  ⟨h.toUpkeep.setPort p hu, by rw [State.setPort_commons, h.output]⟩

theorem count (h : Quiet s t) (p : Port) (k : PortCounter) : Quiet s (t.count p k) := h.setPort p rfl

theorem onCommons (h : Quiet s t) {g : Env → Commons → Commons}
    (hg : ∀ e x, (g e x).marks = x.marks ∧ (g e x).output = x.output) : Quiet s (t.onCommons g) :=
  ⟨h.toUpkeep.onCommons fun e x => (hg e x).1, (hg _ _).2.trans h.output⟩

theorem post (h : Quiet s t) (k : EventKind) : Quiet s (t.post k) :=
  h.onCommons fun _ _ => by simp [Commons.marks]

theorem release (h : Quiet s t) (id : Nat) : Quiet s (t.release id) :=
  h.onCommons fun _ _ => by simp [Commons.marks]

theorem giveGeneral (h : Quiet s t) (cells : List GeneralCell) :
    Quiet s (t.onCommons fun e => Commons.giveGeneral e cells) :=
  h.onCommons fun _ _ => by simp [Commons.marks]

theorem takeGeneral (h : Quiet s t) : Quiet s (t.onCommons Commons.takeGeneral) :=
  h.onCommons fun _ _ => by simp [Commons.marks]

theorem foldl (h : Quiet s t) {α : Type} {f : State → α → State} (hf : ∀ u a, Quiet u (f u a))
    (l : List α) : Quiet s (l.foldl f t) := by
  induction l generalizing t with
  | nil => exact h
  | cons a l ih => exact ih (h.trans (hf t a))

/-- What changes outside the ports, the shared blocks, the endpoint and verify_period. -/
theorem of_parts (hports : ∀ p, t.port p = s.port p) (hcommons : t.commons = s.commons)
    (haddress : t.endpoint.nodeAddress = s.endpoint.nodeAddress)
    (htimeout : t.endpoint.sessionTimeout = s.endpoint.sessionTimeout)
    (hsession : sessionFits s.endpoint = true → sessionFits t.endpoint = true)
    (hperiod : t.verify.period = s.verify.period) : Quiet s t :=
  ⟨.of_settings (by simp only [State.settings, hports, hcommons, haddress, htimeout, hperiod]) hsession,
    by rw [hcommons]⟩

end Quiet

/-- The classifier, the prefilter, the meters, the tables and a verify unit that keeps its setting. -/
theorem State.update_quiet (s : State) (c : Classifier) (pf : PfCounters) (ms : Vector Meter 64)
    (tables : Controller) {v : Verify} (hv : v.period = s.verify.period) :
    Quiet s { s with classifier := c, prefilter := pf, meters := ms, tables := tables, verify := v } :=
  .of_parts (fun p => by cases p <;> rfl) rfl rfl rfl id hv

/-- The command queue and the uptime count. -/
theorem State.setQueue_quiet (s : State) (commands : List Nat) (uptime : Word32) :
    Quiet s { s with endpoint := { s.endpoint with commands := commands, uptime := uptime } } :=
  .of_parts (fun p => by cases p <;> rfl) rfl rfl rfl id rfl

theorem State.endSession_quiet (s : State) (reason : EndReason) : Quiet s (s.endSession reason) := by
  have hclosed : Quiet s { s with endpoint := { s.endpoint with session := none } } :=
    .of_parts (fun p => by cases p <;> rfl) rfl rfl rfl (fun _ => rfl) rfl
  unfold State.endSession
  split
  · exact hclosed.post _
  · exact .refl s

/-! ### Ports (R121 to R123) -/

theorem State.endReceptionForLink_quiet (s : State) (p : Port) : Quiet s (s.endReceptionForLink p) := by
  unfold State.endReceptionForLink
  split
  · exact (((Quiet.refl s).setPort p (by rfl)).count p _).giveGeneral _
  · exact (Quiet.refl s).setPort p rfl
  · exact .refl s

theorem Commons.settleBuilt_marks (fate : Fate) (b : Built) (x : Commons) :
    ((x.reportFate fate b).giveReserve b.cells).marks = x.marks := by
  simp [marks]

theorem State.abortForLink_upkeep (s : State) (p : Port) : Upkeep s (s.abortForLink p) := by
  unfold State.abortForLink
  split
  · have hidle := ((Quiet.refl s).setPort p (u := { s.port p with tx := none }) rfl).count p .txAbort
    dsimp only
    split
    · exact (hidle.release _).toUpkeep
    · exact hidle.toUpkeep.onCommons fun _ => Commons.settleBuilt_marks .aborted _
  · exact .refl s

theorem PortUnit.setEntries_limits (u : PortUnit) (c : Fin 4) (entries : List Copy) :
    (u.setQueue c { u.queue c with entries := entries }).limits = u.limits := by
  funext d
  by_cases hd : d = c
  · simp [hd, PortUnit.limits]
  · simp [PortUnit.limits, PortUnit.setQueue_queue_ne _ _ _ _ hd]

theorem State.flushForLink_upkeep (s : State) (p : Port) : Upkeep s (s.flushForLink p) := by
  have hcopy : ∀ (t : State) (c : Copy), Quiet t (State.flushCopy p t c) := fun t c =>
    ((Quiet.refl t).count p _).release c.frame
  have hqueue : ∀ (t : State) (c : Fin 4), Quiet t (State.flushQueue p t c) := fun t c =>
    ((Quiet.refl t).setPort p ((t.port p).setEntries_limits c [])).foldl hcopy _
  have hbuilt : ∀ (t : State) (b : Built), Upkeep t (State.flushBuilt p t b) := fun t b =>
    ((Quiet.refl t).count p _).toUpkeep.onCommons fun _ => Commons.settleBuilt_marks .flushed b
  have hemptied := ((Quiet.refl s).foldl hqueue [0, 1, 2, 3]).onCommons (g := fun _ x => x.setMgmtOut p [])
    fun _ x => by simp [Commons.marks]
  exact hemptied.toUpkeep.foldl hbuilt _

theorem State.endSessionForLink_quiet (s : State) (p : Port) : Quiet s (s.endSessionForLink p) := by
  unfold State.endSessionForLink
  split
  · split
    · exact s.endSession_quiet .link
    · exact .refl s
  · exact .refl s

theorem Commons.withdrawEvent_marks (x : Commons) : x.withdrawEvent.marks = x.marks := by simp [marks]

theorem Commons.withdrawPunt_marks (x : Commons) : x.withdrawPunt.marks = x.marks := by
  unfold withdrawPunt
  split <;> rfl

theorem Commons.withdrawClaimsFor_marks (p : Port) (x : Commons) : (withdrawClaimsFor p x).marks = x.marks := by
  have hresponse : (withdrawResponseClaim p x).marks = x.marks := by
    unfold withdrawResponseClaim
    split
    · split <;> rfl
    · rfl
  rw [withdrawClaimsFor_eq, withdrawPuntClaim, apply_ite marks, withdrawPunt_marks, ite_self, withdrawEventClaim,
    apply_ite marks, withdrawEvent_marks, ite_self, hresponse]

theorem Commons.refuseOffersAt_marks (p : Port) (x : Commons) : (refuseOffersAt p x).marks = x.marks := by
  have hresponse : (refuseResponse p x).marks = x.marks := by
    unfold refuseResponse
    split
    · split <;> rfl
    · rfl
  have hpunt : ∀ y, (refusePunt p y).marks = y.marks := fun y => by
    unfold refusePunt
    split
    · rw [apply_ite marks, withdrawPunt_marks, ite_self]
    · rfl
  rw [refuseOffersAt_eq, hpunt, refuseEvent, apply_ite marks, withdrawEvent_marks, ite_self, hresponse]

theorem Commons.holdHead_marks (p : Port) (x : Commons) : (holdHead p x).marks = x.marks := by
  unfold holdHead
  split
  · split <;> rfl
  · rfl

theorem State.leaveUp_upkeep (s : State) (p : Port) (o : OperState) : Upkeep s (s.leaveUp p o) := by
  have hwithdrawn := (Upkeep.refl s).onCommons (g := fun _ => Commons.withdrawClaimsFor p)
    fun _ => Commons.withdrawClaimsFor_marks p
  have hflushed := ((hwithdrawn.trans (State.endReceptionForLink_quiet _ p).toUpkeep).trans
    (State.abortForLink_upkeep _ p)).trans (State.flushForLink_upkeep _ p)
  have hrefused := hflushed.onCommons (g := fun e x => Commons.arbiter e (Commons.refuseOffersAt p x))
    fun e x => by simpa [Commons.marks] using Commons.refuseOffersAt_marks p x
  exact ((hrefused.trans ((Quiet.refl _).post _).toUpkeep).trans
    (State.endSessionForLink_quiet _ p).toUpkeep).onCommons fun _ => Commons.holdHead_marks p

theorem State.enterUp_upkeep (s : State) (p : Port) : Upkeep s (s.enterUp p) := by
  unfold State.enterUp
  refine ((Quiet.refl s).post _).toUpkeep.onCommons fun e x => ?_
  split
  · simp [Commons.marks]
  · unfold Commons.resumeSender
    split
    · split
      · simp [Commons.marks]
      · rfl
    · simp [Commons.marks]

theorem State.changePort_upkeep (s : State) (p : Port) {u : PortUnit} (hu : u.limits = (s.port p).limits) :
    Upkeep s (s.changePort p u) := by
  have hset := (Upkeep.refl s).setPort p hu
  unfold State.changePort
  dsimp only
  split
  · exact hset.trans (State.leaveUp_upkeep _ p _)
  · split
    · exact hset.trans (State.enterUp_upkeep _ p)
    · exact hset

theorem State.linkPin_upkeep (s : State) (p : Port) (level : LinkState) : Upkeep s (s.linkPin p level) :=
  s.changePort_upkeep p (by rfl)

/-! ### Reception (R124 to R127) -/

theorem State.discardReception_quiet (s : State) (p : Port) (cells : List GeneralCell) (k : PortCounter) :
    Quiet s (s.discardReception p cells k) :=
  (((Quiet.refl s).setPort p (by rfl)).count p k).giveGeneral cells

theorem State.startReception_quiet (s : State) (p : Port) : Quiet s (s.startReception p) := by
  unfold State.startReception
  split
  · exact .refl s
  · split
    · split
      · exact s.discardReception_quiet p _ _
      · exact ((Quiet.refl s).setPort p (by rfl)).takeGeneral
    · exact .refl s

theorem State.receiveByte_quiet (p : Port) (s : State) (v : Byte) : Quiet s (State.receiveByte p s v) := by
  unfold State.receiveByte
  split
  · split
    · exact s.discardReception_quiet p _ _
    · split
      · exact (Quiet.refl s).setPort p rfl
      · split
        · exact s.discardReception_quiet p _ _
        · exact ((Quiet.refl s).setPort p (by rfl)).takeGeneral
  · exact .refl s

theorem State.receiveBytes_quiet (s : State) (p : Port) (bytes : List Byte) : Quiet s (s.receiveBytes p bytes) :=
  (Quiet.refl s).foldl (State.receiveByte_quiet p) bytes

theorem State.abortReception_quiet (s : State) (p : Port) : Quiet s (s.abortReception p) := by
  unfold State.abortReception
  split
  · exact (((Quiet.refl s).setPort p (by rfl)).count p _).giveGeneral _
  · exact (Quiet.refl s).setPort p rfl
  · exact .refl s

/-- The management counters and the stored frames are no setting. -/
theorem State.setCommons_quiet (s : State) {x : Commons} (hmarks : x.marks = s.commons.marks)
    (houtput : x.output = s.commons.output) : Quiet s { s with commons := x } :=
  ⟨.of_settings (by simp only [State.settings, State.port_of_ports, hmarks]) id, houtput⟩

theorem State.routeGood_quiet (s : State) (p : Port) (bytes : List Byte) (cells : List GeneralCell) :
    Quiet s (s.routeGood p bytes cells) := by
  have hstored := (s.setCommons_quiet
    (x := (Commons.store bytes (makeRecord p bytes cells) s.commons).1) rfl rfl).count p .receivedGood
  have hcommand : ∀ (t : State) (id : Nat), Quiet t (t.offerCommand id) := fun t id => by
    unfold State.offerCommand
    split
    · exact t.setQueue_quiet _ _
    · exact (t.setCommons_quiet (x := { t.commons with
        mgmt := { t.commons.mgmt with overrun := satInc t.commons.mgmt.overrun } }) rfl rfl).release id
  have hingress : ∀ (t : State) (id : Nat), Quiet t (t.offerIngress p id) := fun t id => by
    unfold State.offerIngress
    split
    · exact t.update_quiet _ _ _ _ rfl
    · exact ((Quiet.refl t).count p _).release id
  unfold State.routeGood
  dsimp only
  split
  · exact hstored.trans (hcommand _ _)
  · exact hstored.trans (hingress _ _)

theorem State.endReception_quiet (s : State) (p : Port) : Quiet s (s.endReception p) := by
  have hended := (Quiet.refl s).setPort p (u := { s.port p with reception := none }) rfl
  unfold State.endReception
  split
  · dsimp only
    split
    · exact (hended.count p _).giveGeneral _
    · exact hended.trans (State.routeGood_quiet _ p _ _)
  · exact hended
  · exact .refl s

/-! ### Classification (R34, R60 to R66) -/

theorem State.offerCopy_quiet (id cells : Nat) (s : State) (o : CopyOffer) :
    Quiet s (State.offerCopy id cells s o) := by
  unfold State.offerCopy
  dsimp only
  split
  · exact ((Quiet.refl s).setPort o.port (PortUnit.setEntries_limits _ _ _)).onCommons fun _ _ => by
      simp [Commons.marks]
  · exact (Quiet.refl s).count o.port _

theorem State.offerPuntEntry_quiet (id : Nat) (q : Port) (s : State) :
    Quiet s (State.offerPuntEntry id q s) := by
  unfold State.offerPuntEntry
  split
  · exact (Quiet.refl s).count q _
  · split
    · exact (Quiet.refl s).onCommons fun _ _ => by simp [Commons.marks]
    · exact (Quiet.refl s).count q _

theorem State.countDrop_quiet (p : Port) (s : State) (why : DropReason) : Quiet s (State.countDrop p s why) := by
  cases why with
  | ruleDrop c => exact ((Quiet.refl s).count p _).count p _
  | _ => exact (Quiet.refl s).count p _

theorem State.dispose_quiet (s : State) (id cells : Nat) (r : FrameRecord) : Quiet s (s.dispose id cells r) := by
  have hrecorded := (Quiet.refl s).onCommons
    (g := fun _ => Commons.updateFrame id fun f => f.classified (r.setDisp r.disp.final)) fun _ _ => ⟨rfl, rfl⟩
  have hcounted : Quiet s (match r.disp.final.drop with
      | some why => State.countDrop r.ingress (s.onCommons fun _ =>
          Commons.updateFrame id fun f => f.classified (r.setDisp r.disp.final)) why
      | none => s.onCommons fun _ => Commons.updateFrame id fun f => f.classified (r.setDisp r.disp.final)) := by
    split
    · exact hrecorded.trans (State.countDrop_quiet _ _ _)
    · exact hrecorded
  have hoffered := hcounted.foldl (State.offerCopy_quiet id cells) (copiesOf r.disp.final)
  unfold State.dispose
  refine Quiet.release ?_ id
  split
  · exact hoffered.trans (State.offerPuntEntry_quiet id _ _)
  · exact hoffered

theorem State.classify_quiet (s : State) : Quiet s s.classify := by
  have hnormal : ∀ (t : State) (f : RxFrame) (r : FrameRecord), Quiet t (t.classifyNormal f r) := fun t f r => by
    by_cases h : prefilterDrops t.tables.activeBank r
    · rw [State.classifyNormal_dropped f h]
      exact (t.update_quiet _ _ _ _ (by rfl)).trans (State.dispose_quiet _ _ _ _)
    · cases hn : lookup t.tables.activeBank (screenRecord t.tables.activeBank r) with
      | some n =>
        rw [State.classifyNormal_match f h hn]
        exact (t.update_quiet _ _ _ _ (by rfl)).trans (State.dispose_quiet _ _ _ _)
      | none =>
        rw [State.classifyNormal_noMatch f h hn]
        exact (((t.update_quiet _ _ _ _ (by rfl)).count _ _).trans (State.update_quiet _ _ _ _ _ rfl)).trans
          (State.dispose_quiet _ _ _ _)
  have hframe : ∀ (t : State) (f : RxFrame), Quiet t (t.classifyFrame f) := fun t f => by
    unfold State.classifyFrame
    dsimp only
    split
    · exact hnormal t f _
    · exact t.dispose_quiet _ _ _
  unfold State.classify
  split
  · exact .refl s
  · split
    · exact .refl s
    · dsimp only
      split
      · exact (s.update_quiet _ _ _ _ (by rfl)).trans (hframe _ _)
      · exact s.update_quiet _ _ _ _ rfl

/-! ### Restarts (R149, R160, R165) -/

/-- The values of a reset lie in their ranges, and no session is open (R136, R160). -/
theorem ResetFrom.upkeep {s t : State} (h : ResetFrom s t) : Upkeep s t := by
  obtain ⟨straps, a, b, cause, rfl⟩ := h
  refine ⟨fun _ => ⟨?_, (by decide : 1 ≤ 50 ∧ 50 ≤ 600), .inr (by decide : 10 ≤ 1000 ∧ 1000 ≤ 60000),
    fun p c => ?_, (by decide : 64 < 128 ∧ 128 ≤ 512)⟩, fun _ => rfl⟩
  · have hstraps := straps.nodeAddr.isLt
    show 1 ≤ (Config.strapBase + straps.nodeAddr.setWidth 16).toNat ∧
      (Config.strapBase + straps.nodeAddr.setWidth 16).toNat ≤ 0xFFFD
    simp only [Config.strapBase, BitVec.toNat_add, BitVec.toNat_setWidth, BitVec.toNat_ofNat]
    omega
  · cases p <;> simp [State.settings, State.port, State.afterReset, PortUnit.limits, PortUnit.queue,
      PortUnit.afterReset]

theorem PortUnit.lightRestart_limits (u : PortUnit) : u.lightRestart.limits = u.limits := by
  funext c
  simp [PortUnit.limits, PortUnit.queue, PortUnit.lightRestart]

theorem State.lightRestart_upkeep (s : State) : Upkeep s s.lightRestart := by
  have hblocks : Upkeep s s.lightBlocks := .of_settings (by
    have hlimits : ∀ p, (s.lightBlocks.port p).limits = (s.port p).limits := fun p => by
      cases p <;> exact PortUnit.lightRestart_limits _
    have hmarks : s.lightBlocks.commons.marks = s.commons.marks := by
      simp only [Commons.marks, State.lightBlocks, Commons.lightRestart, Pool.lightRestart]
    simp only [State.settings, hlimits, hmarks]
    simp only [State.lightBlocks, Verify.lightRestart]) fun _ => rfl
  refine hblocks.onCommons fun e x => ?_
  obtain ⟨hpool, -⟩ := Commons.acceptAll_frame e s.lightEvents x
  simp only [Commons.marks, Commons.trySend_frame, hpool]

theorem State.settleRestart_orderly {s t : State} (h : Upkeep s t) (straps : Straps) :
    Orderly s (t.settleRestart straps) := by
  unfold State.settleRestart
  split
  next =>
    refine ⟨h.trans t.lightRestart_upkeep, fun _ => ?_⟩
    simp only [NoRestartDue, State.lightRestart_idle]
    exact ⟨nofun, nofun⟩
  next => exact ⟨h.trans (ResetFrom.upkeep (State.fullRestart_becomes (.refl t) straps)), fun _ => ⟨nofun, nofun⟩⟩
  next hlight hfull => exact ⟨h, fun _ => ⟨hlight, hfull⟩⟩

/-! ### Egress (R131, R140 to R144) -/

theorem Commons.admitOffers_not_due (e : Env) (p : Port) {x : Commons} {k : RestartKind}
    (h : x.output ≠ .restartDue k) : (admitOffers e p x).output ≠ .restartDue k := by
  have hadmitted : (admitOffers e p x).output = (admitWaitingResponse e p x).output := by simp [admitOffers]
  rw [hadmitted]
  unfold admitWaitingResponse
  split
  · split
    · exact x.admitResponse_not_due _ k
    · exact h
  · exact h

theorem State.admitOffers_orderly (s : State) (p : Port) {g : Env → Commons → Commons}
    (hg : ∀ e x, (g e x).marks = x.marks ∧ (g e x).output = x.output) :
    Orderly s (s.onCommons fun e x => Commons.admitOffers e p (g e x)) := by
  refine ⟨(Upkeep.refl s).onCommons fun e x => ?_, fun hs => ?_⟩
  · simpa [Commons.marks] using (hg e x).1
  · have hsame := (hg s.env s.commons).2
    exact ⟨Commons.admitOffers_not_due _ p (hsame ▸ hs.1), Commons.admitOffers_not_due _ p (hsame ▸ hs.2)⟩

theorem State.startTransmission_orderly (s : State) (p : Port) : Orderly s (s.startTransmission p) := by
  have hcopy : ∀ c, Quiet s (s.startCopy p c) := fun c => by
    unfold State.startCopy
    dsimp only
    split
    · exact .refl s
    · split
      · exact (Quiet.refl s).setPort p (PortUnit.setEntries_limits _ c _)
      · exact .refl s
  unfold State.startTransmission
  split
  · split
    next b rest _ =>
      have hsent := (Quiet.refl s).setPort p
        (u := { s.port p with tx := some { source := .built b, wire := b.wire } }) rfl
      have hadmits := State.admitOffers_orderly
        (s.setPort p { s.port p with tx := some { source := .built b, wire := b.wire } }) p (g := fun _ x => x.setMgmtOut p rest)
        fun _ x => by simp [Commons.marks]
      exact ⟨hsent.toUpkeep.trans hadmits.toUpkeep, hadmits.due ∘ hsent.orderly.due⟩
    · split
      · exact (hcopy _).orderly
      · exact (Quiet.refl s).orderly
  · exact (Quiet.refl s).orderly

theorem State.endTransmission_upkeep (s : State) (p : Port) : Upkeep s (s.endTransmission p) := by
  unfold State.endTransmission
  split
  · exact .refl s
  · have hidle := (Quiet.refl s).setPort p (u := { s.port p with tx := none }) rfl
    dsimp only
    split
    · exact ((hidle.count p _).release _).toUpkeep
    · exact (hidle.count p _).toUpkeep.onCommons fun _ _ => by
        simp [Commons.marks, Commons.releaseReserve]

/-! ### Commands at the endpoint (R152 to R165) -/

/-- A command's run keeps the settings and the session, moves no response in hand, and asks for no restart. -/
structure Run.Upkeeps (run : Run) : Prop where
  upkeep : ∀ (c : Command) (s : State), Upkeep s (run c s).1
  plain : ∀ (c : Command) (s : State), (run c s).2.restart = none

theorem State.takeHead_quiet (s : State) : Quiet s s.takeHead := by
  unfold State.takeHead
  split
  · exact (s.setQueue_quiet _ _).release _
  · exact .refl s

theorem State.respond_upkeep (s : State) (c : Command) (r : Reply) : Upkeep s (s.respond c r) :=
  Upkeep.trans (t := { s with commons :=
      { s.commons with output := .claiming (responseFrame c s.endpoint.nodeAddress r) } })
    (.of_settings (by simp only [State.settings, State.port_of_ports]; rfl) id)
    ((Upkeep.refl _).onCommons fun _ _ => by simp [Commons.marks])

theorem State.recordOwner_upkeep (s : State) (c : Command) (r : Reply) : Upkeep s (s.recordOwner c r) :=
  (Upkeep.refl s).restartIdle.withSession fun _ => ⟨rfl, rfl⟩

theorem State.judge_upkeep {run : Run} (hrun : ∀ c s, Upkeep s (run c s).1) (s : State)
    (perm : Command → Permission) (c : Command) : Upkeep s (s.judge perm run c) := by
  have hperm : Upkeep s (s.runPermitted (perm c) run c).1 := by
    unfold State.runPermitted
    split
    · exact .refl s
    · exact hrun c s
  unfold State.judge
  split
  · exact s.respond_upkeep c _
  · split
    · exact (Upkeep.refl s).restartIdle.trans (State.respond_upkeep _ c _)
    · refine Upkeep.trans ?_ (State.respond_upkeep _ c _)
      split
      · exact hperm.trans (State.recordOwner_upkeep _ c _)
      · exact hperm

theorem State.takeCommand_upkeep {run : Run} (hrun : ∀ c s, Upkeep s (run c s).1) (s : State)
    (takes : Command → Bool) (perm : Command → Permission) : Upkeep s (s.takeCommand takes perm run) := by
  unfold State.takeCommand
  split
  · split
    · exact s.takeHead_quiet.toUpkeep.trans (State.judge_upkeep hrun _ perm _)
    · exact .refl s
  · exact .refl s

/-- A response that asks for no restart leaves none due (R153, R165). -/
theorem State.respond_not_due (s : State) (c : Command) {r : Reply} (hr : r.restart = none) :
    NoRestartDue (s.respond c r) := by
  have hdue : ∀ k, (s.respond c r).commons.output ≠ .restartDue k := fun k =>
    Commons.arbiter_not_due _ (fun _ => by simp) (fun b k' hb => by
      cases hb
      simp [responseFrame, hr]) k
  exact ⟨hdue .light, hdue .full⟩

theorem State.judge_not_due {run : Run} (hrun : ∀ c s, (run c s).2.restart = none) (s : State)
    (perm : Command → Permission) (c : Command) : NoRestartDue (s.judge perm run c) := by
  have hplain : (s.runPermitted (perm c) run c).2.restart = none := by
    unfold State.runPermitted
    split
    · rfl
    · exact hrun c s
  unfold State.judge
  split
  · exact State.respond_not_due _ c rfl
  · split
    · exact State.respond_not_due _ c rfl
    · exact State.respond_not_due _ c hplain

theorem State.takeCommand_orderly {run : Run} (hrun : run.Upkeeps) (s : State) (takes : Command → Bool)
    (perm : Command → Permission) : Orderly s (s.takeCommand takes perm run) := by
  refine ⟨s.takeCommand_upkeep hrun.upkeep takes perm, fun hs => ?_⟩
  unfold State.takeCommand
  split
  · split
    · exact State.judge_not_due hrun.plain _ perm _
    · exact hs
  · exact hs

theorem State.discardMalformed_quiet (s : State) : Quiet s s.discardMalformed := by
  unfold State.discardMalformed
  split
  · split
    · exact s.takeHead_quiet.trans (State.setCommons_quiet _ rfl rfl)
    · exact .refl s
  · exact .refl s

theorem needs_upkeeps {run : Run} (hrun : run.Upkeeps) (n : Nat) : (needs n run).Upkeeps := by
  constructor <;> intro c s <;> unfold needs <;> split
  · exact .refl s
  · exact hrun.upkeep c s
  · rfl
  · exact hrun.plain c s

theorem counterRun_upkeeps {run : Bool → Run} (hrun : ∀ b, (run b).Upkeeps) (n : Nat) :
    (counterRun n run).Upkeeps := by
  refine needs_upkeeps ⟨fun c s => ?_, fun c s => ?_⟩ 3
  · split
    · exact .refl s
    · split
      · exact .refl s
      · split
        · exact .refl s
        · exact (hrun _).upkeep c s
  · split
    · rfl
    · split
      · rfl
      · split
        · rfl
        · exact (hrun _).plain c s

/-- A run that leaves the part as it is. -/
theorem Run.Upkeeps.of_reply {f : Command → State → Reply} (hf : ∀ c s, (f c s).restart = none) :
    Run.Upkeeps fun c s => (s, f c s) := ⟨fun _ s => .refl s, hf⟩

/-- The number of a session is never 0 (R156). -/
theorem nextSessionNumber_ne_zero (n : Byte) : nextSessionNumber n ≠ 0#8 := by
  unfold nextSessionNumber
  split
  · decide
  · bv_omega

/-- A session that opens has the number most recently given and no cursor (R156). -/
theorem State.openNew_upkeep (s : State) (c : Command) : Upkeep s (s.openNew c) := by
  let number := nextSessionNumber s.endpoint.lastNumber
  let opened : Session :=
    { node := c.src, port := c.port, number := number, lastSeq := none, replay := none, cursor := none
      timer := 100 * s.endpoint.sessionTimeout }
  have hopened : Quiet s { s with endpoint :=
      { s.endpoint with session := some opened, lastNumber := number } } :=
    .of_parts (fun p => by cases p <;> rfl) rfl rfl rfl
      (fun _ => by simp [sessionFits, opened, number, nextSessionNumber_ne_zero]) rfl
  exact (hopened.post _).toUpkeep

theorem runOpenSession_upkeeps : runOpenSession.Upkeeps := by
  constructor <;> intro c s <;> unfold runOpenSession <;> split
  · exact s.openNew_upkeep c
  · split
    · exact (Upkeep.refl s).restartIdle
    · exact .refl s
  · rfl
  · split <;> rfl

theorem Commons.judgeRest_marks (e : Env) (x : Commons) : (judgeRest e x).marks = x.marks := by
  simp [judgeRest, marks]

theorem runSetListener_upkeeps : runSetListener.Upkeeps := by
  refine needs_upkeeps ⟨fun c s => ?_, fun c s => ?_⟩ 3
  · split
    · split
      · refine (Upkeep.refl s).onCommons (g := fun e => Commons.replaceListener e _) fun e x => ?_
        have hsend : ∀ y, (Commons.sendToNew e y).marks = y.marks := fun y => by
          unfold Commons.sendToNew
          split <;> simp [Commons.marks]
        rw [Commons.replaceListener, hsend, Commons.judgeRest_marks]
        exact (Commons.withdrawPunt_marks _).trans (Commons.withdrawEvent_marks x)
      · exact .refl s
    · exact .refl s
  · split
    · split <;> rfl
    · rfl

theorem State.clearListener_upkeep (s : State) : Upkeep s s.clearListener := by
  have hflush : ∀ (t : State) (id : Nat), Upkeep t (t.flushPunt id) := fun t id => by
    unfold State.flushPunt
    split
    · exact (((Quiet.refl t).count _ _).release id).toUpkeep
    · exact .refl t
  have hcleared : Upkeep s (s.onCommons Commons.clearListener) := (Upkeep.refl s).onCommons fun e x => by
    rw [Commons.clearListener, Commons.judgeRest_marks]
    exact (Commons.withdrawPunt_marks _).trans (Commons.withdrawEvent_marks x)
  have hemptied := hcleared.trans (State.setCommons_quiet (s.onCommons Commons.clearListener)
    (x := let y := (s.onCommons Commons.clearListener).commons
      { y with events := { y.events with puntQueue := [] } }) rfl rfl).toUpkeep
  exact hemptied.foldl hflush _

theorem runAckEvent_upkeeps : runAckEvent.Upkeeps := by
  refine needs_upkeeps ⟨fun c s => ?_, fun c s => ?_⟩ 2
  · split
    next x hacked =>
      refine .of_settings ?_ id
      have hmarks : x.marks = s.commons.marks := by
        unfold Commons.ackEvent at hacked
        split at hacked
        · split at hacked
          · cases hacked
            simp only [Commons.acknowledged, Commons.marks, Commons.trySend_frame]
            exact (Commons.judgeRest_marks _ _).trans (Commons.withdrawEvent_marks _)
          · cases hacked
        · cases hacked
      simp only [State.settings, State.port_of_ports, hmarks]
    · exact .refl s
  · split <;> rfl

theorem runRestart_upkeep (c : Command) (s : State) : Upkeep s (runRestart c s).1 := by
  have hsame : (runRestart c s).1 = s := runRestart_keeps (fun t => t) c s
  rw [hsame]
  exact .refl s

/-- A cursor that is set stands within its table (R155, R161). -/
theorem Upkeep.setCursor (s : State) {cur : Cursor} (h : cur.next ≤ recordCount cur.table) :
    Upkeep s (s.withSession fun o => { o with cursor := some cur }) := by
  refine .of_settings (by simp [State.settings, State.withSession]) fun hs => ?_
  simp only [sessionFits, State.withSession] at hs ⊢
  cases ho : s.endpoint.session with
  | none => rfl
  | some o =>
    rw [ho] at hs
    simp only [Bool.and_eq_true] at hs
    obtain ⟨⟨hlast, hzero⟩, -⟩ := hs
    simp only [Option.map_some, decide_eq_true h, Bool.and_true, Bool.and_eq_true]
    exact ⟨hlast, hzero⟩

theorem runReadTable_upkeeps : runReadTable.Upkeeps := by
  refine needs_upkeeps ⟨fun c s => ?_, fun c s => ?_⟩ 6
  · split
    · exact .refl s
    · split
      · exact .refl s
      · dsimp only
        split
        · exact .refl s
        · split
          · exact .refl s
          next t _ _ _ _ _ hrange =>
            unfold State.setCursor
            dsimp only
            split
            · refine .setCursor s ?_
              have := Nat.min_le_left (c.param16 4) (recordsThatFit t)
              show c.param16 2 + min (c.param16 4) (recordsThatFit t) ≤ recordCount t
              omega
            · exact .refl s
  · split
    · rfl
    · split
      · rfl
      · dsimp only
        split
        · rfl
        · split <;> rfl

theorem runReadNext_upkeeps : runReadNext.Upkeeps := by
  constructor <;> intro c s <;> unfold runReadNext <;> split
  · exact .refl s
  next cur hcursor =>
    refine ⟨fun hs => by simpa [State.settings, State.withSession] using hs, fun hs => ?_⟩
    have hwithin : cur.next ≤ recordCount cur.table := by
      simp only [State.cursor, Option.bind_eq_some_iff] at hcursor
      obtain ⟨o, ho, hcur⟩ := hcursor
      simp only [sessionFits, ho, hcur, Bool.and_eq_true, decide_eq_true_eq] at hs
      exact hs.2
    refine (Upkeep.setCursor s ?_).session hs
    have := Nat.min_le_left (recordCount cur.table - cur.next) (recordsThatFit cur.table)
    show cur.next + min (recordCount cur.table - cur.next) (recordsThatFit cur.table) ≤ recordCount cur.table
    omega
  · rfl
  · rfl

theorem State.setFallback_quiet (s : State) (p : Port) (f : Fallback) :
    Quiet s { s with classifier := s.classifier.setFallback p f } :=
  s.update_quiet _ _ _ _ rfl

/-- Each SET_SETTING takes only a value in its range (R112, R134, R139, R151, R157, R160). -/
theorem State.setSetting_upkeep {s t : State} (x : Setting) (v : Nat) (h : s.setSetting x v = some t) :
    Upkeep s t := by
  cases x with
  | portEnable p =>
    simp only [State.setSetting, State.setPortEnable, Option.ite_none_right_eq_some, Option.some.injEq] at h
    exact h.2 ▸ s.changePort_upkeep p rfl
  | fallback p =>
    simp only [State.setSetting, State.setFallback] at h
    split at h
    · cases h
      exact (s.setFallback_quiet p .pass).toUpkeep
    · simp only [Option.ite_none_right_eq_some, Option.some.injEq] at h
      exact h.2 ▸ (s.setFallback_quiet p .block).toUpkeep
  | queueLimit p c =>
    simp only [State.setSetting, State.setQueueLimit, Option.ite_none_right_eq_some, Option.some.injEq] at h
    obtain ⟨hv, rfl⟩ := h
    refine ⟨fun hs => ?_, by rw [State.setPort_endpoint]; exact id⟩
    have hlimits : ∀ q d, ((s.setPort p ((s.port p).setQueue c { (s.port p).queue c with limit := v })).port
        q).limits d ≤ 512 := fun q d => by
      by_cases hq : q = p
      · rw [hq, State.setPort_port]
        by_cases hd : d = c
        · simpa [hd, PortUnit.limits] using hv
        · simpa [PortUnit.limits, PortUnit.setQueue_queue_ne _ _ _ _ hd] using (show (s.port p).limits d ≤ 512 from hs.limits p d)
      · rw [State.port_ne s _ hq]
        exact hs.limits q d
    exact ⟨by simpa [State.settings] using hs.nodeAddress, by simpa [State.settings] using hs.sessionTimeout,
      by simpa [State.settings] using hs.verifyPeriod, hlimits, by simpa [State.settings] using hs.marks⟩
  | poolLowMark =>
    simp only [State.setSetting, State.setPoolLowMark, Option.ite_none_right_eq_some, Option.some.injEq] at h
    obtain ⟨⟨-, hbelow⟩, rfl⟩ := h
    refine ⟨fun hs => ⟨hs.nodeAddress, hs.sessionTimeout, hs.verifyPeriod, by
      simpa [State.settings] using hs.limits, ?_⟩, id⟩
    simpa [State.settings, Commons.marks] using And.intro hbelow hs.marks.2
  | poolHighMark =>
    simp only [State.setSetting, State.setPoolHighMark, Option.ite_none_right_eq_some, Option.some.injEq] at h
    obtain ⟨⟨hhigh, habove⟩, rfl⟩ := h
    refine ⟨fun hs => ⟨hs.nodeAddress, hs.sessionTimeout, hs.verifyPeriod, by
      simpa [State.settings] using hs.limits, ?_⟩, id⟩
    simpa [State.settings, Commons.marks] using And.intro habove hhigh
  | nodeAddress =>
    simp only [State.setSetting, State.setNodeAddress, Option.ite_none_right_eq_some, Option.some.injEq] at h
    obtain ⟨hv, rfl⟩ := h
    refine ⟨fun hs => ⟨?_, hs.sessionTimeout, hs.verifyPeriod, by simpa [State.settings] using hs.limits,
      hs.marks⟩, id⟩
    have hmod : v % 65536 = v := Nat.mod_eq_of_lt (by omega)
    simpa [State.settings, hmod] using hv
  | sessionTimeout =>
    simp only [State.setSetting, State.setSessionTimeout, Option.ite_none_right_eq_some, Option.some.injEq] at h
    obtain ⟨hv, rfl⟩ := h
    refine Upkeep.restartIdle (t := { s with endpoint := { s.endpoint with sessionTimeout := v } }) ⟨fun hs => ?_, id⟩
    exact ⟨hs.nodeAddress, hv, hs.verifyPeriod, by simpa [State.settings] using hs.limits, hs.marks⟩
  | verifyPeriod =>
    simp only [State.setSetting, State.setVerifyPeriod, Option.ite_none_right_eq_some, Option.some.injEq] at h
    obtain ⟨hv, rfl⟩ := h
    exact ⟨fun hs => ⟨hs.nodeAddress, hs.sessionTimeout, hv, by simpa [State.settings] using hs.limits, hs.marks⟩,
      id⟩

theorem runSetSetting_upkeeps : runSetSetting.Upkeeps := by
  refine needs_upkeeps ⟨fun c s => ?_, fun c s => ?_⟩ 4
  · split
    · split
      next h => exact State.setSetting_upkeep _ _ h
      · exact .refl s
    · exact .refl s
  · split
    · split <;> rfl
    · rfl

theorem runGetSetting_upkeeps : runGetSetting.Upkeeps := by
  refine needs_upkeeps ⟨fun c s => ?_, fun c s => ?_⟩ 2
  · split <;> exact .refl s
  · split <;> rfl

theorem runWriteTable_upkeeps : runWriteTable.Upkeeps := by
  refine needs_upkeeps ⟨fun c s => ?_, fun c s => ?_⟩ 3
  · split
    case h_5 => exact (s.update_quiet _ _ _ _ (by rfl)).toUpkeep
    all_goals exact .refl s
  · split <;> rfl

theorem runCommit_upkeeps : runCommit.Upkeeps := by
  constructor <;> intro c s <;> unfold runCommit <;> split
  · exact (s.update_quiet _ _ _ _ (by rfl)).toUpkeep
  · exact .refl s
  · rfl
  · rfl

theorem runAbortEdit_upkeeps : runAbortEdit.Upkeeps := by
  constructor <;> intro c s <;> unfold runAbortEdit <;> split
  · exact .refl s
  · exact .refl s
  · exact (s.update_quiet _ _ _ _ (by rfl)).toUpkeep
  · rfl
  · rfl
  · rfl

theorem runHits_upkeeps (clear : Bool) : (runHits clear).Upkeeps := by
  constructor <;> intro c s <;> unfold runHits <;> split
  · exact .refl s
  · split
    · exact .refl s
    · split
      · exact .refl s
      · cases clear
        · exact .refl s
        · exact (s.update_quiet _ _ _ _ (by rfl)).toUpkeep
  · rfl
  · split
    · rfl
    · split <;> rfl

theorem runPort_upkeeps (clear : Bool) : (runPort clear).Upkeeps := by
  constructor <;> intro c s <;> unfold runPort <;> split
  · exact .refl s
  · cases clear
    · exact .refl s
    · exact (Upkeep.refl s).setPort _ rfl
  · rfl
  · rfl

theorem runMeters_upkeeps (clear : Bool) : (runMeters clear).Upkeeps := by
  constructor <;> intro c s <;> unfold runMeters <;> split
  · exact .refl s
  · cases clear
    · exact .refl s
    · exact (s.update_quiet _ _ _ _ (by rfl)).toUpkeep
  · rfl
  · rfl

theorem runPrefilter_upkeeps (clear : Bool) : (runPrefilter clear).Upkeeps := by
  refine ⟨fun c s => ?_, fun c s => rfl⟩
  cases clear
  · exact .refl s
  · exact (s.update_quiet _ _ _ _ (by rfl)).toUpkeep

theorem runMgmt_upkeeps (clear : Bool) : (runMgmt clear).Upkeeps := by
  refine ⟨fun c s => ?_, fun c s => rfl⟩
  cases clear
  · exact .refl s
  · exact (s.setCommons_quiet (by rfl) (by rfl)).toUpkeep

theorem runIntegrity_upkeeps (clear : Bool) : (runIntegrity clear).Upkeeps := by
  refine ⟨fun c s => ?_, fun c s => rfl⟩
  cases clear
  · exact .refl s
  · exact (s.update_quiet _ _ _ _ (by rfl)).toUpkeep

theorem State.settling_upkeep (s : State) (by_ : SettledBy) : Upkeep s (s.settling by_) := by
  cases by_ with
  | sent p => exact s.endTransmission_upkeep p
  | linkFell p => exact s.linkPin_upkeep p .down
  | lostAtOnce => exact s.takeCommand_upkeep runRestart_upkeep _ _

/-! ### The table controller and the verify unit (R97, R101, R112 to R115) -/

theorem State.signingStep_quiet (s : State) : Quiet s s.signingStep := by
  unfold State.signingStep
  split
  · split
    · exact (s.update_quiet _ _ _ _ (by rfl)).post _
    · exact s.update_quiet _ _ _ _ rfl
  · exact .refl s

theorem State.swap_quiet (s : State) : Quiet s s.swap := by
  unfold State.swap
  split
  · exact (s.update_quiet _ _ _ _ (by rfl)).post _
  · exact .refl s

theorem State.verdictFail_quiet (s : State) : Quiet s s.verdictFail := by
  unfold State.verdictFail
  split
  · split
    · exact .refl s
    · exact (s.update_quiet _ _ _ _ (by rfl)).post _
  · exact .refl s

theorem Verify.startSweep_period (v : Verify) : v.startSweep.period = v.period := by
  unfold Verify.startSweep
  split <;> rfl

theorem Verify.sweepStep_period (v : Verify) (b : Bank) : (v.sweepStep b).period = v.period := by
  unfold Verify.sweepStep
  split <;> rfl

/-! ### The event unit (R131, R172, R174, R179) -/

theorem Commons.retryExpiry_quiet (e : Env) (x : Commons) :
    (retryExpiry e x).marks = x.marks ∧ (retryExpiry e x).output = x.output := by
  unfold retryExpiry
  split
  · split
    · split
      · simp [marks]
      · simp [exhaust, dropHead, marks]
    · exact ⟨rfl, rfl⟩
  · exact ⟨rfl, rfl⟩

theorem Commons.puntTake_quiet (e : Env) (x : Commons) :
    (puntTake e x).marks = x.marks ∧ (puntTake e x).output = x.output := by
  unfold puntTake
  split
  · split
    · simp [marks]
    · exact ⟨rfl, rfl⟩
  · exact ⟨rfl, rfl⟩

/-! ### Every command -/

/-- Every command keeps the settings in their ranges and the session record sound, and leaves no restart due. -/
theorem exec_orderly {i : Instr} {s t : State} (h : exec i s = .next t) : Orderly s t := by
  have quiet : ∀ {u : State}, Quiet s u → Orderly s u := Quiet.orderly
  have take : ∀ {run : Run} (takes perm), run.Upkeeps → Orderly s (s.takeCommand takes perm run) :=
    fun takes perm hrun => s.takeCommand_orderly hrun takes perm
  cases i with
  | pinReset pins =>
    exact holds_of_next h ⟨ResetFrom.upkeep ⟨pins.straps, pins.aLink, pins.bLink, .power, rfl⟩,
      fun _ => ⟨nofun, nofun⟩⟩
  | linkPinChange p level => exact holds_of_next h (State.settleRestart_orderly (s.linkPin_upkeep p level) _)
  | frameStart p => exact holds_of_next h (quiet (s.startReception_quiet p))
  | receptionCellClaim p bytes => exact holds_of_next h (quiet (s.receiveBytes_quiet p bytes))
  | oversizeCutoff p bytes => exact holds_of_next h (quiet (s.receiveBytes_quiet p bytes))
  | lineAbort p => exact holds_of_next h (quiet (s.abortReception_quiet p))
  | frameEnd p bytes =>
    exact holds_of_next h (quiet ((s.receiveBytes_quiet p bytes).trans (State.endReception_quiet _ p)))
  | classify => exact holds_of_next h (quiet s.classify_quiet)
  | malformedCommand => exact holds_of_next h (quiet s.discardMalformed_quiet)
  | unknownCommand | discover | readStatus =>
    exact holds_of_next h (take _ _ (.of_reply fun _ _ => rfl))
  | openSession => exact holds_of_next h (take _ _ runOpenSession_upkeeps)
  | closeSession =>
    exact holds_of_next h (take _ _ ⟨fun _ u => (u.endSession_quiet .closed).toUpkeep, fun _ _ => rfl⟩)
  | getSetting => exact holds_of_next h (take _ _ runGetSetting_upkeeps)
  | setNodeAddress | setSessionTimeout | setVerifyPeriod | setFallback | setPortEnable | setQueueLimit
  | setPoolLowMark | setPoolHighMark => exact holds_of_next h (take _ _ runSetSetting_upkeeps)
  | readTable => exact holds_of_next h (take _ _ runReadTable_upkeeps)
  | readNext => exact holds_of_next h (take _ _ runReadNext_upkeeps)
  | writeTable => exact holds_of_next h (take _ _ runWriteTable_upkeeps)
  | commit => exact holds_of_next h (take _ _ runCommit_upkeeps)
  | abortEdit => exact holds_of_next h (take _ _ runAbortEdit_upkeeps)
  | readCountersHits => exact holds_of_next h (take _ _ (counterRun_upkeeps runHits_upkeeps 7))
  | readCountersPort => exact holds_of_next h (take _ _ (counterRun_upkeeps runPort_upkeeps 3))
  | readCountersMeter => exact holds_of_next h (take _ _ (counterRun_upkeeps runMeters_upkeeps 7))
  | readCountersPrefilter => exact holds_of_next h (take _ _ (counterRun_upkeeps runPrefilter_upkeeps 3))
  | readCountersMgmt => exact holds_of_next h (take _ _ (counterRun_upkeeps runMgmt_upkeeps 3))
  | readCountersIntegrity => exact holds_of_next h (take _ _ (counterRun_upkeeps runIntegrity_upkeeps 3))
  | setListener => exact holds_of_next h (take _ _ runSetListener_upkeeps)
  | setListenerNone =>
    exact holds_of_next h (take _ _ ⟨fun _ u => u.clearListener_upkeep, fun _ _ => rfl⟩)
  | ackEvent => exact holds_of_next h (take _ _ runAckEvent_upkeeps)
  | restartLight | restartFull =>
    exact holds_of_next h (State.settleRestart_orderly (s.takeCommand_upkeep runRestart_upkeep _ _) _)
  | lightRestart by_ =>
    refine holds_of_next h ?_
    split
    next hdue =>
      have hsettled := State.settleRestart_orderly (s.settling_upkeep by_) s.straps
      rwa [State.settleRestart_light _ hdue] at hsettled
    · exact quiet (.refl s)
  | fullRestart by_ straps =>
    refine holds_of_next h ?_
    split
    next hdue =>
      have hsettled := State.settleRestart_orderly (s.settling_upkeep by_) straps
      rwa [State.settleRestart_full _ hdue] at hsettled
    · exact quiet (.refl s)
  | sessionIdleExpiry => exact holds_of_next h (quiet (s.endSession_quiet .expired))
  | signingStep => exact holds_of_next h (quiet s.signingStep_quiet)
  | swap => exact holds_of_next h (quiet s.swap_quiet)
  | refill | copyingStep | endOfCopying => exact holds_of_next h (quiet (s.update_quiet _ _ _ _ (by rfl)))
  | verifyPeriodExpiry =>
    exact holds_of_next h (quiet (s.update_quiet _ _ _ _ s.verify.startSweep_period))
  | sweepStep =>
    exact holds_of_next h (quiet (s.update_quiet _ _ _ _ (s.verify.sweepStep_period _)))
  | verdictPass =>
    refine holds_of_next h (quiet ?_)
    split
    · exact s.update_quiet _ _ _ _ rfl
    · exact .refl s
  | verdictFail => exact holds_of_next h (quiet s.verdictFail_quiet)
  | storageUpset bank table index content =>
    refine holds_of_next h (quiet ?_)
    split
    · exact s.update_quiet _ _ _ _ rfl
    · exact .refl s
  | reserveGrant =>
    exact holds_of_next h (State.settleRestart_orderly
      ((Upkeep.refl s).onCommons fun _ _ => by simp [Commons.marks]) _)
  | mgmtOutAdmit p => exact holds_of_next h (s.admitOffers_orderly p (g := fun _ x => x) fun _ _ => ⟨rfl, rfl⟩)
  | transmissionStart p => exact holds_of_next h (s.startTransmission_orderly p)
  | transmissionEnd p => exact holds_of_next h (State.settleRestart_orderly (s.endTransmission_upkeep p) _)
  | eventSend => exact holds_of_next h (quiet ((Quiet.refl s).onCommons fun _ _ => by simp [Commons.marks]))
  | retryTimerExpiry => exact holds_of_next h (quiet ((Quiet.refl s).onCommons Commons.retryExpiry_quiet))
  | puntTake => exact holds_of_next h (quiet ((Quiet.refl s).onCommons Commons.puntTake_quiet))
  | uptimeCount => exact holds_of_next h (quiet (s.setQueue_quiet _ _))

theorem step_orderly {s t : State} (h : step s = .next t) : Orderly s t := by
  unfold step at h
  split at h
  · exact holds_of_next h (Quiet.refl s).orderly
  next c rest _ =>
    have hqueue : Quiet s { s with pending := rest } :=
      .of_parts (fun p => by cases p <;> rfl) rfl rfl rfl id rfl
    have hcommand := exec_orderly h
    exact ⟨hqueue.toUpkeep.trans hcommand.toUpkeep, hcommand.due ∘ hqueue.orderly.due⟩

end Sys2Proof.Machine

namespace Sys2Proof.Settled

open Sys2Proof.Machine Sys2Proof.Safety

/-- Settles O12: a SET_SETTING takes a value in its range alone, a reset gives values in theirs, and nothing else
changes a setting. -/
theorem settingsStayInRange : Obligations.SettingsStayInRange := fun s t hs hstep =>
  (settingsInRange_iff t).mpr ((step_orderly hstep).settings ((settingsInRange_iff s).mp hs))

/-- Settles O17: a session takes its number when it opens, a cursor moves within its table, and a session that ends
leaves no record. -/
theorem sessionStaysSound : Obligations.SessionStaysSound := fun _ _ hs hstep => (step_orderly hstep).session hs

/-- Settles O20: each row that can settle the response of a RESTART applies the restart, and no other row makes one
due. -/
theorem noRestartStaysDue : Obligations.NoRestartStaysDue := fun _ _ hs hstep => (step_orderly hstep).due hs

end Sys2Proof.Settled
end

section
/-! PROOF. Resets and restarts: the values that a reset leaves, the two restarts as the end of their response brings them
about, and the two timers of the endpoint (R149, R157, R165, R166, R177). -/

set_option Elab.async false

namespace Sys2Proof.Machine

open Sys2Proof.Safety

/-! ### Events that join one after another (R169) -/

namespace Commons

theorem accept_mgmt (e : Env) (k : EventKind) (x : Commons) :
    { (accept e k x).mgmt with eventsLost := x.mgmt.eventsLost } = x.mgmt := by
  unfold accept
  split <;> rfl

theorem acceptAll_mgmt (e : Env) (ks : List EventKind) (x : Commons) :
    { (ks.foldl (fun y k => accept e k y) x).mgmt with eventsLost := x.mgmt.eventsLost } = x.mgmt := by
  induction ks generalizing x with
  | nil => rfl
  | cons k ks ih =>
    have hrest := congrArg (fun m : MgmtCounters => { m with eventsLost := x.mgmt.eventsLost }) (ih (accept e k x))
    exact hrest.trans (accept_mgmt e k x)

theorem acceptAll_nonempty (e : Env) {ks : List EventKind} {x : Commons} (h : ks ≠ [] ∨ x.events.queue ≠ []) :
    (ks.foldl (fun y k => accept e k y) x).events.queue ≠ [] := by
  induction ks generalizing x with
  | nil => exact h.resolve_left fun hne => hne rfl
  | cons k ks ih =>
    obtain ⟨r, rest, hqueue⟩ := accept_nonempty e k x
    exact ih (.inr (by rw [hqueue]; exact List.cons_ne_nil r rest))

/-- Where there is room for them all, events join the tail of the queue and none is lost. -/
theorem acceptAll_room (e : Env) (ks : List EventKind) {x : Commons} (h : x.events.queue.length + ks.length ≤ 16) :
    let y := ks.foldl (fun y k => accept e k y) x
    (∃ more, y.events.queue = x.events.queue ++ more) ∧ y.events.lost = x.events.lost ∧ y.mgmt = x.mgmt := by
  induction ks generalizing x with
  | nil => exact ⟨⟨[], (List.append_nil _).symm⟩, rfl, rfl⟩
  | cons k ks ih =>
    rw [List.length_cons] at h
    have hroom : x.events.queue.length < Config.eventDepth := by
      simp only [Config.eventDepth]
      omega
    have hone : accept e k x = { x with events := { x.events with
        queue := x.events.queue ++
          [{ seq := x.events.nextSeq, uptime := e.uptime, generation := e.generation, kind := k }]
        nextSeq := seqAfter x.events.nextSeq } } := by
      simp only [accept, if_pos hroom]
    obtain ⟨⟨more, hqueue⟩, hlost, hmgmt⟩ := ih (x := accept e k x) (by
      rw [hone]
      simp only [List.length_append, List.length_singleton]
      omega)
    rw [hone] at hqueue hlost hmgmt
    rw [List.foldl_cons, hone]
    exact ⟨⟨_, hqueue.trans (List.append_assoc _ _ _)⟩, hlost, hmgmt⟩

end Commons

/-! ### A LIGHT restart (R149, R177) -/

section
variable (v : State)

/-- The shared blocks of a LIGHT restart once its events have joined, before the send. -/
def State.lightCommons : Commons :=
  v.lightEvents.foldl (fun y k => Commons.accept v.lightBlocks.env k y) v.lightBlocks.commons

theorem State.lightRestart_commons :
    v.lightRestart.commons = Commons.trySend v.lightBlocks.env v.lightCommons := rfl

theorem State.lightRestart_pool : v.lightRestart.commons.pool.free = List.finRange Config.generalCells ∧
    v.lightRestart.commons.pool.low = decide (Config.generalCells < v.commons.pool.lowMark) ∧
    v.lightRestart.commons.pool.lowMark = v.commons.pool.lowMark ∧
    v.lightRestart.commons.pool.highMark = v.commons.pool.highMark := by
  obtain ⟨hpool, -⟩ := Commons.acceptAll_frame v.lightBlocks.env v.lightEvents v.lightBlocks.commons
  have hlight : v.lightCommons.pool = v.commons.pool.lightRestart := hpool
  simp only [State.lightRestart_commons, Commons.trySend_frame, hlight]
  dsimp only [Pool.lightRestart]
  exact ⟨rfl, rfl, rfl, rfl⟩

theorem State.lightRestart_shared : v.lightRestart.commons.frames = [] ∧
    v.lightRestart.commons.events.puntQueue = [] ∧ v.lightRestart.commons.events.punt = .idle ∧
    v.lightRestart.commons.events.listener = v.commons.events.listener ∧
    { v.lightRestart.commons.mgmt with eventsLost := v.commons.mgmt.eventsLost } = v.commons.mgmt := by
  obtain ⟨-, hframes, -, -, -, -, hlistener, -, hpunts, hpunt⟩ :=
    Commons.acceptAll_frame v.lightBlocks.env v.lightEvents v.lightBlocks.commons
  have hmgmt := Commons.acceptAll_mgmt v.lightBlocks.env v.lightEvents v.lightBlocks.commons
  simp only [State.lightRestart_commons, Commons.trySend_frame]
  have hkept : v.lightBlocks.commons.mgmt = v.commons.mgmt := by
    simp only [State.lightBlocks, Commons.lightRestart]
  rw [hkept] at hmgmt
  exact ⟨hframes, hpunts, hpunt, hlistener, hmgmt⟩

/-- Without a listener on an UP port no send follows a LIGHT restart. -/
theorem State.lightRestart_stays
    (h : ∀ l : Listener, v.commons.events.listener = some l → (v.port l.port).oper ≠ .up) :
    v.lightRestart.commons.mgmtOutA = [] ∧ v.lightRestart.commons.mgmtOutB = [] ∧
      v.lightRestart.commons.pool.freeReserve = 24 ∧ v.lightRestart.commons.events.sender = .idle := by
  obtain ⟨hpool, -, -, hA, hB, -, hlistener, hsender, -, -⟩ :=
    Commons.acceptAll_frame v.lightBlocks.env v.lightEvents v.lightBlocks.commons
  have hstays : v.lightRestart.commons = v.lightCommons := Commons.trySend_stays v.lightBlocks _ <| .inr fun l hl => by
    have hoper : (v.lightBlocks.port l.port).oper = (v.port l.port).oper := by cases l.port <;> rfl
    rw [hoper]
    exact h l (hlistener.symm.trans hl)
  rw [hstays]
  exact ⟨hA, hB, congrArg Pool.freeReserve hpool, hsender⟩

/-- With one the report of the oldest event joins its queue at once, with the lost count that the events left (log
4). -/
theorem State.lightRestart_sends {l : Listener} (hl : v.commons.events.listener = some l)
    (hup : (v.port l.port).oper = .up) :
    (∃ report : Built, report.builder = .event ∧ v.lightRestart.commons.mgmtOut l.port = [report]) ∧
      v.lightRestart.commons.mgmtOut (otherPort l.port) = [] ∧ v.lightRestart.commons.pool.freeReserve = 23 ∧
      v.lightRestart.commons.events.sender = .awaiting
        { retry := 0, captured := v.lightRestart.commons.events.lost, timer := true, flight := .queued } := by
  obtain ⟨hpool, -, -, hA, hB, houtput, hlistener, hsender, -, -⟩ :=
    Commons.acceptAll_frame v.lightBlocks.env v.lightEvents v.lightBlocks.commons
  have hout : ∀ q, v.lightCommons.mgmtOut q = [] := fun q => by
    cases q
    · exact hA
    · exact hB
  have hreserve : v.lightCommons.pool.freeReserve = 24 := congrArg Pool.freeReserve hpool
  have hidle : v.lightCommons.output = .idle := houtput
  obtain ⟨r, rest, hqueue⟩ := List.exists_cons_of_ne_nil (Commons.acceptAll_nonempty v.lightBlocks.env
    (ks := v.lightEvents) (x := v.lightBlocks.commons) (.inl (by simp [State.lightEvents])))
  have hoper : (v.lightBlocks.port l.port).oper = .up := by
    rw [← hup]
    cases l.port <;> rfl
  have hsends := Commons.trySend_begins v.lightBlocks v.lightCommons l r rest hsender (hlistener.trans hl) hoper hqueue
  have hclaims : v.lightCommons.responseClaimWaits = false := by simp [Commons.responseClaimWaits, hidle]
  have hoffers : v.lightCommons.responseOfferWaits l.port = false := by simp [Commons.responseOfferWaits, hidle]
  have hroom : v.lightCommons.hasRoom l.port = true := (Commons.hasRoom_iff _ _).mpr (by rw [hout]; decide)
  simp only [hclaims, hreserve, hroom, hoffers, and_self, if_true, Bool.false_eq_true, false_or,
    (by decide : ¬24 = 0), if_false] at hsends
  rw [State.lightRestart_commons, hsends]
  refine ⟨⟨eventReport l v.lightBlocks.endpoint.nodeAddress r v.lightCommons.events.lost, rfl, ?_⟩, ?_, ?_, ?_⟩
  · rw [show l.port = (eventReport l v.lightBlocks.endpoint.nodeAddress r v.lightCommons.events.lost).port from rfl,
      Commons.admitEvent_eq]
    cases hp : l.port
    · simpa [eventReport, hp, Commons.mgmtOut] using hout .a
    · simpa [eventReport, hp, Commons.mgmtOut] using hout .b
  · rw [Commons.admitEvent_eq]
    cases hp : l.port
    · simpa [otherPort, eventReport, hp, Commons.mgmtOut] using hout .b
    · simpa [otherPort, eventReport, hp, Commons.mgmtOut] using hout .a
  · simp [hreserve]
  · simp [Commons.admitEvent]

end

/-! ### The end of the response of a RESTART (R143, R165) -/

section
variable {s : State} {p : Port} {w : List Byte} {b : Built} {k : RestartKind}
  (htx : (s.port p).tx = some { source := .built b, wire := w }) (hb : b.builder = .response (some k))
  (hpending : s.commons.output = .restartPending k)

/-- The shared blocks when the response of a RESTART was reported SENT and its cells are free, before the grants. -/
def Commons.restartFalls (x : Commons) (b : Built) (k : RestartKind) : Commons :=
  { x.giveReserve b.cells with output := .restartDue k }

include htx hb hpending

theorem State.endTransmission_restart : s.endTransmission p =
    { s.setPort p { (s.port p).count .transmittedMgmt with tx := none } with
      commons := Commons.arbiter s.env (s.commons.restartFalls b k) } := by
  have hfate : s.commons.reportFate .sent b = { s.commons with output := .restartDue k } := by
    simp only [Commons.reportFate, hb, hpending, if_true]
  rw [State.endTransmission_built htx, State.onCommons, State.setPort_commons, State.setPort_env]
  · simp only [Commons.releaseReserve, hfate]
    rfl
  · rfl

theorem State.endTransmission_due : (s.endTransmission p).commons.output = .restartDue k := by
  have hleaves := Commons.arbiter_leaves (x := s.commons.restartFalls b k) s.env fun _ => by simp [Commons.restartFalls]
  rw [State.endTransmission_restart htx hb hpending]
  exact congrArg Prod.fst hleaves

end

/-- The counters and the transmitter are no link pin. -/
theorem State.setPort_links (s : State) (p : Port) {u : PortUnit} (hu : u.link = (s.port p).link) :
    (s.setPort p u).portA.link = s.portA.link ∧ (s.setPort p u).portB.link = s.portB.link := by
  cases p
  · exact ⟨hu, rfl⟩
  · exact ⟨rfl, hu⟩

/-! ### What the end of the response leaves of the part (R143, R144) -/

/-- The grants that come before a restart leave the management counters but those of lost events. -/
theorem Commons.restartFalls_mgmt (e : Env) (x : Commons) (b : Built) (k : RestartKind) :
    { (arbiter e (x.restartFalls b k)).mgmt with eventsLost := x.mgmt.eventsLost } = x.mgmt := by
  have hleaves := arbiter_leaves (x := x.restartFalls b k) e fun _ => by simp [restartFalls]
  obtain ⟨-, -, -, hoverrun, hmalformed, hpunts, -⟩ := arbiter_frame e (x.restartFalls b k)
  have hlost : (arbiter e (x.restartFalls b k)).mgmt.respLost = x.mgmt.respLost := congrArg Prod.snd hleaves
  simp only [hoverrun, hmalformed, hpunts, hlost]
  rfl

/-- Where the punt side is idle, they leave the event queue, the lost count and the pool's state too. -/
theorem Commons.restartFalls_idle (e : Env) {x : Commons} (b : Built) (k : RestartKind)
    (hpunt : x.events.punt = .idle) :
    (arbiter e (x.restartFalls b k)).events.queue = x.events.queue ∧
      (arbiter e (x.restartFalls b k)).events.lost = x.events.lost ∧
      (arbiter e (x.restartFalls b k)).mgmt = x.mgmt ∧
      (arbiter e (x.restartFalls b k)).pool.low = x.pool.low := by
  have hidle : (grantEvent e (x.restartFalls b k)).events.punt ≠ .claiming := by
    rw [(grantEvent_frame e _).2.2.2.2.2.2.2.2.2.2.2.2.2]
    simp [restartFalls, hpunt]
  have hgrants : arbiter e (x.restartFalls b k) = grantEvent e (x.restartFalls b k) := by
    rw [arbiter_of_not_claiming e fun _ => by simp [restartFalls], grantPunt_of_not_claiming hidle, ite_self]
  rw [hgrants]
  simp [restartFalls]

/-- What the end of the response of a RESTART at port `p` leaves of the part (log 25: the grants come before the
restart). -/
structure ResponseEnded (s v : State) (p : Port) : Prop where
  straps : v.straps = s.straps
  endpoint : v.endpoint = s.endpoint
  classifier : v.classifier = s.classifier
  prefilter : v.prefilter = s.prefilter
  meters : v.meters = s.meters
  tables : v.tables = s.tables
  verify : v.verify = s.verify
  port : v.port p = { (s.port p).count .transmittedMgmt with tx := none }
  others : ∀ q, q ≠ p → v.port q = s.port q
  lowMark : v.commons.pool.lowMark = s.commons.pool.lowMark
  highMark : v.commons.pool.highMark = s.commons.pool.highMark
  listener : v.commons.events.listener = s.commons.events.listener
  mgmt : { v.commons.mgmt with eventsLost := s.commons.mgmt.eventsLost } = s.commons.mgmt
  still : s.commons.events.punt = .idle → v.commons.events.queue = s.commons.events.queue ∧
    v.commons.events.lost = s.commons.events.lost ∧ v.commons.mgmt = s.commons.mgmt ∧
    v.commons.pool.low = s.commons.pool.low

theorem State.endTransmission_ended {s : State} {p : Port} {w : List Byte} {b : Built} {k : RestartKind}
    (htx : (s.port p).tx = some { source := .built b, wire := w }) (hb : b.builder = .response (some k))
    (hpending : s.commons.output = .restartPending k) : ResponseEnded s (s.endTransmission p) p := by
  obtain ⟨hlow, hhigh, -, -, -, -, hlistener⟩ := Commons.arbiter_frame s.env (s.commons.restartFalls b k)
  rw [State.endTransmission_restart htx hb hpending]
  refine ⟨s.setPort_straps p _, s.setPort_endpoint p _, s.setPort_classifier p _, s.setPort_prefilter p _,
    s.setPort_meters p _, s.setPort_tables p _, s.setPort_verify p _, by cases p <;> rfl, fun q hq => ?_,
    hlow, hhigh, hlistener, s.commons.restartFalls_mgmt s.env b k, Commons.restartFalls_idle s.env b k⟩
  rw [eq_otherPort_of_ne hq]
  cases p <;> rfl

namespace ResponseEnded

variable {s v : State} {p : Port} (h : ResponseEnded s v p)

include h

theorem oper (q : Port) : (v.port q).oper = (s.port q).oper := by
  by_cases hq : q = p
  · rw [hq, h.port]
    rfl
  · rw [h.others q hq]

/-- The response is counted as transmitted at its port, and no other counter rises. -/
theorem counted : (v.port p).counter .transmittedMgmt = satInc ((s.port p).counter .transmittedMgmt) := by
  rw [h.port]
  exact PortUnit.count_counter (s.port p) .transmittedMgmt

theorem counter (q : Port) {k : PortCounter} (hk : q ≠ p ∨ k ≠ .transmittedMgmt) :
    (v.port q).counter k = (s.port q).counter k := by
  by_cases hq : q = p
  · rw [hq, h.port]
    exact PortUnit.count_counter_ne _ (hk.resolve_left fun hne => hne hq)
  · rw [h.others q hq]

/-- Neither the setting nor the pin of a port changes, nor the limit of a class queue. -/
theorem kept (q : Port) : (v.port q).enabled = (s.port q).enabled ∧ (v.port q).link = (s.port q).link ∧
    (v.port q).queues = (s.port q).queues := by
  by_cases hq : q = p
  · rw [hq, h.port]
    exact ⟨rfl, rfl, rfl⟩
  · rw [h.others q hq]
    exact ⟨rfl, rfl, rfl⟩

end ResponseEnded

/-! ### The blocks of a LIGHT restart (R107, R117, R128, R147, R149) -/

/-- Tables and activation are kept; SIGNING or COPYING is abandoned and leaves the bank dirty (R107). -/
theorem Controller.lightRestart_editing (c : Controller) : c.lightRestart =
    { c with state := .editing, dirty := c.dirty || decide (c.state ≠ .editing), origin := none } := by
  unfold Controller.lightRestart
  split
  · next hstate => simp [hstate]
  · next hstate => simp [show c.state ≠ .editing from hstate]

theorem State.lightRestart_port (v : State) (q : Port) : v.lightRestart.port q = (v.port q).lightRestart := by
  cases q <;> rfl

theorem PortUnit.lightRestart_queue (u : PortUnit) (c : Fin 4) :
    u.lightRestart.queue c = { entries := [], limit := (u.queue c).limit } := by
  simp [PortUnit.queue, PortUnit.lightRestart]

theorem State.lightRestart_meter (v : State) (m : Fin 64) :
    v.lightRestart.meters[m] = { v.meters[m] with tokens := meterBurst v.tables.activeBank m.val } :=
  fillMeters_getElem _ _ m

/-- The events of a LIGHT restart where the low mark is one that the pool can have (R134, R135). -/
theorem State.lightEvents_marks {v : State} (h : v.commons.pool.lowMark ≤ 512) : v.lightEvents =
    [.restarted .light] ++ v.openEnds ++ if v.commons.pool.low then [.poolOk 512] else [] := by
  have hlow : v.commons.pool.lightRestart.low = false := by
    refine decide_eq_false ?_
    have h512 : Config.generalCells = 512 := rfl
    omega
  rw [State.lightEvents, hlow, Bool.not_false, Bool.and_true]
  rfl

/-- At most three events join at a LIGHT restart: after what stands in the queue, where there is room for three. -/
theorem State.lightRestart_queue {v : State} (hmarks : v.commons.pool.lowMark ≤ 512)
    (hroom : v.commons.events.queue.length ≤ 13) :
    v.lightRestart.commons.events.queue.take v.commons.events.queue.length = v.commons.events.queue ∧
      v.lightRestart.commons.events.lost = v.commons.events.lost ∧ v.lightRestart.commons.mgmt = v.commons.mgmt ∧
      v.lightRestart.commons.events.queue.map (·.kind) = v.commons.events.queue.map (·.kind) ++ v.lightEvents := by
  have hcount : v.lightEvents.length ≤ 3 := by
    rw [State.lightEvents_marks hmarks, State.openEnds]
    cases v.endpoint.session <;> cases v.commons.pool.low <;> simp
  have hqueue : v.lightBlocks.commons.events.queue = v.commons.events.queue := by
    simp only [State.lightBlocks, Commons.lightRestart, EventUnit.lightRestart]
  have hfits : v.commons.events.queue.length + v.lightEvents.length ≤ 16 := by omega
  obtain ⟨⟨more, hjoined⟩, hlost, hmgmt⟩ := Commons.acceptAll_room v.lightBlocks.env v.lightEvents
    (x := v.lightBlocks.commons) (by rwa [hqueue])
  have hkinds := State.lightRestart_kinds (v := v) (by simpa [Commons.kinds] using hfits)
  rw [Commons.kinds, Commons.kinds] at hkinds
  refine ⟨?_, ?_, ?_, hkinds⟩
  · rw [State.lightRestart_commons]
    simp only [Commons.trySend_frame, State.lightCommons, hjoined, hqueue, List.take_left]
  · rw [State.lightRestart_commons]
    simp only [Commons.trySend_frame, State.lightCommons, hlost]
    simp only [State.lightBlocks, Commons.lightRestart, EventUnit.lightRestart]
  · rw [State.lightRestart_commons]
    simp only [Commons.trySend_frame, State.lightCommons, hmgmt]
    simp only [State.lightBlocks, Commons.lightRestart]

end Sys2Proof.Machine

namespace Sys2Proof.Settled

open Sys2Proof.Machine Sys2Proof.Safety

/-- Settles O3: every block takes the value that its own rule gives it. -/
theorem pinResetGivesResetValues : Obligations.PinResetGivesResetValues := by
  intro pins s
  have hfree : (s.pinReset pins).commons.pool.free = List.finRange 512 := by
    dsimp only [State.pinReset, State.afterReset, Commons.afterReset, Config.generalCells]
  refine ⟨s.pinReset pins, rfl, rfl, rfl, rfl, rfl, ?_, fun c => ?_, rfl, rfl, rfl, rfl, rfl, rfl, rfl, rfl, rfl,
    fun p => ?_, rfl, rfl, rfl, rfl, rfl, rfl, fun p => ?_, fun n => ?_, rfl, fun m => ?_, fun a => ⟨rfl, rfl⟩, rfl,
    rfl, rfl, rfl, rfl, rfl, rfl⟩
  · rw [Pool.freeGeneral, hfree, List.length_finRange]
  · rw [hfree]
    exact List.mem_finRange c
  · cases p <;> simp [State.pinReset, State.port, State.afterReset, PortUnit.afterReset, PortUnit.counter,
      PortUnit.queue]
  · cases p <;> rfl
  · simp [State.pinReset, State.afterReset, Classifier.afterReset, HitCounter.zero]
  · simp [State.pinReset, State.afterReset]

/-- Settles O4: the report SENT makes the restart due, and a due FULL restart takes effect on the straps of its row. -/
theorem fullRestartTakesEffect : Obligations.FullRestartTakesEffect := by
  intro p straps s b w htx hb hpending
  have hdue := State.endTransmission_due htx hb hpending
  obtain ⟨hA, hB⟩ := s.setPort_links p (u := { (s.port p).count .transmittedMgmt with tx := none }) rfl
  have hreset : ∀ straps, (s.endTransmission p).fullRestart straps =
      { State.afterReset straps s.portA.link s.portB.link .full with pending := s.pending } := fun straps => by
    rw [State.endTransmission_restart htx hb hpending]
    simp only [State.fullRestart, hA, hB, State.setPort_pending]
  have hrow : exec (.fullRestart (.sent p) straps) s = .next ((s.endTransmission p).fullRestart straps) :=
    congrArg Host.Outcome.next (if_pos hdue)
  have hend : exec (.transmissionEnd p) s = .next ((s.endTransmission p).fullRestart s.straps) :=
    congrArg Host.Outcome.next (State.settleRestart_full _ hdue)
  rw [hrow, hend, hreset, hreset]
  exact ⟨rfl, rfl⟩

/-- Settles O5: the end of the response leaves all but the transmitter, the counters and the grants, and then each block
restarts by its own rule. -/
theorem lightRestartKeepsAndClears : Obligations.LightRestartKeepsAndClears := by
  intro p s b w htx hb hpending hmarks
  have hdue := State.endTransmission_due htx hb hpending
  have hended := State.endTransmission_ended htx hb hpending
  have hrow : exec (.lightRestart (.sent p)) s = .next (s.endTransmission p).lightRestart :=
    congrArg Host.Outcome.next (if_pos hdue)
  have hend : exec (.transmissionEnd p) s = .next (s.endTransmission p).lightRestart :=
    congrArg Host.Outcome.next (State.settleRestart_light _ hdue)
  generalize s.endTransmission p = v at hdue hended hrow hend
  obtain ⟨hfree, hpool, hlowKept, hhighKept⟩ := v.lightRestart_pool
  obtain ⟨hframes, hpuntQueue, hpunt, hlistened, hcounts⟩ := v.lightRestart_shared
  have hlowMark : v.commons.pool.lowMark ≤ 512 := hended.lowMark.trans_le hmarks
  have htables : v.lightRestart.tables = s.tables.lightRestart := congrArg Controller.lightRestart hended.tables
  refine ⟨v.lightRestart, hrow, hend, ?_⟩
  rw [htables, Controller.lightRestart_editing, ← hended.classifier, ← hended.endpoint, ← hended.verify]
  refine ⟨rfl, rfl, rfl, rfl, rfl, rfl, rfl, rfl, rfl, hended.prefilter, hended.straps, rfl, rfl, fun m => ?_,
    fun q => ?_, hframes, ?_, fun c => ?_, ?_, hlowKept.trans hended.lowMark, hhighKept.trans hended.highMark, ?_,
    hpuntQueue, hpunt, hlistened.trans hended.listener, v.lightRestart_idle, fun hdown => ?_, fun l hl hup => ?_,
    fun hstill hroom => ?_⟩
  · rw [v.lightRestart_meter, hended.tables, hended.meters]
  · obtain ⟨henabled, hlink, hqueues⟩ := hended.kept q
    rw [v.lightRestart_port, v.lightRestart_port]
    exact ⟨henabled, hlink, rfl, rfl, fun c => by rw [PortUnit.lightRestart_queue, PortUnit.queue, hqueues]; rfl,
      hended.counted, fun k hk => hended.counter q hk⟩
  · rw [Pool.freeGeneral, hfree]
    exact List.length_finRange
  · rw [hfree]
    exact List.mem_finRange c
  · rw [hpool]
    exact decide_eq_false (Nat.not_lt.mpr hlowMark)
  · rw [← hended.mgmt, ← hcounts]
  · exact v.lightRestart_stays fun l hl => by rw [hended.oper]; exact hdown l (hended.listener.symm.trans hl)
  · exact v.lightRestart_sends (hended.listener.trans hl) (by rw [hended.oper]; exact hup)
  · obtain ⟨hqueue, hlost, hmgmt, hlow⟩ := hended.still hstill
    have hrestarted := State.lightRestart_queue hlowMark (by rwa [hqueue])
    rw [State.lightEvents_marks hlowMark, hqueue, hlost, hmgmt, hlow, ← List.append_assoc, ← List.append_assoc]
      at hrestarted
    exact hrestarted

/-- Settles O6: all cells are free, all queues but the event queue empty, and every setting at its reset value. -/
theorem resetIsSound : Obligations.ResetIsSound := by
  have hreset : ResetFrom State.reset State.reset := ⟨_, _, _, _, rfl⟩
  have hcells : (heldCells State.reset ++ State.reset.commons.pool.free).map Fin.val = List.range 512 := by
    decide +kernel
  have hmeters : MetersBounded State.reset := State.afterReset_metersBounded _ _ _ _ []
  have hframes : State.reset.commons.frames = [] := rfl
  have hnames : State.reset.names ++ State.reset.commons.events.puntQueue = [] := by decide +kernel
  have hholders : HoldersCounted State.reset := (holdersCounted_iff _).mpr
    ⟨by simp [hframes], by simp [hframes], by simp [hnames]⟩
  exact ⟨⟨rfl, rfl⟩, Laws.generalConserved_of_range _ hcells, by decide +kernel, hholders, hreset.bounded,
    by decide, by decide +kernel, by decide, hmeters, by decide, by decide, by decide, by decide, by decide⟩

/-- Settles O53: a count of the uptime, and a session that ends where one is open. -/
theorem uptimeAndIdleTimer : Obligations.UptimeAndIdleTimer := by
  intro s
  refine ⟨rfl, fun hnone => congrArg Host.Outcome.next (by simp only [State.endSession, hnone]), fun o ho => ?_⟩
  let ended : State := { s with endpoint := { s.endpoint with session := none } }
  have hends : s.endSession .expired = ended.post (.sessionEnded .expired o.node o.number) := by
    simp only [State.endSession, ho]
    rfl
  exact ⟨s.endSession .expired, rfl, by rw [hends]; rfl, by rw [hends]; rfl, by
    rw [hends]
    exact Commons.post_postedOn s _ s.commons⟩

end Sys2Proof.Settled
end

section
/-! PROOF. The order of tests of a command and what becomes of its response: short, unknown and foreign commands,
replays, refused permissions, and the fate of a response frame (R152 to R158). -/

set_option Elab.async false

namespace Sys2Proof.Machine

open Sys2Proof.Safety

/-! ### The command rows (10.6) -/

/-- Every command row takes the commands that 12.4 gives it and judges them; the two rows of RESTART settle a restart
besides. -/
theorem exec_commandRow {i : Instr} (hi : isCommandRow i = true) : ∃ (perm : Command → Permission) (run : Run),
    (isOwnerRow i = true → perm = always .owner) ∧
    ∀ s, exec i s = .next (s.takeCommand (rowTakes i) perm run) ∨
      exec i s = .next ((s.takeCommand (rowTakes i) perm run).settleRestart s.straps) := by
  cases i with
  | unknownCommand | discover | openSession | getSetting | readTable | readStatus | ackEvent
  | readCountersHits | readCountersPort | readCountersMeter | readCountersPrefilter | readCountersMgmt
  | readCountersIntegrity => exact ⟨_, _, nofun, fun _ => .inl rfl⟩
  | closeSession | setNodeAddress | setSessionTimeout | setVerifyPeriod | setFallback | setPortEnable | setQueueLimit
  | setPoolLowMark | setPoolHighMark | readNext | writeTable | commit | abortEdit | setListener | setListenerNone =>
    exact ⟨_, _, fun _ => rfl, fun _ => .inl rfl⟩
  | restartLight | restartFull => exact ⟨_, _, fun _ => rfl, fun _ => .inr rfl⟩
  | _ => cases hi

/-- Where the tests of R152 answer a command in the same way whatever its row is, the row that takes it does no more,
and any other row leaves the part as it is (log 5). -/
theorem exec_commandRow_answers {i : Instr} {s : State} {f : RxFrame} (hi : isCommandRow i = true) (hf : Takes s f)
    {t : State} {r : Reply} (hr : r.restart = none)
    (hjudge : ∀ (perm : Command → Permission) (run : Run), (isOwnerRow i = true → perm = always .owner) →
      s.takeHead.judge perm run (readCommand f) = t.respond (readCommand f) r) :
    exec i s = .next (if rowTakes i (readCommand f) = true then t.respond (readCommand f) r else s) := by
  obtain ⟨perm, run, hperm, hexec⟩ := exec_commandRow hi
  have htaken : s.takeCommand (rowTakes i) perm run =
      if rowTakes i (readCommand f) = true then t.respond (readCommand f) r else s := by
    split
    next ht => rw [State.takeCommand_judge _ _ _ hf ht, hjudge perm run hperm]
    next ht => rw [State.takeCommand_other _ _ _ hf.1 (Bool.not_eq_true _ ▸ ht)]
  have hidle : NoRestartDue s := by
    rw [NoRestartDue, State.headFrame_idle hf.1]
    exact ⟨nofun, nofun⟩
  have hdue : NoRestartDue (s.takeCommand (rowTakes i) perm run) := by
    rw [htaken]
    split
    · exact State.respond_not_due t _ hr
    · exact hidle
  rcases hexec s with heq | heq
  · rw [heq, htaken]
  · rw [heq, State.settleRestart_none _ hdue, htaken]

/-- A replay copy answers a retransmission before the permission is tested (R152, R158). -/
theorem State.judge_replay {s : State} (perm : Command → Permission) (run : Run) {c : Command} {r : Response}
    (hversion : c.version = 1#8) (hr : s.replayOf c = some r) : s.judge perm run c = s.restartIdle.respond c
      { status := r.status, detail := r.detail, session := none, body := r.body, restart := none } := by
  simp [State.judge, hversion, hr]

/-- Only the owner has a replay copy (R158). -/
theorem State.replayOf_eq_none {s : State} {c : Command} (h : s.isOwner c = false) : s.replayOf c = none := by
  unfold State.isOwner at h
  unfold State.replayOf
  split
  next o ho =>
    rw [ho] at h
    rw [if_neg (by simp [show o.owns c = false from h])]
  · rfl

/-- The owner's permission refuses another node (R155). -/
theorem State.permissionFails_owner {s : State} {c : Command} (h : s.isOwner c = false) :
    s.permissionFails .owner c = some (if s.endpoint.session.isSome then .notOwner else .noSession) := by
  unfold State.permissionFails
  simp only [h, Bool.false_eq_true, if_false]
  split <;> rfl

/-! ### Taking the head (R132, R154) -/

theorem State.takeHead_cons {s : State} {id : Nat} {rest : List Nat} (h : s.endpoint.commands = id :: rest) :
    s.takeHead = { s with endpoint := { s.endpoint with commands := rest } }.release id := by
  simp only [State.takeHead, h]

/-! ### The header of a command (12.4, R153, R155) -/

/-- A payload of at least 4 bytes is a header and what follows it. -/
theorem header_append_drop {l : List Byte} (h : 4 ≤ l.length) :
    l = [byteAt l 0, byteAt l 1, byteAt l 2, byteAt l 3] ++ l.drop 4 := by
  obtain ⟨a, l, rfl⟩ := List.exists_cons_of_length_pos (by omega : 0 < l.length)
  obtain ⟨b, l, rfl⟩ := List.exists_cons_of_length_pos (by simp at h; omega : 0 < l.length)
  obtain ⟨c, l, rfl⟩ := List.exists_cons_of_length_pos (by simp at h; omega : 0 < l.length)
  obtain ⟨d, l, rfl⟩ := List.exists_cons_of_length_pos (by simp at h; omega : 0 < l.length)
  rfl

theorem Session.owns_iff (o : Session) (c : Command) :
    o.owns c = true ↔ c.src = o.node ∧ c.port = o.port ∧ c.session = o.number := by
  simp [Session.owns, and_assoc]

theorem State.isOwner_iff (s : State) (c : Command) : s.isOwner c = true ↔
    ∃ o, s.endpoint.session = some o ∧ c.src = o.node ∧ c.port = o.port ∧ c.session = o.number := by
  unfold State.isOwner
  cases s.endpoint.session with
  | none => simp
  | some o => simp [Session.owns_iff]

theorem State.replayOf_iff (s : State) (c : Command) (r : Response) : s.replayOf c = some r ↔
    ∃ o, s.endpoint.session = some o ∧ c.src = o.node ∧ c.port = o.port ∧ c.session = o.number ∧
      o.lastSeq = some c.seq ∧ o.replay = some r := by
  unfold State.replayOf
  cases s.endpoint.session with
  | none => simp
  | some o => simp [Session.owns_iff, ite_eq_iff, and_assoc]

/-! ### The end of an owner command (R155, R157) -/

@[simp] theorem State.respond_endpoint (s : State) (c : Command) (r : Reply) :
    (s.respond c r).endpoint = s.endpoint := rfl

theorem State.recordOwner_endpoint (t : State) (c : Command) (r : Reply) : (t.recordOwner c r).endpoint =
    { t.endpoint with session := t.endpoint.session.map fun o =>
      { o with
        timer := 100 * t.endpoint.sessionTimeout
        lastSeq := some c.seq
        replay := some (makeResponse c r) } } := by
  simp only [State.recordOwner, State.restartIdle, State.withSession, Option.map_map]
  rfl

theorem answered_endpoint (s t : State) (c : Command) (r : Reply) : (answered s t c r).endpoint =
    if s.isOwner c = true then (t.recordOwner c r).endpoint else t.endpoint := by
  rw [answered, State.respond_endpoint, apply_ite State.endpoint]

/-! ### The fate of a response (R131, R140, R153) -/

namespace Commons

variable {e : Env} {x : Commons} {b : Built}

/-- A response whose cells are not free waits for them, and the arbiter grants nothing of lower rank. -/
theorem arbiter_waits (h : x.output = .claiming b) (hshort : x.pool.freeReserve < b.cells) : arbiter e x = x := by
  have hwaits : x.responseClaimWaits = true := (responseClaimWaits_iff x).mpr ⟨b, h⟩
  rw [arbiter_eq, grantResponse_short h hshort, if_pos hwaits]

/-- A response that finds its queue full waits for room. -/
theorem grantResponse_offers (h : x.output = .claiming b) (hup : e.up b.port = true)
    (hfull : 4 ≤ (x.mgmtOut b.port).length) (hcells : b.cells ≤ x.pool.freeReserve) :
    grantResponse e x = { x.takeReserve b.cells with output := .offering b } := by
  have hnone : (x.takeReserve b.cells).hasRoom b.port ≠ true := by
    rw [Ne, hasRoom_iff, Nat.not_lt]
    cases hp : b.port <;> simpa [mgmtOut, hp] using hfull
  simp only [grantResponse, h, if_pos hcells, offerResponse, hup, if_true, if_neg hnone]

theorem arbiter_offers (h : x.output = .claiming b) (hup : e.up b.port = true)
    (hfull : 4 ≤ (x.mgmtOut b.port).length) (hcells : b.cells ≤ x.pool.freeReserve) :
    (arbiter e x).output = .offering b := by
  have hgrant := grantResponse_offers h hup hfull hcells
  have hnone : ∀ c, (grantResponse e x).output ≠ .claiming c := by
    rw [hgrant]
    exact fun _ => nofun
  rw [(arbiter_past_response_grows hnone).2, hgrant]

/-- A response for a port that is not UP is lost. -/
theorem grantResponse_loses (h : x.output = .claiming b) (hdown : e.up b.port = false)
    (hcells : b.cells ≤ x.pool.freeReserve) :
    grantResponse e x = ((x.takeReserve b.cells).giveReserve b.cells).loseResponse b := by
  simp only [grantResponse, h, if_pos hcells, offerResponse, hdown, Bool.false_eq_true, if_false]

theorem outputAfterLoss_response (k : Option RestartKind) : outputAfterLoss (.response k) =
    match k with
    | some k => .restartDue k
    | none => .idle := by
  cases k <;> rfl

theorem outputAfterAdmission_response (k : Option RestartKind) : outputAfterAdmission (.response k) =
    match k with
    | some k => .restartPending k
    | none => .idle := by
  cases k <;> rfl

theorem arbiter_loses (h : x.output = .claiming b) (hdown : e.up b.port = false)
    (hcells : b.cells ≤ x.pool.freeReserve) :
    (arbiter e x).output = outputAfterLoss b.builder ∧ (arbiter e x).mgmt.respLost = satInc x.mgmt.respLost := by
  have hgrant := grantResponse_loses h hdown hcells
  have hnone : ∀ c, (grantResponse e x).output ≠ .claiming c := by
    rw [hgrant]
    cases hb : b.builder with
    | response k => cases k <;> simp [loseResponse, outputAfterLoss, hb]
    | event | punt => simp [loseResponse, outputAfterLoss, hb]
  have hanswer := arbiter_leaves e hnone
  rw [← arbiter_after_response hnone, hgrant] at hanswer
  exact ⟨congrArg Prod.fst hanswer, congrArg Prod.snd hanswer⟩

end Commons

section
variable {s : State} {c : Command} {r : Reply}

/-- The shared blocks once the endpoint claims the cells of its response. -/
def State.answering (s : State) (c : Command) (r : Reply) : Commons :=
  { s.commons with output := .claiming (responseFrame c s.endpoint.nodeAddress r) }

theorem State.respond_commons (s : State) (c : Command) (r : Reply) :
    (s.respond c r).commons = Commons.arbiter s.env (s.answering c r) := rfl

theorem State.answering_mgmtOut (s : State) (c : Command) (r : Reply) (p : Port) :
    (s.answering c r).mgmtOut p = s.commons.mgmtOut p := by
  cases p <;> rfl

theorem State.respond_waits (h : s.commons.pool.freeReserve < (responseFrame c s.endpoint.nodeAddress r).cells) :
    s.respond c r = { s with commons := s.answering c r } :=
  congrArg (fun x => { s with commons := x }) (Commons.arbiter_waits (x := s.answering c r) rfl h)

section
variable (hcells : (responseFrame c s.endpoint.nodeAddress r).cells ≤ s.commons.pool.freeReserve)

include hcells

theorem State.respond_offers (hup : (s.port c.port).oper = .up) (hfull : 4 ≤ (s.commons.mgmtOut c.port).length) :
    (s.respond c r).commons.output = .offering (responseFrame c s.endpoint.nodeAddress r) := by
  have hport : s.env.up c.port = true := by rw [Commons.env_up, decide_eq_true hup]
  exact Commons.arbiter_offers (x := s.answering c r) rfl hport (by rwa [State.answering_mgmtOut]) hcells

theorem State.respond_joins (hup : (s.port c.port).oper = .up) (hroom : (s.commons.mgmtOut c.port).length < 4) :
    (s.respond c r).commons.output = (match r.restart with | some k => .restartPending k | none => .idle) ∧
      ∃ more, (s.respond c r).commons.mgmtOut c.port =
        s.commons.mgmtOut c.port ++ responseFrame c s.endpoint.nodeAddress r :: more := by
  have hport : s.env.up c.port = true := by rw [Commons.env_up, decide_eq_true hup]
  obtain ⟨hjoins, houtput, -⟩ := Commons.arbiter_joins_response (x := s.answering c r)
    (b := responseFrame c s.endpoint.nodeAddress r) rfl hport (by
      have hsame := s.answering_mgmtOut c r c.port
      exact hsame ▸ hroom) hcells
  have hsame : (s.answering c r).mgmtOut (responseFrame c s.endpoint.nodeAddress r).port = s.commons.mgmtOut c.port :=
    s.answering_mgmtOut c r c.port
  rw [hsame] at hjoins
  exact ⟨houtput.trans (Commons.outputAfterAdmission_response r.restart), hjoins⟩

theorem State.respond_loses (hdown : (s.port c.port).oper ≠ .up) :
    (s.respond c r).commons.output = (match r.restart with | some k => .restartDue k | none => .idle) ∧
      (s.respond c r).commons.mgmt.respLost = satInc s.commons.mgmt.respLost := by
  have hport : s.env.up c.port = false := by rw [Commons.env_up, decide_eq_false hdown]
  obtain ⟨houtput, hlost⟩ := Commons.arbiter_loses (x := s.answering c r)
    (b := responseFrame c s.endpoint.nodeAddress r) rfl hport hcells
  exact ⟨houtput.trans (Commons.outputAfterLoss_response r.restart), hlost⟩

end

end

end Sys2Proof.Machine

namespace Sys2Proof.Settled

open Sys2Proof.Machine Sys2Proof.Safety

/-- Settles O23: the replay copy is looked up before the permission, whatever the row. -/
theorem replayExecutesNothing : Obligations.ReplayExecutesNothing := by
  intro i s f r hi hf hversion hr
  exact exec_commandRow_answers hi hf rfl fun perm run _ =>
    State.judge_replay perm run hversion (by rwa [State.takeHead_replayOf])

/-- Settles O24: a command that is not the owner's has no replay copy, fails the owner's permission, and is not
recorded. -/
theorem nonOwnersAreRefused : Obligations.NonOwnersAreRefused := by
  intro i s f hi hf hversion hother
  have hrow : isCommandRow i = true := by cases i <;> first | rfl | cases hi
  have hfresh : Fresh s.takeHead (readCommand f) :=
    ⟨hversion, by rw [State.takeHead_replayOf, State.replayOf_eq_none hother]⟩
  refine exec_commandRow_answers hrow hf rfl fun perm run hperm => ?_
  have hfails : s.takeHead.permissionFails (perm (readCommand f)) (readCommand f) =
      some (if s.endpoint.session.isSome then .notOwner else .noSession) := by
    rw [hperm hi, State.takeHead_permissionFails]
    exact State.permissionFails_owner hother
  rw [State.judge_refused perm run hfresh hfails, answered, State.takeHead_isOwner, hother]
  cases s.endpoint.session <;> rfl

/-- Settles O55: the release of the frame, then tests 1, 2 and 4 of R152. -/
theorem shortUnknownAndForeignCommands : Obligations.ShortUnknownAndForeignCommands := by
  refine ⟨fun s id rest hhead => ?_, fun s f hhead hshort => ?_, fun s f hf =>
    ⟨fun hfresh hcode => ?_, fun hversion i hi => ?_⟩⟩
  · rw [State.takeHead_cons hhead]
    exact ⟨rfl, (Commons.release_frame _ id s.commons).1, rfl⟩
  · have hkept : s.takeHead.commons.mgmt.malformed = s.commons.mgmt.malformed := by
      unfold State.takeHead
      split <;> simp [State.release]
    refine congrArg Host.Outcome.next ?_
    simp only [State.discardMalformed, hhead, if_pos hshort, hkept]
  · have htakes : isUnassigned (readCommand f) = true := by
      simpa [isUnassigned] using hcode
    exact congrArg Host.Outcome.next (State.takeCommand_permitted _ hf hfresh htakes rfl)
  · exact exec_commandRow_answers hi hf rfl fun perm run _ => State.judge_version _ perm run hversion

/-- Settles O54: the header, the owner's tests, the session record, and each fate of the response frame in turn. -/
theorem responsesGoOut : Obligations.ResponsesGoOut := by
  refine ⟨fun f => ⟨rfl, rfl, rfl, rfl, header_append_drop⟩, fun s c => ⟨s.isOwner_iff c, s.replayOf_iff c⟩,
    fun s t c r => ⟨rfl, ?_⟩, fun s c r => ⟨State.respond_waits,
      fun hcells hup => ⟨rfl, State.respond_offers hcells hup, State.respond_joins hcells hup⟩, fun hcells hdown => ⟨rfl, State.respond_loses hcells hdown⟩⟩,
    fun s straps => ⟨State.settleRestart_full straps, State.settleRestart_light straps,
      State.settleRestart_none straps⟩⟩
  rw [answered_endpoint, State.recordOwner_endpoint]
  rfl

end Sys2Proof.Settled
end

section
/-! PROOF. The commands of the session and of the part's state: DISCOVER, READ_STATUS, OPEN_SESSION, CLOSE_SESSION and
RESTART (R156, R157, R159, R165). -/

set_option Elab.async false

namespace Sys2Proof.Machine

open Sys2Proof.Safety

/-! ### The owner (R155, R156) -/

theorem State.permissionFails_of_owner {s : State} {c : Command} (h : s.isOwner c = true) :
    s.permissionFails .owner c = none := by
  simp [State.permissionFails, h]

/-- A command row of the owner on a fresh command of his. -/
theorem State.takeCommand_owner {s : State} {f : RxFrame} {takes : Command → Bool} (run : Run) (h : Takes s f)
    (hf : Fresh s (readCommand f)) (ht : takes (readCommand f) = true) (howner : s.isOwner (readCommand f) = true) :
    s.takeCommand takes (always .owner) run =
      answered s (run (readCommand f) s.takeHead).1 (readCommand f) (run (readCommand f) s.takeHead).2 :=
  State.takeCommand_permitted run h hf ht (State.permissionFails_of_owner howner)

/-- A session that the command ended keeps nothing (R156). -/
theorem State.recordOwner_none {t : State} (c : Command) (r : Reply) (h : t.endpoint.session = none) :
    t.recordOwner c r = t := by
  have hsame : t.endpoint = { t.endpoint with session := none } := by rw [← h]
  simp only [State.recordOwner, State.restartIdle, State.withSession, h, Option.map_none]
  rw [← hsame]

theorem answered_stranger {s : State} {c : Command} (t : State) (r : Reply) (h : s.isOwner c = false) :
    answered s t c r = t.respond c r := by
  simp [answered, h]

theorem answered_owner {s : State} {c : Command} (t : State) (r : Reply) (h : s.isOwner c = true) :
    answered s t c r = (t.recordOwner c r).respond c r := by
  simp [answered, h]

/-- Another node, or another port, is not the owner's (R155). -/
theorem State.isOwner_of_ne {s : State} {c : Command} {o : Session} (ho : s.endpoint.session = some o)
    (h : ¬(c.src = o.node ∧ c.port = o.port)) : s.isOwner c = false := by
  rw [Bool.eq_false_iff, Ne, State.isOwner_iff]
  rintro ⟨o', ho', hsrc, hport, -⟩
  rw [ho] at ho'
  cases ho'
  exact h ⟨hsrc, hport⟩

theorem State.isOwner_closed {s : State} (c : Command) (ho : s.endpoint.session = none) : s.isOwner c = false := by
  simp [State.isOwner, ho]

/-! ### The bodies of DISCOVER and READ_STATUS (R159, 12.4) -/

theorem portCode_eq (p : Port) : portCode p = if p = .a then 1#8 else 2#8 := by
  cases p <;> rfl

theorem ownerBytes_eq (s : State) : ownerBytes s =
    match s.endpoint.session with
    | some o => word16Bytes o.node ++ [if o.port = .a then 1#8 else 2#8]
    | none => [0xFF#8, 0xFF#8, 0xFF#8] := by
  unfold ownerBytes
  cases s.endpoint.session with
  | none => rfl
  | some o => simp only [Option.map_some, nodePort, portCode_eq]

/-- What the classes of a port report, in the order of the classes. -/
theorem PortUnit.queues_flatMap (u : PortUnit) (g : ClassQueue → List Byte) :
    u.queues.toList.flatMap g = (List.finRange 4).flatMap fun k => g (u.queue k) := by
  rw [PortUnit.queues_toList]
  rfl

theorem beBytes_length (n v : Nat) : (beBytes n v).length = n := by
  simp [beBytes]

theorem positionBytes_length (r : Option RecordRef) : (positionBytes r).length = 3 := by
  cases r <;> simp [positionBytes, beBytes_length]

theorem nodePort_length (x : Option (Word16 × Port)) : (nodePort x).length = 3 := by
  cases x <;> simp [nodePort, word16Bytes, beBytes_length]

theorem statusEgress_length (s : State) (p : Port) : (statusEgress s p).length = 18 := by
  rw [statusEgress, PortUnit.queues_flatMap, PortUnit.queues_flatMap]
  simp [beBytes_length, List.length_flatMap]

/-- The body of READ_STATUS has the 79 bytes of 12.4. -/
theorem statusBody_length (s : State) : (statusBody s).length = 79 := by
  simp [statusBody, statusController, statusVerify, statusPort, statusPool, statusEndpoint, statusEvents, ownerBytes,
    optWord16, word16Bytes, word32Bytes, beBytes_length, positionBytes_length, nodePort_length, statusEgress_length]

/-! ### RESTART (R165) -/

/-- The response of a RESTART has no body and takes one cell. -/
theorem responseFrame_cells {c : Command} (n : Word16) {r : Reply} (h : r.body = []) :
    (responseFrame c n r).cells = 1 := by
  simp [Built.cells, responseFrame, Response.payload, makeResponse, h, cellsForPayload, ceilDiv, Config.cellBytes]

section
variable {t : State} {c : Command} {r : Reply} (hbody : r.body = [])

include hbody

/-- A response of one cell is not lost at once where its port is UP or no cell is free. -/
theorem State.respond_keeps (h : (t.port c.port).oper = .up ∨ t.commons.pool.freeReserve = 0) :
    NoRestartDue (t.respond c r) := by
  have hcells := responseFrame_cells (c := c) t.endpoint.nodeAddress hbody
  by_cases hshort : t.commons.pool.freeReserve = 0
  · rw [State.respond_waits (by omega)]
    exact ⟨nofun, nofun⟩
  · have hup := h.resolve_right hshort
    have hfits : (responseFrame c t.endpoint.nodeAddress r).cells ≤ t.commons.pool.freeReserve := by omega
    rw [NoRestartDue]
    by_cases hfull : 4 ≤ (t.commons.mgmtOut c.port).length
    · rw [State.respond_offers hfits hup hfull]
      exact ⟨nofun, nofun⟩
    · rw [(State.respond_joins hfits hup (Nat.not_le.mp hfull)).1]
      cases r.restart <;> exact ⟨nofun, nofun⟩

/-- It is lost at once where its port is not UP and a cell is free. -/
theorem State.respond_loses_restart {k : RestartKind} (hr : r.restart = some k) (hdown : (t.port c.port).oper ≠ .up)
    (hfree : 1 ≤ t.commons.pool.freeReserve) : (t.respond c r).commons.output = .restartDue k ∧
      (t.respond c r).commons.mgmt.respLost = satInc t.commons.mgmt.respLost := by
  have hcells := responseFrame_cells (c := c) t.endpoint.nodeAddress hbody
  obtain ⟨houtput, hlost⟩ := State.respond_loses (c := c) (r := r) (hcells.trans_le hfree) hdown
  rw [hr] at houtput
  exact ⟨houtput, hlost⟩

end

theorem State.takeHead_port (s : State) (p : Port) : s.takeHead.port p = s.port p := by
  obtain ⟨-, -, hA, hB, -⟩ := s.takeHead_frame
  cases p
  · exact hA
  · exact hB

theorem State.takeHead_respLost (s : State) : s.takeHead.commons.mgmt.respLost = s.commons.mgmt.respLost := by
  unfold State.takeHead
  split <;> simp [State.release]

section
variable {s : State} {c : Command} {r : Reply} (howner : s.isOwner c = true) (hbody : r.body = [])

include howner hbody

/-- Where the response of a RESTART is not lost at once its row brings no restart about. -/
theorem State.settle_answered_kept (straps : Straps)
    (h : (s.port c.port).oper = .up ∨ s.takeHead.commons.pool.freeReserve = 0) :
    (answered s s.takeHead c r).settleRestart straps = answered s s.takeHead c r := by
  refine State.settleRestart_none _ ?_
  rw [answered_owner _ _ howner]
  refine State.respond_keeps hbody ?_
  rw [← s.takeHead_port] at h
  exact h

theorem State.answered_lost {k : RestartKind} (hr : r.restart = some k) (hdown : (s.port c.port).oper ≠ .up)
    (hfree : 1 ≤ s.takeHead.commons.pool.freeReserve) :
    (answered s s.takeHead c r).commons.output = .restartDue k ∧
      (answered s s.takeHead c r).commons.mgmt.respLost = satInc s.commons.mgmt.respLost := by
  rw [answered_owner _ _ howner, ← s.takeHead_respLost]
  refine State.respond_loses_restart (t := s.takeHead.recordOwner c r) hbody hr ?_ hfree
  rw [← s.takeHead_port] at hdown
  exact hdown

end

theorem State.lightRestart_endpoint (v : State) :
    v.lightRestart.endpoint = { v.endpoint with commands := [], session := none } := rfl

/-- A FULL restart after an answer resets the part on the link pins as they are. -/
theorem State.fullRestart_answered (s : State) (c : Command) (r : Reply) (straps : Straps) :
    (answered s s.takeHead c r).fullRestart straps =
      { State.afterReset straps s.portA.link s.portB.link .full with pending := s.pending } := by
  obtain ⟨hpending, -, hA, hB, -⟩ := s.takeHead_frame
  rw [State.fullRestart, answered]
  split <;> rw [← hpending, ← hA, ← hB] <;> rfl

/-- A refused RESTART brings none about. -/
theorem State.settle_refused (s t : State) (c : Command) (st : Status) (straps : Straps) :
    (answered s t c (refuse st)).settleRestart straps = answered s t c (refuse st) :=
  State.settleRestart_none _ (State.respond_not_due _ c rfl)

section
variable {s : State} {f : RxFrame} (hf : Takes s f) (hfresh : Fresh s (readCommand f))

include hf hfresh

/-! ### Each command of the session (R156, R159, R165) -/

theorem State.exec_discover (hcode : (readCommand f).code = 1#8) :
    exec .discover s = .next (answered s s.takeHead (readCommand f) (reply .ok (discoverBody s.takeHead))) :=
  congrArg Host.Outcome.next (State.takeCommand_permitted _ hf hfresh (by simp [hasCode, hcode]) rfl)

theorem State.exec_readStatus (hcode : (readCommand f).code = 12#8) :
    exec .readStatus s = .next (answered s s.takeHead (readCommand f) (reply .ok (statusBody s.takeHead))) :=
  congrArg Host.Outcome.next (State.takeCommand_permitted _ hf hfresh (by simp [hasCode, hcode]) rfl)

theorem State.exec_openSession (hcode : (readCommand f).code = 2#8) :
    exec .openSession s = .next (answered s (runOpenSession (readCommand f) s.takeHead).1 (readCommand f)
      (runOpenSession (readCommand f) s.takeHead).2) :=
  congrArg Host.Outcome.next (State.takeCommand_permitted _ hf hfresh (by simp [hasCode, hcode]) rfl)

theorem State.exec_closeSession (hcode : (readCommand f).code = 3#8) (howner : s.isOwner (readCommand f) = true) :
    exec .closeSession s =
      .next (answered s (s.takeHead.endSession .closed) (readCommand f) (reply .ok [])) :=
  congrArg Host.Outcome.next (State.takeCommand_owner _ hf hfresh (by simp [hasCode, hcode]) howner)

section
variable (howner : s.isOwner (readCommand f) = true) {r : Reply}
  (hrun : runRestart (readCommand f) s.takeHead = (s.takeHead, r))

include howner hrun

/-- A RESTART is answered alike by the happening that settles it and by its row, which besides settles the restart that
a lost response leaves due. -/
theorem State.settling_lostAtOnce (hcode : (readCommand f).code = 15#8) :
    s.settling .lostAtOnce = answered s s.takeHead (readCommand f) r := by
  rw [State.settling, State.takeCommand_owner _ hf hfresh (by simp [hasCode, hcode]) howner, hrun]

theorem State.exec_restartLight (hnames : restartNames 1#8 (readCommand f) = true) : exec .restartLight s =
    .next ((answered s s.takeHead (readCommand f) r).settleRestart s.straps) := by
  have htaken := State.takeCommand_owner runRestart hf hfresh hnames howner
  rw [hrun] at htaken
  exact congrArg (fun t : State => Host.Outcome.next (t.settleRestart s.straps)) htaken

theorem State.exec_restartFull (hnames : restartNames 2#8 (readCommand f) = true) : exec .restartFull s =
    .next ((answered s s.takeHead (readCommand f) r).settleRestart s.straps) := by
  have htaken := State.takeCommand_owner runRestart hf hfresh hnames howner
  rw [hrun] at htaken
  exact congrArg (fun t : State => Host.Outcome.next (t.settleRestart s.straps)) htaken

end

end

theorem runOpenSession_closed {t : State} (c : Command) (h : t.endpoint.session = none) : runOpenSession c t =
    (t.openNew c, { reply .ok (openBody (nextSessionNumber t.endpoint.lastNumber) t.endpoint.sessionTimeout) with
      session := some (nextSessionNumber t.endpoint.lastNumber) }) := by
  simp only [runOpenSession, h]

theorem runOpenSession_same {t : State} {c : Command} {o : Session} (ho : t.endpoint.session = some o)
    (h : c.src = o.node ∧ c.port = o.port) : runOpenSession c t =
    (t.restartIdle, { reply .ok (openBody o.number t.endpoint.sessionTimeout) with session := some o.number }) := by
  simp only [runOpenSession, ho, if_pos h]

theorem runOpenSession_busy {t : State} {c : Command} {o : Session} (ho : t.endpoint.session = some o)
    (h : ¬(c.src = o.node ∧ c.port = o.port)) : runOpenSession c t =
    (t, { reply .busy (word16Bytes o.node ++ [portCode o.port]) with detail := portCode o.port }) := by
  simp only [runOpenSession, ho, if_neg h]

theorem State.endSession_open {t : State} {o : Session} (ho : t.endpoint.session = some o) (reason : EndReason) :
    t.endSession reason = { t with endpoint := { t.endpoint with session := none } }.post
      (.sessionEnded reason o.node o.number) := by
  simp only [State.endSession, ho]

theorem runRestart_short {c : Command} (s : State) (h : c.params = []) :
    runRestart c s = (s, refuse .badLength) := by
  simp [runRestart, needs, h]

/-- A RESTART that names neither kind belongs to the rows of both (log 15). -/
theorem restartNames_neither {c : Command} (hcode : c.code = 15#8)
    (h : c.params = [] ∨ (c.param8 0 ≠ 1#8 ∧ c.param8 0 ≠ 2#8)) (k : Byte) : restartNames k c = true := by
  rcases h with h | ⟨h, h'⟩
  · simp [restartNames, hasCode, hcode, h]
  · simp [restartNames, hasCode, hcode, h, h']

theorem restartNames_kind {c : Command} {k : Byte} (hcode : c.code = 15#8) (h : c.param8 0 = k) :
    restartNames k c = true := by
  simp [restartNames, hasCode, hcode, h]

theorem runRestart_kind {c : Command} (s : State) (h : 1 ≤ c.params.length) : runRestart c s =
    (s, if c.param8 0 = 1#8 then { reply .ok [] with restart := some .light }
      else if c.param8 0 = 2#8 then { reply .ok [] with restart := some .full } else refuse .badValue) := by
  rw [runRestart, needs, if_neg (by omega)]
  split
  · rfl
  · split <;> rfl

end Sys2Proof.Machine

namespace Sys2Proof.Settled

open Sys2Proof.Machine Sys2Proof.Safety

/-- Settles O56: each command by its own rule, and a RESTART by the fate of its response. -/
theorem sessionCommands : Obligations.SessionCommands := by
  intro s f hf c t ok session owner hfresh
  obtain ⟨-, hstraps, hA, hB, hclassifier, -, -, htables, hverify⟩ := s.takeHead_frame
  have hendpoint := s.takeHead_endpoint
  have hopen : s.takeHead.endpoint.session = s.endpoint.session := by rw [hendpoint]
  have hnumber : s.takeHead.endpoint.lastNumber = s.endpoint.lastNumber := by rw [hendpoint]
  have htimeout : s.takeHead.endpoint.sessionTimeout = s.endpoint.sessionTimeout := by rw [hendpoint]
  have huptime : s.takeHead.endpoint.uptime = s.endpoint.uptime := by rw [hendpoint]
  have howner : ownerBytes s.takeHead = owner := by
    rw [ownerBytes_eq, hendpoint] <;> rfl
  have hsession : boolByte s.takeHead.endpoint.session.isSome = session := by
    rw [hendpoint]
    rfl
  refine ⟨fun hcode => ?_, fun hcode => ?_,
    fun hcode => ⟨fun hnone => ?_, fun o ho hsame => ?_, fun o ho hother => ?_⟩,
    fun o ho howns hcode => ?_, fun howns hcode hkind => ⟨fun hlight => ?_, fun hfull => ?_, fun hnot hnot' => ?_⟩,
    fun howns hcode hempty => ?_⟩
  · have hbody : discoverBody s.takeHead = [0x0C#8, 0x5D#8, 0x00#8, 0x26#8, 0x01#8, 0x01#8, 0x02#8, 0x00#8] ++
        word16Bytes s.endpoint.nodeAddress ++ word16Bytes s.tables.generation ++
        [modeCode s.classifier.mode, ctlCode s.tables.state, session] ++ owner := by
      rw [discoverBody, howner, hsession, htables, hclassifier, hendpoint]
      rfl
    rw [State.exec_discover hf hfresh hcode, hbody]
    rfl
  · intro flag place port egress listener body
    have hport : ∀ p, statusPort (s.takeHead.port p) = port p := fun p => by
      rw [s.takeHead_port]
      cases hl : (s.port p).link <;> simp [statusPort, port, linkCode, hl, flag, boolByte] <;> rfl
    have hegress : ∀ p, statusEgress s.takeHead p = egress p := fun p => by
      rw [statusEgress, PortUnit.queues_flatMap, PortUnit.queues_flatMap, s.takeHead_port]
      rfl
    have hplace : ∀ r, positionBytes r = place r := fun r => by cases r <;> rfl
    have hlistener : nodePort (s.takeHead.commons.events.listener.map fun l => (l.node, l.port)) = listener := by
      rw [s.takeHead_commons.2]
      cases hl : s.commons.events.listener with
      | none => simp [nodePort, listener, hl]
      | some l => simp [nodePort, listener, hl, portCode_eq]
    have hbody : body = statusBody s.takeHead := by
      rw [statusBody, statusController, statusVerify, statusPool, statusEndpoint, statusEvents, hlistener, howner,
        hsession, huptime, hplace, hplace, htables, hclassifier, hverify]
      rw [show statusPort s.takeHead.portA = port .a from hport .a, show statusPort s.takeHead.portB = port .b from
        hport .b, hegress, hegress]
      simp only [body, List.append_assoc]
      rfl
    rw [hbody]
    exact ⟨statusBody_length _, State.exec_readStatus hf hfresh hcode⟩
  · rw [State.exec_openSession hf hfresh hcode, runOpenSession_closed c (hopen.trans hnone), hnumber, htimeout,
      answered_stranger _ _ (State.isOwner_closed _ hnone), State.openNew, hnumber, htimeout]
    rfl
  · rw [State.exec_openSession hf hfresh hcode, runOpenSession_same (hopen.trans ho) hsame, htimeout]
    rfl
  · have howned : owner = word16Bytes o.node ++ [portCode o.port] := by
      simp only [owner, ho, portCode_eq]
    rw [State.exec_openSession hf hfresh hcode, runOpenSession_busy (hopen.trans ho) hother, howned,
      answered_stranger _ _ (State.isOwner_of_ne ho hother), portCode_eq]
    rfl
  · rw [State.exec_closeSession hf hfresh hcode howns, State.endSession_open (hopen.trans ho),
      answered_owner _ _ howns, State.recordOwner_none _ _ (by rfl)]
    rfl
  · have hrun := runRestart_kind (c := c) s.takeHead hkind
    rw [Command.param8, if_pos hlight] at hrun
    have hrow := State.exec_restartLight hf hfresh howns hrun (restartNames_kind hcode hlight)
    refine ⟨fun hkeeps => ?_, fun hdown hfree => ?_⟩
    · rw [hrow, State.settle_answered_kept howns rfl _ hkeeps]
      rfl
    · obtain ⟨hdue, hlost⟩ := State.answered_lost howns (r := { reply .ok [] with restart := some .light }) rfl rfl
        hdown hfree
      have hsettled := State.settling_lostAtOnce hf hfresh howns hrun hcode
      rw [State.settleRestart_light _ hdue] at hrow
      have hediting := congrArg Controller.state (answered s s.takeHead c
        { reply .ok [] with restart := some .light }).tables.lightRestart_editing
      obtain ⟨hframes, -, -, -, hmgmt⟩ := (answered s s.takeHead c
        { reply .ok [] with restart := some .light }).lightRestart_shared
      refine ⟨_, hrow, congrArg Host.Outcome.next (by rw [hsettled, if_pos hdue]), hediting,
        State.lightRestart_idle _, hframes, ?_, (congrArg MgmtCounters.respLost hmgmt).trans hlost⟩
      rw [State.lightRestart_endpoint, answered_endpoint, if_pos howns, State.recordOwner_endpoint, hendpoint]
  · have hrun := runRestart_kind (c := c) s.takeHead hkind
    have hother : ¬byteAt c.params 0 = 1#8 := by rw [hfull]; decide
    rw [Command.param8, if_neg hother, if_pos hfull] at hrun
    have hrow := State.exec_restartFull hf hfresh howns hrun (restartNames_kind hcode hfull)
    refine ⟨fun hkeeps => ?_, fun hdown hfree => ?_⟩
    · rw [hrow, State.settle_answered_kept howns rfl _ hkeeps]
      rfl
    · obtain ⟨hdue, -⟩ := State.answered_lost howns (r := { reply .ok [] with restart := some .full }) rfl rfl
        hdown hfree
      have hsettled := State.settling_lostAtOnce hf hfresh howns hrun hcode
      rw [State.settleRestart_full _ hdue, State.fullRestart_answered] at hrow
      refine ⟨hrow, fun straps => congrArg Host.Outcome.next ?_⟩
      rw [hsettled, if_pos hdue, State.fullRestart_answered]
  · have hrun := runRestart_kind (c := c) s.takeHead hkind
    rw [Command.param8, if_neg hnot, if_neg hnot'] at hrun
    have hnames := restartNames_neither hcode (.inr ⟨hnot, hnot'⟩)
    rw [State.exec_restartLight hf hfresh howns hrun (hnames _),
      State.exec_restartFull hf hfresh howns hrun (hnames _), State.settle_refused]
    exact ⟨rfl, rfl⟩
  · have hrun := runRestart_short (c := c) s.takeHead hempty
    have hnames := restartNames_neither hcode (.inl hempty)
    rw [State.exec_restartLight hf hfresh howns hrun (hnames _),
      State.exec_restartFull hf hfresh howns hrun (hnames _), State.settle_refused]
    exact ⟨rfl, rfl⟩

end Sys2Proof.Settled
end

section
/-! PROOF. The settings: what a code and a qualifier name, what GET_SETTING answers, and what each SET_SETTING does to
its setting (R160, 12.4). -/

set_option Elab.async false

namespace Sys2Proof.Machine

open Sys2Proof.Safety

/-! ### Codes and qualifiers (R160, R181, 12.4) -/

/-- The byte of a port qualifier (12.4). -/
def portQualifierByte (p : Port) : Byte := if p = .a then 0x10#8 else 0x20#8

theorem portQualifier_byte (p : Port) : portQualifier (portQualifierByte p) = some p := by
  cases p <;> rfl

theorem queueQualifier_byte (p : Port) (k : Fin 4) :
    queueQualifier (portQualifierByte p + BitVec.ofNat 8 k.val) = some (p, k) := by
  cases p <;> revert k <;> decide

theorem portQualifier_other : ∀ q : Byte, q ≠ 0x10#8 → q ≠ 0x20#8 → portQualifier q = none := by
  decide +kernel

theorem queueQualifier_other : ∀ q : Byte,
    (∀ k : Fin 4, q ≠ 0x10#8 + BitVec.ofNat 8 k.val ∧ q ≠ 0x20#8 + BitVec.ofNat 8 k.val) →
    queueQualifier q = none := by
  decide +kernel

/-- A qualifier that no setting of this code has (R181, 12.4). -/
def BadQualifier (code q : Byte) : Prop :=
  ((code = 1#8 ∨ code = 2#8 ∨ code = 3#8 ∨ code = 7#8 ∨ code = 8#8) ∧ q ≠ 0#8) ∨
    ((code = 4#8 ∨ code = 5#8) ∧ q ≠ 0x10#8 ∧ q ≠ 0x20#8) ∨
    (code = 6#8 ∧ ∀ k : Fin 4, q ≠ 0x10#8 + BitVec.ofNat 8 k.val ∧ q ≠ 0x20#8 + BitVec.ofNat 8 k.val)

/-- Code 0, a code from 9 on and a wrong qualifier name no setting. -/
theorem settingOf_none {code q : Byte} (h : code = 0#8 ∨ 9 ≤ code.toNat ∨ BadQualifier code q) :
    settingOf code q = none := by
  rcases h with rfl | hhigh | ⟨hcode, hq⟩ | ⟨hcode, hq, hq'⟩ | ⟨rfl, hq⟩
  · rfl
  · have hne : ∀ k : Byte, k.toNat < 9 → code ≠ k := fun k hk he => by
      rw [he] at hhigh
      omega
    simp only [settingOf, if_neg (hne _ (by decide : (1#8).toNat < 9)), if_neg (hne _ (by decide : (2#8).toNat < 9)),
      if_neg (hne _ (by decide : (3#8).toNat < 9)), if_neg (hne _ (by decide : (4#8).toNat < 9)),
      if_neg (hne _ (by decide : (5#8).toNat < 9)), if_neg (hne _ (by decide : (6#8).toNat < 9)),
      if_neg (hne _ (by decide : (7#8).toNat < 9)), if_neg (hne _ (by decide : (8#8).toNat < 9))]
  · rcases hcode with rfl | rfl | rfl | rfl | rfl <;> exact if_neg hq
  · rcases hcode with rfl | rfl <;> exact congrArg (Option.map _) (portQualifier_other q hq hq')
  · exact congrArg (Option.map _) (queueQualifier_other q hq)

/-! ### Values (R160) -/

theorem State.takeHead_pool (s : State) : s.takeHead.commons.pool.lowMark = s.commons.pool.lowMark ∧
    s.takeHead.commons.pool.highMark = s.commons.pool.highMark := by
  unfold State.takeHead
  split <;> simp [State.release]

/-- Taking the head changes no setting. -/
theorem State.takeHead_settingValue (s : State) (x : Setting) : s.takeHead.settingValue x = s.settingValue x := by
  obtain ⟨-, -, -, -, hclassifier, -, -, -, hverify⟩ := s.takeHead_frame
  obtain ⟨hlow, hhigh⟩ := s.takeHead_pool
  cases x with
  | nodeAddress | sessionTimeout => simp only [State.settingValue, State.takeHead_endpoint]
  | verifyPeriod => simp only [State.settingValue, hverify]
  | fallback p => simp only [State.settingValue, hclassifier]
  | portEnable p | queueLimit p k => simp only [State.settingValue, s.takeHead_port]
  | poolLowMark => exact hlow
  | poolHighMark => exact hhigh

theorem boolByte_toNat (b : Bool) : (boolByte b).toNat = if b = true then 1 else 0 := by
  cases b <;> rfl

theorem State.fallbackValue (s : State) (p : Port) :
    s.settingValue (.fallback p) = if s.classifier.fallback p = .block then 1 else 0 := by
  unfold State.settingValue
  cases hf : s.classifier.fallback p <;> simp [hf]

/-! ### Runs (R152, R160) -/

section
variable {c : Command} {t : State}

theorem runGetSetting_short (h : c.params.length < 2) : runGetSetting c t = (t, refuse .badLength) := by
  rw [runGetSetting, needs, if_pos h]

theorem runGetSetting_none (h : 2 ≤ c.params.length) (hx : settingOf (c.param8 0) (c.param8 1) = none) :
    runGetSetting c t = (t, refuse .badValue) := by
  rw [runGetSetting, needs, if_neg (by omega)]
  simp only [hx]

theorem runGetSetting_some {x : Setting} (h : 2 ≤ c.params.length)
    (hx : settingOf (c.param8 0) (c.param8 1) = some x) :
    runGetSetting c t = (t, reply .ok (settingBody t (c.param8 0) (c.param8 1) x)) := by
  rw [runGetSetting, needs, if_neg (by omega)]
  simp only [hx]

theorem runSetSetting_short (h : c.params.length < 4) : runSetSetting c t = (t, refuse .badLength) := by
  rw [runSetSetting, needs, if_pos h]

theorem runSetSetting_none (h : 4 ≤ c.params.length) (hx : settingOf (c.param8 0) (c.param8 1) = none) :
    runSetSetting c t = (t, refuse .badValue) := by
  rw [runSetSetting, needs, if_neg (by omega)]
  simp only [hx]

theorem runSetSetting_refused {x : Setting} (h : 4 ≤ c.params.length)
    (hx : settingOf (c.param8 0) (c.param8 1) = some x) (hset : t.setSetting x (c.param16 2) = none) :
    runSetSetting c t = (t, refuse .badValue) := by
  rw [runSetSetting, needs, if_neg (by omega)]
  simp only [hx, hset]

theorem runSetSetting_set {x : Setting} {u : State} (h : 4 ≤ c.params.length)
    (hx : settingOf (c.param8 0) (c.param8 1) = some x) (hset : t.setSetting x (c.param16 2) = some u) :
    runSetSetting c t = (u, reply .ok (settingBody u (c.param8 0) (c.param8 1) x)) := by
  rw [runSetSetting, needs, if_neg (by omega)]
  simp only [hx, hset]

end

/-! ### The rows (R160) -/

/-- The eight rows of SET_SETTING. -/
def settingRows : List Instr :=
  [.setNodeAddress, .setSessionTimeout, .setVerifyPeriod, .setFallback, .setPortEnable, .setQueueLimit,
    .setPoolLowMark, .setPoolHighMark]

section
variable {s : State} {f : RxFrame} (hf : Takes s f) (hfresh : Fresh s (readCommand f))

include hf hfresh

theorem State.exec_getSetting (hcode : (readCommand f).code = 4#8) : exec .getSetting s =
    .next (answered s (runGetSetting (readCommand f) s.takeHead).1 (readCommand f)
      (runGetSetting (readCommand f) s.takeHead).2) :=
  congrArg Host.Outcome.next (State.takeCommand_permitted _ hf hfresh (by simp [hasCode, hcode]) rfl)

/-- GET_SETTING answers the value that its setting holds. -/
theorem State.exec_getSetting_value (hcode : (readCommand f).code = 4#8) (hlen : 2 ≤ (readCommand f).params.length)
    {x : Setting} (hx : settingOf (byteAt (readCommand f).params 0) (byteAt (readCommand f).params 1) = some x) :
    exec .getSetting s = .next (answered s s.takeHead (readCommand f) (reply .ok
      ([byteAt (readCommand f).params 0, byteAt (readCommand f).params 1] ++ beBytes 2 (s.settingValue x)))) := by
  rw [State.exec_getSetting hf hfresh hcode, runGetSetting_some hlen hx, settingBody, s.takeHead_settingValue]
  rfl

/-- Every row of SET_SETTING judges the commands that it takes alike. -/
theorem State.exec_setSetting {i : Instr} (hi : i ∈ settingRows) (howner : s.isOwner (readCommand f) = true)
    (htakes : rowTakes i (readCommand f) = true) : exec i s =
      .next (answered s (runSetSetting (readCommand f) s.takeHead).1 (readCommand f)
        (runSetSetting (readCommand f) s.takeHead).2) := by
  have hrow := State.takeCommand_owner (takes := rowTakes i) runSetSetting hf hfresh htakes howner
  rw [← hrow]
  simp only [settingRows, List.mem_cons, List.not_mem_nil, or_false] at hi
  rcases hi with rfl | rfl | rfl | rfl | rfl | rfl | rfl | rfl <;> rfl

section
variable {i : Instr} (hi : i ∈ settingRows) (howner : s.isOwner (readCommand f) = true)
  (htakes : rowTakes i (readCommand f) = true)

include hi howner htakes

theorem State.exec_setSetting_short (hlen : (readCommand f).params.length < 4) :
    exec i s = .next (answered s s.takeHead (readCommand f) (refuse .badLength)) := by
  rw [State.exec_setSetting hf hfresh hi howner htakes, runSetSetting_short hlen]

variable (hlen : 4 ≤ (readCommand f).params.length)

include hlen

theorem State.exec_setSetting_none
    (hx : settingOf (byteAt (readCommand f).params 0) (byteAt (readCommand f).params 1) = none) :
    exec i s = .next (answered s s.takeHead (readCommand f) (refuse .badValue)) := by
  rw [State.exec_setSetting hf hfresh hi howner htakes, runSetSetting_none hlen hx]

variable {x : Setting}
  (hx : settingOf (byteAt (readCommand f).params 0) (byteAt (readCommand f).params 1) = some x)

include hx

theorem State.exec_setSetting_refused
    (hset : s.takeHead.setSetting x (u16At (readCommand f).params 2).toNat = none) :
    exec i s = .next (answered s s.takeHead (readCommand f) (refuse .badValue)) := by
  rw [State.exec_setSetting hf hfresh hi howner htakes, runSetSetting_refused hlen hx hset]

/-- A value that the setting takes is the one it then holds and answers. -/
theorem State.exec_setSetting_set {u : State}
    (hset : s.takeHead.setSetting x (u16At (readCommand f).params 2).toNat = some u)
    (hvalue : u.settingValue x = (u16At (readCommand f).params 2).toNat) :
    exec i s = .next (answered s u (readCommand f) (reply .ok ([byteAt (readCommand f).params 0,
      byteAt (readCommand f).params 1] ++ beBytes 2 (u16At (readCommand f).params 2).toNat))) := by
  rw [State.exec_setSetting hf hfresh hi howner htakes, runSetSetting_set hlen hx hset, settingBody, hvalue]
  rfl

end

end

/-- The row of a setting takes the SET_SETTING that names it. -/
theorem setsSetting_of_code {c : Command} {k : Byte} (hcode : c.code = 5#8) (hk : byteAt c.params 0 = k) :
    setsSetting k c = true := by
  simp [setsSetting, hasCode, hcode, Command.param8, hk]

/-! ### The effect of each SET_SETTING (R112, R121, R134, R139, R157) -/

/-- An answer to the owner starts the idle timer anew, whatever the command did to it (R157). -/
theorem answered_restartIdle {s : State} {c : Command} (t : State) (r : Reply) (howner : s.isOwner c = true) :
    answered s t.restartIdle c r = answered s t c r := by
  rw [answered_owner _ _ howner, answered_owner _ _ howner]
  simp only [State.recordOwner, State.restartIdle, State.withSession, Option.map_map]
  rfl

/-- A change of port_enable stands in the port, whatever the change of its operational state does to it (R121). -/
theorem State.changePort_enabled (t : State) (p : Port) (b : Bool) :
    ((t.changePort p { t.port p with enabled := b }).port p).enabled = b := by
  have hset : (t.setPort p { t.port p with enabled := b }).port p = { t.port p with enabled := b } :=
    t.setPort_port p _
  unfold State.changePort
  dsimp only
  split
  next h =>
    have hdown : ((t.setPort p { t.port p with enabled := b }).port p).oper ≠ .up := by
      rw [hset]
      exact h.2
    rw [State.leaveUp_port _ hdown, (PortUnit.emptied_link _ _).1, hset]
  next =>
    split
    · rw [(State.enterUp_blocks _ p).1, hset]
    · rw [hset]

theorem State.setFallback_some (t : State) (p : Port) {v : Nat} (h : v ≤ 1) : t.setFallback p v =
    some { t with classifier := t.classifier.setFallback p (if v = 1 then .block else .pass) } := by
  rcases Nat.le_one_iff_eq_zero_or_eq_one.mp h with rfl | rfl <;> rfl

theorem State.setFallback_none (t : State) (p : Port) {v : Nat} (h : ¬v ≤ 1) : t.setFallback p v = none := by
  rw [State.setFallback, if_neg (by omega), if_neg (by omega)]

theorem Classifier.setFallback_fallback (k : Classifier) (p : Port) (x : Fallback) :
    (k.setFallback p x).fallback p = x := by
  cases p <;> rfl

end Sys2Proof.Machine

namespace Sys2Proof.Settled

open Sys2Proof.Machine Sys2Proof.Safety

/-- Settles O57: the setting that code and qualifier name, then the value's range, then the setting's own rule. -/
theorem settingCommands : Obligations.SettingCommands := by
  intro s f hf c t code q v value badValue badLength badQualifier portByte hfresh
  obtain ⟨hlow, hhigh⟩ := s.takeHead_pool
  obtain ⟨-, -, -, -, hclassifier, -, -, -, hverify⟩ := s.takeHead_frame
  refine ⟨fun hcode hlen => ?_, fun hcode hlen => ?_,
    fun i hi howns htakes => ⟨fun hlen => ?_, fun hlen hnone => ?_⟩, fun howns hcode hlen => ?_⟩
  · have get : ∀ {x : Setting}, settingOf code q = some x →
        exec .getSetting s = .next (answered s t c (value (s.settingValue x))) :=
      fun hx => State.exec_getSetting_value hf hfresh hcode hlen hx
    refine ⟨fun h hq => get (x := .nodeAddress) (by rw [h, hq]; rfl),
      fun h hq => get (x := .sessionTimeout) (by rw [h, hq]; rfl),
      fun h hq => get (x := .verifyPeriod) (by rw [h, hq]; rfl), fun p h hq => ?_, fun p h hq => ?_,
      fun p k h hq => ?_, fun h hq => get (x := .poolLowMark) (by rw [h, hq]; rfl),
      fun h hq => get (x := .poolHighMark) (by rw [h, hq]; rfl), fun hnone => ?_⟩
    · rw [← s.fallbackValue]
      exact get (by rw [h, hq]; exact congrArg (Option.map _) (portQualifier_byte p))
    · rw [← boolByte_toNat]
      exact get (x := .portEnable p) (by rw [h, hq]; exact congrArg (Option.map _) (portQualifier_byte p))
    · exact get (x := .queueLimit p k) (by rw [h, hq]; exact congrArg (Option.map _) (queueQualifier_byte p k))
    · rw [State.exec_getSetting hf hfresh hcode, runGetSetting_none hlen (settingOf_none hnone)]
      rfl
  · rw [State.exec_getSetting hf hfresh hcode, runGetSetting_short hlen]
    rfl
  · exact State.exec_setSetting_short hf hfresh hi howns htakes hlen
  · exact State.exec_setSetting_none hf hfresh hi howns htakes hlen (settingOf_none hnone)
  · have set : ∀ (i : Instr) (k : Byte) {x : Setting}, i ∈ settingRows → rowTakes i c = setsSetting k c →
        code = k → settingOf code q = some x →
        (∀ u, t.setSetting x v = some u → u.settingValue x = v → exec i s = .next (answered s u c (value v))) ∧
        (t.setSetting x v = none → exec i s = .next (answered s t c badValue)) := fun i k x hi hrow hk hx => by
      have htakes := hrow.trans (setsSetting_of_code hcode hk)
      exact ⟨fun u => State.exec_setSetting_set hf hfresh hi howns htakes hlen hx,
        State.exec_setSetting_refused hf hfresh hi howns htakes hlen hx⟩
    refine ⟨fun h hq => ?_, fun h hq => ?_, fun h hq => ?_, fun p h hq => ?_, fun p h hq => ?_, fun p k h hq => ?_,
      fun h hq => ?_, fun h hq => ?_⟩
    · obtain ⟨hset, hrefused⟩ := set .setNodeAddress 1#8 (x := .nodeAddress) (by decide) rfl h (by rw [h, hq]; rfl)
      split
      next hv =>
        exact hset _ (if_pos hv) (by rw [State.settingValue, BitVec.toNat_ofNat, Nat.mod_eq_of_lt (by omega)])
      next hv => exact hrefused (if_neg hv)
    · obtain ⟨hset, hrefused⟩ := set .setSessionTimeout 2#8 (x := .sessionTimeout) (by decide) rfl h
        (by rw [h, hq]; rfl)
      split
      next hv => rw [hset _ (if_pos hv) rfl, answered_restartIdle _ _ howns]
      next hv => exact hrefused (if_neg hv)
    · obtain ⟨hset, hrefused⟩ := set .setVerifyPeriod 3#8 (x := .verifyPeriod) (by decide) rfl h
        (by rw [h, hq]; rfl)
      refine ⟨fun hv => ⟨(t.verify.setPeriod t.classifier.mode v).state, hset _ (if_pos hv) rfl, fun hzero => ?_,
        fun hne => ⟨fun n hstate => ?_, fun pos check hstate => ?_, fun hstate => ?_⟩⟩,
        fun hv => hrefused (if_neg hv)⟩
      · exact if_pos hzero
      all_goals
        rw [← hverify] at hstate
        rw [Verify.setPeriod, if_neg hne, hstate]
      rw [hclassifier]
    · obtain ⟨hset, hrefused⟩ := set .setFallback 4#8 (x := .fallback p) (by decide) rfl h
        (by rw [h, hq]; exact congrArg (Option.map _) (portQualifier_byte p))
      split
      next hv =>
        refine hset _ (t.setFallback_some p hv) ?_
        rw [State.fallbackValue, Classifier.setFallback_fallback]
        rcases Nat.le_one_iff_eq_zero_or_eq_one.mp hv with hv | hv <;> simp [hv]
      next hv => exact hrefused (t.setFallback_none p hv)
    · obtain ⟨hset, hrefused⟩ := set .setPortEnable 5#8 (x := .portEnable p) (by decide) rfl h
        (by rw [h, hq]; exact congrArg (Option.map _) (portQualifier_byte p))
      split
      next hv =>
        refine hset _ (if_pos hv) ?_
        rw [State.settingValue, State.changePort_enabled, boolByte_toNat]
        rcases Nat.le_one_iff_eq_zero_or_eq_one.mp hv with hv | hv <;> simp [hv]
      next hv => exact hrefused (if_neg hv)
    · obtain ⟨hset, hrefused⟩ := set .setQueueLimit 6#8 (x := .queueLimit p k) (by decide) rfl h
        (by rw [h, hq]; exact congrArg (Option.map _) (queueQualifier_byte p k))
      split
      next hv =>
        refine hset _ (if_pos hv) ?_
        rw [State.settingValue, State.setPort_port, PortUnit.setQueue_queue]
      next hv => exact hrefused (if_neg hv)
    · obtain ⟨hset, hrefused⟩ := set .setPoolLowMark 7#8 (x := .poolLowMark) (by decide) rfl h
        (by rw [h, hq]; rfl)
      refine ⟨fun hbelow hv =>
        ⟨_, hset _ (if_pos ⟨hv, hhigh ▸ hbelow⟩) ?_, Commons.evalPool_evaluated t _, rfl⟩,
        fun hv => hrefused (if_neg (by rw [hhigh]; omega))⟩
      exact (Commons.evalPool_frame t.env _).2.1
    · obtain ⟨hset, hrefused⟩ := set .setPoolHighMark 8#8 (x := .poolHighMark) (by decide) rfl h
        (by rw [h, hq]; rfl)
      refine ⟨fun habove hv =>
        ⟨_, hset _ (if_pos ⟨hv, hlow ▸ habove⟩) ?_, Commons.evalPool_evaluated t _, rfl⟩,
        fun hv => hrefused (if_neg (by rw [hlow]; omega))⟩
      exact (Commons.evalPool_frame t.env _).2.2.1

end Sys2Proof.Settled
end

section
/-! PROOF. The commands on tables: what READ_TABLE and READ_NEXT answer, what WRITE_TABLE stores, and what COMMIT and
ABORT_EDIT begin (R93 to R96, R105, R161, R162). -/

set_option Elab.async false

namespace Sys2Proof.Machine

open Sys2Proof.Safety

/-! ### READ_TABLE and READ_NEXT (R161) -/

theorem roleOfCode_none {k : Byte} (h : 2 ≤ k.toNat) : roleOfCode k = none := by
  have h0 : k ≠ 0#8 := fun he => by rw [he] at h; exact absurd h (by decide)
  have h1 : k ≠ 1#8 := fun he => by rw [he] at h; exact absurd h (by decide)
  rw [roleOfCode, if_neg h0, if_neg h1]

theorem roleOfCode_some {k : Byte} (h : k.toNat ≤ 1) :
    roleOfCode k = some (if k = 0#8 then .active else .shadow) := by
  unfold roleOfCode
  split
  · rfl
  next h0 =>
    rw [if_pos (by bv_omega)]

section
variable {c : Command} {t : State}

theorem runReadTable_short (h : c.params.length < 6) : runReadTable c t = (t, refuse .badLength) := by
  rw [runReadTable, needs, if_pos h]

variable (h : 6 ≤ c.params.length)

include h

theorem runReadTable_badTable (htable : tableOfCode (c.param8 0) = none) :
    runReadTable c t = (t, refuse .badTable) := by
  rw [runReadTable, needs, if_neg (by omega)]
  simp only [htable]

variable {tb : Table} (htable : tableOfCode (c.param8 0) = some tb)

include htable

theorem runReadTable_badRole (hrole : roleOfCode (c.param8 1) = none) :
    runReadTable c t = (t, refuse .badValue) := by
  rw [runReadTable, needs, if_neg (by omega)]
  simp only [htable, hrole]

theorem runReadTable_noRecord (hcount : c.param16 4 = 0) : runReadTable c t = (t, refuse .badValue) := by
  rw [runReadTable, needs, if_neg (by omega)]
  simp only [htable, hcount, if_true]
  split <;> rfl

variable {role : Role} (hrole : roleOfCode (c.param8 1) = some role) (hcount : c.param16 4 ≠ 0)

include hrole hcount

theorem runReadTable_badIndex (hrange : recordCount tb ≤ c.param16 2 ∨ recordCount tb < c.param16 2 + c.param16 4) :
    runReadTable c t = (t, refuse .badIndex) := by
  rw [runReadTable, needs, if_neg (by omega)]
  simp only [htable, hrole, if_neg hcount, if_pos hrange]

theorem runReadTable_reads (hrange : c.param16 2 < recordCount tb ∧ c.param16 2 + c.param16 4 ≤ recordCount tb) :
    runReadTable c t =
      (t.setCursor c { table := tb, role := role, next := c.param16 2 + min (c.param16 4) (recordsThatFit tb) },
        reply .ok (readBody (t.tables.roleBank role) tb (c.param16 2) (min (c.param16 4) (recordsThatFit tb)))) := by
  rw [runReadTable, needs, if_neg (by omega)]
  simp only [htable, hrole, if_neg hcount, if_neg (by omega : ¬(recordCount tb ≤ c.param16 2 ∨
    recordCount tb < c.param16 2 + c.param16 4))]

end

theorem runReadNext_none (c : Command) {t : State} (h : t.cursor = none) :
    runReadNext c t = (t, refuse .badValue) := by
  simp only [runReadNext, h]

theorem runReadNext_some (c : Command) {t : State} {cur : Cursor} (h : t.cursor = some cur) : runReadNext c t =
    (t.withSession fun o => { o with cursor := some { cur with
        next := cur.next + min (recordCount cur.table - cur.next) (recordsThatFit cur.table) } },
      reply .ok (readBody (t.tables.roleBank cur.role) cur.table cur.next
        (min (recordCount cur.table - cur.next) (recordsThatFit cur.table)))) := by
  simp only [runReadNext, h]

/-! ### WRITE_TABLE (R93 to R95) -/

namespace Controller

variable {k : Controller} {code : Byte} {start : Nat} {body : List Byte}

theorem writeTable_busy (h : k.state ≠ .editing) : k.writeTable code start body = .busy := if_pos h

variable (h : k.state = .editing)

include h

theorem writeTable_badTable (htable : tableOfCode code = none) : k.writeTable code start body = .badTable := by
  rw [writeTable, if_neg (not_not.mpr h)]
  simp only [htable]

variable {tb : Table} (htable : tableOfCode code = some tb)

include htable

theorem writeTable_badLength (hbody : body = [] ∨ body.length % recordSize tb ≠ 0) :
    k.writeTable code start body = .badLength := by
  rw [writeTable, if_neg (not_not.mpr h)]
  simp only [htable]
  rw [if_pos (hbody.imp_left List.isEmpty_iff.mpr)]

variable (hbody : body ≠ []) (hwhole : body.length % recordSize tb = 0)

include hbody hwhole

theorem writeTable_badIndex (hrange : recordCount tb < start + body.length / recordSize tb) :
    k.writeTable code start body = .badIndex := by
  rw [writeTable, if_neg (not_not.mpr h)]
  simp only [htable]
  rw [if_neg (by simp [hbody, hwhole]), if_pos hrange]

theorem writeTable_stores (hrange : start + body.length / recordSize tb ≤ recordCount tb) :
    k.writeTable code start body =
      .written { k.setShadow (k.shadowBank.setRecords tb start body) with dirty := true } := by
  rw [writeTable, if_neg (not_not.mpr h)]
  simp only [htable]
  rw [if_neg (by simp [hbody, hwhole]), if_neg (Nat.not_lt.mpr hrange)]

end Controller

/-- A write to the shadow changes neither the active bank nor the rest of the controller. -/
theorem Controller.setShadow_frame (k : Controller) (b : Bank) :
    { k.setShadow b with dirty := k.dirty, bank0 := k.bank0, bank1 := k.bank1 } = k := by
  unfold Controller.setShadow
  cases otherBank k.active <;> rfl

theorem Controller.shadow_wf {s : State} (h : BanksCanonical s) : s.tables.shadowBank.wf = true :=
  (banksCanonical_iff s).mp h _

section
variable {c : Command} {t : State}

theorem runWriteTable_short (h : c.params.length < 3) : runWriteTable c t = (t, refuse .badLength) := by
  rw [runWriteTable, needs, if_pos h]

/-- WRITE_TABLE hands the controller what follows table and start, and answers what it says. -/
theorem runWriteTable_judged (h : 3 ≤ c.params.length) : runWriteTable c t =
    match t.tables.writeTable (byteAt c.params 0) (u16At c.params 1).toNat (c.params.drop 3) with
    | .busy => (t, refuse .busy)
    | .badTable => (t, refuse .badTable)
    | .badLength => (t, refuse .badLength)
    | .badIndex => (t, refuse .badIndex)
    | .written u => ({ t with tables := u }, reply .ok []) := by
  rw [runWriteTable, needs, if_neg (by omega)] <;> rfl

end

/-! ### COMMIT and ABORT_EDIT (R96, R105) -/

theorem runCommit_editing (c : Command) {t : State} (h : t.tables.state = .editing) : runCommit c t =
    ({ t with tables := { t.tables with state := .signing (some firstRecord) checkInit, origin := some c.src } },
      reply .accepted (word16Bytes (pendingGeneration t.tables.generation))) := by
  simp only [runCommit, Controller.commit, if_pos h]

theorem runCommit_busy (c : Command) {t : State} (h : t.tables.state ≠ .editing) :
    runCommit c t = (t, refuse .busy) := by
  simp only [runCommit, Controller.commit, if_neg h]

theorem runAbortEdit_copying (c : Command) {t : State} {pos : Option RecordRef} (h : t.tables.state = .copying pos) :
    runAbortEdit c t = (t, reply .ok []) := by
  simp only [runAbortEdit, Controller.abortEdit, h]

theorem Controller.abortEdit_of_not_copying {k : Controller} (mode : Mode) (h : ∀ pos, k.state ≠ .copying pos) :
    k.abortEdit mode =
      if mode = .faulted then .faulted else .accepted { k with state := .copying (some firstRecord) } := by
  unfold Controller.abortEdit
  split
  next pos hpos => exact absurd hpos (h pos)
  · rfl

theorem runAbortEdit_faulted (c : Command) {t : State} (h : ∀ pos, t.tables.state ≠ .copying pos)
    (hmode : t.classifier.mode = .faulted) : runAbortEdit c t = (t, refuse .faulted) := by
  simp only [runAbortEdit, Controller.abortEdit_of_not_copying _ h, if_pos hmode]

theorem runAbortEdit_begins (c : Command) {t : State} (h : ∀ pos, t.tables.state ≠ .copying pos)
    (hmode : t.classifier.mode ≠ .faulted) : runAbortEdit c t =
    ({ t with tables := { t.tables with state := .copying (some firstRecord) } }, reply .accepted []) := by
  simp only [runAbortEdit, Controller.abortEdit_of_not_copying _ h, if_neg hmode]

/-! ### The rows -/

section
variable {s : State} {f : RxFrame} (hf : Takes s f) (hfresh : Fresh s (readCommand f)) {takes : Command → Bool}
  (ht : takes (readCommand f) = true) {run : Run} {t : State} {r : Reply}
  (hrun : run (readCommand f) s.takeHead = (t, r))

include hf hfresh ht hrun

/-- A row that any node may use answers a fresh command with what its run makes of the part. -/
theorem State.next_of_anyone :
    Host.Outcome.next (s.takeCommand takes (always .anyone) run) =
      (.next (answered s t (readCommand f) r) : Host.Outcome State Fault Refusal) := by
  rw [State.takeCommand_permitted (perm := always .anyone) run hf hfresh ht rfl, hrun]

/-- So does a row of the owner on his command. -/
theorem State.next_of_owner (howner : s.isOwner (readCommand f) = true) :
    Host.Outcome.next (s.takeCommand takes (always .owner) run) =
      (.next (answered s t (readCommand f) r) : Host.Outcome State Fault Refusal) := by
  rw [State.takeCommand_owner run hf hfresh ht howner, hrun]

end

theorem State.setCursor_owner {s : State} {c : Command} (cur : Cursor) (h : s.isOwner c = true) :
    s.setCursor c cur = s.withSession fun o => { o with cursor := some cur } := if_pos h

theorem State.setCursor_other {s : State} {c : Command} (cur : Cursor) (h : s.isOwner c = false) :
    s.setCursor c cur = s := if_neg (by simp [h])

theorem State.takeHead_cursor {s : State} {o : Session} (ho : s.endpoint.session = some o) :
    s.takeHead.cursor = o.cursor := by
  simp only [State.cursor, State.takeHead_endpoint, ho, Option.bind_some]

theorem Controller.roleBank_eq (k : Controller) (r : Role) :
    k.roleBank r = if r = .active then k.activeBank else k.shadowBank := by
  cases r <;> rfl

theorem hasCode_of_eq {c : Command} {k : Byte} (h : c.code = k) : hasCode k c = true := by
  simp [hasCode, h]

end Sys2Proof.Machine

namespace Sys2Proof.Settled

open Sys2Proof.Machine Sys2Proof.Safety

/-- Settles O58: the checks of each command in their order, and then what it reads, stores or begins. -/
theorem tableCommands : Obligations.TableCommands := by
  intro s f hf c t ok refusal read hfresh
  obtain ⟨-, -, -, -, hclassifier, -, -, htables, -⟩ := s.takeHead_frame
  refine ⟨fun hcode hlen => State.next_of_anyone hf hfresh (hasCode_of_eq hcode) (runReadTable_short hlen),
    fun hcode howns hlen => State.next_of_owner hf hfresh (hasCode_of_eq hcode) (runWriteTable_short hlen) howns,
    fun hcode hlen => ⟨fun hnone => ?_, fun tb htb => ?_⟩,
    fun hcode o ho howns => ⟨fun hnone => ?_, fun cur hcur => ?_⟩,
    fun hcode howns hlen => ?_, fun hcode howns => ?_, fun hcode howns => ⟨fun pos hpos => ?_, fun hnot => ?_⟩⟩
  · exact State.next_of_anyone hf hfresh (hasCode_of_eq hcode) (runReadTable_badTable hlen hnone)
  · refine ⟨fun hbad => ?_, fun hrole hcount hrange => ?_, fun hrole hcount hstart hend => ?_⟩
    · rcases hbad with hrole | hcount
      · exact State.next_of_anyone hf hfresh (hasCode_of_eq hcode)
          (runReadTable_badRole hlen htb (roleOfCode_none hrole))
      · exact State.next_of_anyone hf hfresh (hasCode_of_eq hcode) (runReadTable_noRecord hlen htb hcount)
    · exact State.next_of_anyone hf hfresh (hasCode_of_eq hcode)
        (runReadTable_badIndex hlen htb (roleOfCode_some hrole) hcount hrange)
    · intro n b r cur
      have hreads := runReadTable_reads (t := t) hlen htb (roleOfCode_some hrole) hcount ⟨hstart, hend⟩
      have hbank : t.tables.roleBank r = b := by
        rw [Controller.roleBank_eq, show t.tables = s.tables from htables]
        by_cases h0 : byteAt c.params 1 = 0#8 <;> simp [r, b, h0]
      have hbody : t.tables.roleBank (if c.param8 1 = 0#8 then .active else .shadow) = b := hbank
      rw [hbody] at hreads
      refine ⟨fun hother => ?_, fun howns => ?_⟩
      · rw [State.setCursor_other _ (by rwa [State.takeHead_isOwner])] at hreads
        exact State.next_of_anyone hf hfresh (hasCode_of_eq hcode) hreads
      · rw [State.setCursor_owner _ (by rwa [State.takeHead_isOwner])] at hreads
        exact State.next_of_anyone hf hfresh (hasCode_of_eq hcode) hreads
  · exact State.next_of_owner hf hfresh (hasCode_of_eq hcode)
      (runReadNext_none c ((State.takeHead_cursor ho).trans hnone)) howns
  · have hreads := runReadNext_some c ((State.takeHead_cursor ho).trans hcur)
    rw [htables, Controller.roleBank_eq] at hreads
    exact State.next_of_owner hf hfresh (hasCode_of_eq hcode) hreads howns
  · have hjudged := runWriteTable_judged (t := t) hlen
    rw [htables] at hjudged
    refine ⟨fun hstate => ?_, fun hstate hnone => ?_, fun tb hstate htb => ⟨fun hbad => ?_,
      fun hbody hwhole hrange => ?_, fun hbody hwhole hrange hbanks => ?_⟩⟩
    · rw [Controller.writeTable_busy hstate] at hjudged
      exact State.next_of_owner hf hfresh (hasCode_of_eq hcode) hjudged howns
    · rw [Controller.writeTable_badTable hstate hnone] at hjudged
      exact State.next_of_owner hf hfresh (hasCode_of_eq hcode) hjudged howns
    · rw [Controller.writeTable_badLength hstate htb hbad] at hjudged
      exact State.next_of_owner hf hfresh (hasCode_of_eq hcode) hjudged howns
    · rw [Controller.writeTable_badIndex hstate htb hbody hwhole hrange] at hjudged
      exact State.next_of_owner hf hfresh (hasCode_of_eq hcode) hjudged howns
    · rw [Controller.writeTable_stores hstate htb hbody hwhole hrange] at hjudged
      have hwf := Controller.shadow_wf hbanks
      have hshadow := s.tables.setShadow_shadowBank (s.tables.shadowBank.setRecords tb (c.param16 1) (c.params.drop 3))
      refine ⟨_, State.next_of_owner hf hfresh (hasCode_of_eq hcode) hjudged howns, rfl,
        s.tables.setShadow_activeBank _, fun k hk => ?_, fun a ha => ?_, ?_⟩
      · exact (congrArg (fun b : Bank => b.read (recordOffset tb (c.param16 1) + k)) hshadow).trans
          (Bank.read_writeBytes _ k _ hwf hk)
      · exact (congrArg (fun b : Bank => b.read a) hshadow).trans (Bank.read_writeBytes_outside _ _ ha)
      · exact s.tables.setShadow_frame _
  · intro pending
    split
    next hstate =>
      have hruns := runCommit_editing c (t := t) (by rwa [htables])
      have hpending : pendingGeneration t.tables.generation = pending :=
        congrArg (fun k : Controller => pendingGeneration k.generation) htables
      rw [hpending] at hruns
      exact State.next_of_owner hf hfresh (hasCode_of_eq hcode) hruns howns
    next hstate =>
      exact State.next_of_owner hf hfresh (hasCode_of_eq hcode) (runCommit_busy c (t := t) (by rwa [htables])) howns
  · exact State.next_of_owner hf hfresh (hasCode_of_eq hcode)
      (runAbortEdit_copying c (t := t) (by rw [htables]; exact hpos)) howns
  · have hnot' : ∀ pos, t.tables.state ≠ .copying pos := by rwa [htables]
    split
    next hmode =>
      exact State.next_of_owner hf hfresh (hasCode_of_eq hcode)
        (runAbortEdit_faulted c hnot' (by rwa [hclassifier])) howns
    next hmode =>
      exact State.next_of_owner hf hfresh (hasCode_of_eq hcode)
        (runAbortEdit_begins c hnot' (by rwa [hclassifier])) howns

end Sys2Proof.Settled
end

section
/-! PROOF. READ_COUNTERS: the refusals in their order, and what each of its six groups reads and clears (R163, 12.4). -/

set_option Elab.async false

namespace Sys2Proof.Machine

open Sys2Proof.Safety

/-! ### The rows of the six groups (R163) -/

/-- A row of READ_COUNTERS: its group, the parameter bytes that it needs, and its run without or with clear. -/
structure CounterRow where
  group : Byte
  bytes : Nat
  run : Bool → Run

/-- The six rows. -/
def counterRow : Instr → Option CounterRow
  | .readCountersHits => some ⟨1#8, 7, runHits⟩
  | .readCountersPort => some ⟨2#8, 3, runPort⟩
  | .readCountersMeter => some ⟨3#8, 7, runMeters⟩
  | .readCountersPrefilter => some ⟨4#8, 3, runPrefilter⟩
  | .readCountersMgmt => some ⟨5#8, 3, runMgmt⟩
  | .readCountersIntegrity => some ⟨6#8, 3, runIntegrity⟩
  | _ => none

/-- The instructions of READ_COUNTERS. -/
def counterRows : List Instr :=
  [.readCountersHits, .readCountersPort, .readCountersMeter, .readCountersPrefilter, .readCountersMgmt,
    .readCountersIntegrity]

theorem counterRow_of_mem {i : Instr} (hi : i ∈ counterRows) : ∃ row, counterRow i = some row := by
  simp only [counterRows, List.mem_cons, List.not_mem_nil, or_false] at hi
  rcases hi with rfl | rfl | rfl | rfl | rfl | rfl <;> exact ⟨_, rfl⟩

section
variable {i : Instr} {row : CounterRow} (hrow : counterRow i = some row)

include hrow

theorem exec_counterRow (s : State) : exec i s =
    .next (s.takeCommand (readsGroup row.group) counterPermission (counterRun row.bytes row.run)) := by
  cases i with
  | readCountersHits | readCountersPort | readCountersMeter | readCountersPrefilter | readCountersMgmt
  | readCountersIntegrity =>
    cases hrow
    rfl
  | _ => cases hrow

theorem rowTakes_counterRow (c : Command) : rowTakes i c = readsGroup row.group c := by
  cases i with
  | readCountersHits | readCountersPort | readCountersMeter | readCountersPrefilter | readCountersMgmt
  | readCountersIntegrity =>
    cases hrow
    rfl
  | _ => cases hrow

/-- Each row is that of its group, and the groups with a range need 7 parameter bytes. -/
theorem counterRow_group : (row.group = 1#8 → row.run = runHits) ∧ (row.group = 2#8 → row.run = runPort) ∧
    (row.group = 3#8 → row.run = runMeters) ∧
    row.bytes = if row.group = 1#8 ∨ row.group = 3#8 then 7 else 3 := by
  cases i with
  | readCountersHits | readCountersPort | readCountersMeter | readCountersPrefilter | readCountersMgmt
  | readCountersIntegrity =>
    cases hrow
    simp
  | _ => cases hrow

theorem counterRow_known : ¬unassignedGroup row.group = true := by
  cases i with
  | readCountersHits | readCountersPort | readCountersMeter | readCountersPrefilter | readCountersMgmt
  | readCountersIntegrity =>
    cases hrow
    decide
  | _ => cases hrow

end

/-! ### The permission of a read (R163) -/

section
variable {s : State} {c : Command}

theorem counterPermission_free (h : c.params.length < 3 ∨ byteAt c.params 2 = 0#8 ∨ s.isOwner c = true) :
    s.permissionFails (counterPermission c) c = none := by
  unfold counterPermission
  split
  next hclear =>
    have howner := (h.resolve_left (by omega)).resolve_left hclear.2
    exact State.permissionFails_of_owner howner
  · rfl

theorem counterPermission_fails (hlen : 3 ≤ c.params.length) (hclear : byteAt c.params 2 ≠ 0#8)
    (hother : s.isOwner c = false) : s.permissionFails (counterPermission c) c =
      some (if s.endpoint.session.isSome then .notOwner else .noSession) := by
  rw [counterPermission, if_pos ⟨hlen, hclear⟩]
  exact State.permissionFails_owner hother

end

/-! ### The parameters that the groups share (logs 14 and 27) -/

theorem unassignedGroup_iff (k : Byte) : unassignedGroup k = true ↔ k = 0#8 ∨ 7 ≤ k.toNat := by
  simp [unassignedGroup, Nat.succ_le_iff]

section
variable {c : Command} {t : State} {n : Nat} {run : Bool → Run}

theorem counterRun_short (h : c.params.length < 3) : counterRun n run c t = (t, refuse .badLength) := by
  rw [counterRun, needs, if_pos h]

variable (h : 3 ≤ c.params.length)

include h

theorem counterRun_unassigned (hgroup : unassignedGroup (byteAt c.params 0) = true) :
    counterRun n run c t = (t, refuse .badValue) := by
  rw [counterRun, needs, if_neg (by omega)]
  exact if_pos hgroup

variable (hgroup : ¬unassignedGroup (byteAt c.params 0) = true)

include hgroup

theorem counterRun_ends (hlen : c.params.length < n) : counterRun n run c t = (t, refuse .badLength) := by
  rw [counterRun, needs, if_neg (by omega)]
  exact (if_neg hgroup).trans (if_pos hlen)

variable (hlen : n ≤ c.params.length)

include hlen

theorem counterRun_badClear (hclear : 2 ≤ (byteAt c.params 2).toNat) :
    counterRun n run c t = (t, refuse .badValue) := by
  rw [counterRun, needs, if_neg (by omega)]
  exact ((if_neg hgroup).trans (if_neg (by omega))).trans (if_pos hclear)

theorem counterRun_runs (hclear : (byteAt c.params 2).toNat ≤ 1) :
    counterRun n run c t = run (byteAt c.params 2 == 1#8) c t := by
  rw [counterRun, needs, if_neg (by omega)]
  exact ((if_neg hgroup).trans (if_neg (by omega))).trans (if_neg (Nat.not_lt.mpr hclear))

end

/-! ### Each group's own parameters (R26, R87, R129) -/

theorem rangeFails_none {first count limit : Nat} (hcount : count ≠ 0) (h : first + count ≤ limit) :
    rangeFails first count limit = none := by
  rw [rangeFails, if_neg hcount, if_neg (Nat.not_lt.mpr h)]

theorem rangeFails_count {first count limit : Nat} (hcount : count = 0) :
    rangeFails first count limit = some .badValue := if_pos hcount

theorem rangeFails_beyond {first count limit : Nat} (hcount : count ≠ 0) (h : limit < first + count) :
    rangeFails first count limit = some .badIndex := by
  rw [rangeFails, if_neg hcount, if_pos h]

section
variable {c : Command} {t : State} {clear : Bool}

theorem runHits_badSelector (h : 2 ≤ (byteAt c.params 1).toNat) : runHits clear c t = (t, refuse .badValue) := by
  have hnone : arrayOfCode (c.param8 1) = none := by
    have h0 : byteAt c.params 1 ≠ 0#8 := fun he => by rw [he] at h; exact absurd h (by decide)
    have h1 : byteAt c.params 1 ≠ 1#8 := fun he => by rw [he] at h; exact absurd h (by decide)
    exact (if_neg h0).trans (if_neg h1)
  simp only [runHits, hnone]

/-- A clear of PREVIOUS (R26). -/
theorem runHits_previous (hsel : byteAt c.params 1 = 1#8) : runHits true c t = (t, refuse .badValue) := by
  have hsome : arrayOfCode (c.param8 1) = some false := by
    rw [Command.param8, hsel]
    rfl
  simp only [runHits, hsome]
  rfl

theorem runHits_refused (hsel : (byteAt c.params 1).toNat ≤ 1) (hclear : clear = false ∨ byteAt c.params 1 = 0#8)
    {st : Status} (hrange : rangeFails (u16At c.params 3).toNat (u16At c.params 5).toNat 512 = some st) :
    runHits clear c t = (t, refuse st) := by
  have hcode : byteAt c.params 1 = 0#8 ∨ byteAt c.params 1 = 1#8 := by bv_omega
  have hrange' : rangeFails (c.param16 3) (c.param16 5) 512 = some st := hrange
  rcases hcode with hcode | hcode
  · have hsome : arrayOfCode (c.param8 1) = some true := by
      rw [Command.param8, hcode]
      rfl
    simp [runHits, hsome, hrange']
  · have hsome : arrayOfCode (c.param8 1) = some false := by
      rw [Command.param8, hcode]
      rfl
    have hno : clear = false := hclear.resolve_right (by rw [hcode]; decide)
    simp [runHits, hsome, hrange', hno]

theorem runHits_reads {current : Bool} (hsel : arrayOfCode (byteAt c.params 1) = some current)
    (hclear : clear = false ∨ current = true)
    (hrange : rangeFails (u16At c.params 3).toNat (u16At c.params 5).toNat 512 = none) : runHits clear c t =
      (if clear then
          { t with classifier := { t.classifier with
              current := clearHits t.classifier.current (u16At c.params 3).toNat
                (min (u16At c.params 5).toNat maxHitSlots) } }
        else t,
        reply .ok (hitsBody t.tables.generation (byteAt c.params 1)
          (if current then t.classifier.current else t.classifier.previous) (u16At c.params 3).toNat
          (min (u16At c.params 5).toNat maxHitSlots))) := by
  have hsel' : arrayOfCode (c.param8 1) = some current := hsel
  have hrange' : rangeFails (c.param16 3) (c.param16 5) 512 = none := hrange
  have hboth : ¬(clear && !current) = true := by
    rcases hclear with rfl | rfl <;> simp
  simp only [runHits, hsel', hrange', if_neg hboth]
  rfl

theorem runPort_badSelector (h : byteAt c.params 1 ≠ 1#8) (h' : byteAt c.params 1 ≠ 2#8) :
    runPort clear c t = (t, refuse .badValue) := by
  have hnone : portOfCode (c.param8 1) = none := (if_neg h).trans (if_neg h')
  simp only [runPort, hnone]

theorem runPort_reads {p : Port} (h : byteAt c.params 1 = if p = .a then 1#8 else 2#8) : runPort clear c t =
    (if clear then t.setPort p { t.port p with counters := Vector.replicate 38 0#32 } else t,
      reply .ok ((t.port p).counters.toList.flatMap word32Bytes)) := by
  have hsome : portOfCode (c.param8 1) = some p := by
    rw [Command.param8, h]
    cases p <;> rfl
  simp only [runPort, hsome]

theorem runMeters_refused {st : Status}
    (hrange : rangeFails (u16At c.params 3).toNat (u16At c.params 5).toNat 64 = some st) :
    runMeters clear c t = (t, refuse st) := by
  have hrange' : rangeFails (c.param16 3) (c.param16 5) 64 = some st := hrange
  simp only [runMeters, hrange']

theorem runMeters_reads (hrange : rangeFails (u16At c.params 3).toNat (u16At c.params 5).toNat 64 = none) :
    runMeters clear c t =
      (if clear then
          { t with
            meters := clearMeters t.meters (u16At c.params 3).toNat (min (u16At c.params 5).toNat maxMeterReads) }
        else t,
        reply .ok (metersBody t.meters (u16At c.params 3).toNat (min (u16At c.params 5).toNat maxMeterReads))) := by
  have hrange' : rangeFails (c.param16 3) (c.param16 5) 64 = none := hrange
  simp only [runMeters, hrange']
  rfl

end

theorem clearHits_getElem (hits : Vector HitCounter 512) (first n : Nat) (k : Fin 512) :
    (clearHits hits first n)[k] = if first ≤ k.val ∧ k.val < first + n then HitCounter.zero else hits[k] := by
  simp [clearHits]

theorem clearMeters_getElem (ms : Vector Meter 64) (first n : Nat) (k : Fin 64) : (clearMeters ms first n)[k] =
    if first ≤ k.val ∧ k.val < first + n then { ms[k] with green := 0#32, red := 0#32 } else ms[k] := by
  simp [clearMeters]

/-! ### A row's answer -/

section
variable {s : State} {f : RxFrame} (hf : Takes s f) (hfresh : Fresh s (readCommand f)) {i : Instr} {row : CounterRow}
  (hrow : counterRow i = some row) (htakes : rowTakes i (readCommand f) = true)

include hf hfresh hrow htakes

/-- A read that is permitted is answered as its run says. -/
theorem State.exec_counters
    (hfree : (readCommand f).params.length < 3 ∨ byteAt (readCommand f).params 2 = 0#8 ∨
      s.isOwner (readCommand f) = true) {t : State} {r : Reply}
    (hrun : counterRun row.bytes row.run (readCommand f) s.takeHead = (t, r)) :
    exec i s = .next (answered s t (readCommand f) r) := by
  rw [rowTakes_counterRow hrow] at htakes
  rw [exec_counterRow hrow, State.takeCommand_permitted _ hf hfresh htakes (counterPermission_free hfree), hrun]

/-- A read with clear of another node is not run (R155). -/
theorem State.exec_counters_denied (hlen : 3 ≤ (readCommand f).params.length)
    (hclear : byteAt (readCommand f).params 2 ≠ 0#8) (hother : s.isOwner (readCommand f) = false) :
    exec i s = .next (answered s s.takeHead (readCommand f)
      (refuse (if s.endpoint.session.isSome then .notOwner else .noSession))) := by
  rw [rowTakes_counterRow hrow] at htakes
  have hfresh' : Fresh s.takeHead (readCommand f) := by simpa [Fresh] using hfresh
  have hfails := counterPermission_fails hlen hclear hother
  rw [← State.takeHead_permissionFails] at hfails
  rw [exec_counterRow hrow, State.takeCommand_judge _ _ _ hf htakes, State.judge_refused _ _ hfresh' hfails]
  simp [answered]

end

/-- A read of a known group belongs to the row of that group alone (log 15). -/
theorem readsGroup_iff {c : Command} {k : Byte} (hcode : c.code = 11#8) (hlen : 3 ≤ c.params.length)
    (hgroup : ¬unassignedGroup (byteAt c.params 0) = true) : readsGroup k c = true ↔ byteAt c.params 0 = k := by
  have hsome : c.params ≠ [] := fun h => by simp [h] at hlen
  have hgroup' : unassignedGroup (byteAt c.params 0) = false := Bool.not_eq_true _ ▸ hgroup
  simp [readsGroup, hasCode, hcode, hsome, hgroup', Command.param8]

section
variable {s : State} {f : RxFrame} (hf : Takes s f) (hfresh : Fresh s (readCommand f))
  (hcode : (readCommand f).code = 11#8) (hlen : 3 ≤ (readCommand f).params.length) {i : Instr} {row : CounterRow}
  (hrow : counterRow i = some row) (hgroup : byteAt (readCommand f).params 0 = row.group)
  (hends : row.bytes ≤ (readCommand f).params.length) {t : State} {r : Reply}

include hf hfresh hcode hlen hrow hgroup hends

/-- A read of a group without clear. -/
theorem State.exec_counters_read (hclear : byteAt (readCommand f).params 2 = 0#8)
    (hrun : row.run false (readCommand f) s.takeHead = (t, r)) :
    exec i s = .next (answered s t (readCommand f) r) := by
  have hknown := counterRow_known hrow
  rw [← hgroup] at hknown
  have htakes := (rowTakes_counterRow hrow _).trans ((readsGroup_iff hcode hlen hknown).mpr hgroup)
  have hrun' := counterRun_runs (t := s.takeHead) (run := row.run) hlen hknown hends (by rw [hclear]; decide)
  rw [hclear] at hrun'
  exact State.exec_counters hf hfresh hrow htakes (.inr (.inl hclear)) (hrun'.trans hrun)

/-- The owner's read with clear. -/
theorem State.exec_counters_cleared (hclear : byteAt (readCommand f).params 2 = 1#8)
    (howner : s.isOwner (readCommand f) = true) (hrun : row.run true (readCommand f) s.takeHead = (t, r)) :
    exec i s = .next (answered s t (readCommand f) r) := by
  have hknown := counterRow_known hrow
  rw [← hgroup] at hknown
  have htakes := (rowTakes_counterRow hrow _).trans ((readsGroup_iff hcode hlen hknown).mpr hgroup)
  have hrun' := counterRun_runs (t := s.takeHead) (run := row.run) hlen hknown hends (by rw [hclear]; decide)
  rw [hclear] at hrun'
  exact State.exec_counters hf hfresh hrow htakes (.inr (.inr howner)) (hrun'.trans hrun)

end

end Sys2Proof.Machine

namespace Sys2Proof.Settled

open Sys2Proof.Machine Sys2Proof.Safety

/-- Settles O59: the permission, then the checks that all groups share, then the group's own. -/
theorem counterCommands : Obligations.CounterCommands := by
  intro s f hf c t group sel clear first count ok refused hfresh hcode
  obtain ⟨-, -, -, -, hclassifier, hprefilter, hmeters, htables, hverify⟩ := s.takeHead_frame
  refine ⟨fun i hi htakes => ?_, fun hlen => ?_⟩
  · obtain ⟨row, hrow⟩ := counterRow_of_mem hi
    have runs := @State.exec_counters s f hf hfresh i row hrow htakes
    obtain ⟨hhits, hport, hmeter, hbytes⟩ := counterRow_group hrow
    refine ⟨fun hshort => runs (.inl hshort) (counterRun_short hshort), fun hlen hclear hother => ?_,
      fun hlen hfree => ⟨fun hgroup => ?_, fun hgroup hshort => ?_, fun hlow hhigh hneeds => ?_⟩⟩
    · have hdenied := State.exec_counters_denied hf hfresh hrow htakes hlen hclear hother
      cases ho : s.endpoint.session with
      | none => simp only [ho] at hdenied; exact hdenied
      | some o => simp only [ho] at hdenied; exact hdenied
    · exact runs (.inr hfree) (counterRun_unassigned hlen ((unassignedGroup_iff _).mpr hgroup))
    · have hknown : ¬unassignedGroup group = true := by
        rw [unassignedGroup_iff]
        rcases hgroup with h | h <;> rw [h] <;> decide
      have hgroup' : byteAt c.params 0 = row.group :=
        (readsGroup_iff hcode hlen hknown).mp ((rowTakes_counterRow hrow c).symm.trans htakes)
      refine runs (.inr hfree) (counterRun_ends hlen hknown ?_)
      rw [hbytes, ← hgroup', if_pos hgroup]
      exact hshort
    · have hknown : ¬unassignedGroup group = true := by
        rw [unassignedGroup_iff]
        bv_omega
      have hgroup' : byteAt c.params 0 = row.group :=
        (readsGroup_iff hcode hlen hknown).mp ((rowTakes_counterRow hrow c).symm.trans htakes)
      have hends : row.bytes ≤ c.params.length := by
        rw [hbytes, ← hgroup']
        split
        next h => exact hneeds h
        next => exact hlen
      have bad : ∀ {r : Reply}, clear.toNat ≤ 1 → row.run (clear == 1#8) c t = (t, r) →
          exec i s = .next (answered s t c r) := fun hclear hrun =>
        runs (.inr hfree) ((counterRun_runs hlen hknown hends hclear).trans hrun)
      refine ⟨fun hclear => runs (.inr hfree) (counterRun_badClear hlen hknown hends hclear),
        fun hclear => ⟨fun hg hsel => ?_, fun hg hsel hsel' => ?_,
          fun hg hsel hplain => ⟨fun hcount => ?_, fun hcount hrange => ?_⟩,
          fun hg => ⟨fun hcount => ?_, fun hcount hrange => ?_⟩⟩⟩
      all_goals rw [show group = row.group from hgroup'] at hg
      · exact bad hclear (by rw [hhits hg]; exact runHits_badSelector hsel)
      · exact bad hclear (by rw [hport hg]; exact runPort_badSelector hsel hsel')
      · have hkeeps : (clear == 1#8) = false ∨ byteAt c.params 1 = 0#8 := hplain.imp_left fun h => by rw [h]; rfl
        exact bad hclear (by rw [hhits hg]; exact runHits_refused hsel hkeeps (rangeFails_count hcount))
      · have hkeeps : (clear == 1#8) = false ∨ byteAt c.params 1 = 0#8 := hplain.imp_left fun h => by rw [h]; rfl
        exact bad hclear (by rw [hhits hg]; exact runHits_refused hsel hkeeps (rangeFails_beyond hcount hrange))
      · exact bad hclear (by rw [hmeter hg]; exact runMeters_refused (rangeFails_count hcount))
      · exact bad hclear (by rw [hmeter hg]; exact runMeters_refused (rangeFails_beyond hcount hrange))
  · have reads := @State.exec_counters_read s f hf hfresh hcode hlen
    have cleared := @State.exec_counters_cleared s f hf hfresh hcode hlen
    refine ⟨fun hg hends hcount hrange => ?_, fun p hg hsel => ?_, fun hg hends hcount hrange => ?_, fun hg => ?_,
      fun hg => ?_, fun hg => ?_⟩
    · intro n body
      have hbody : ∀ hits, hitsBody t.tables.generation sel hits first n = body hits := fun hits => by
        rw [show t.tables = s.tables from htables]
        rfl
      have run : ∀ {b current : Bool}, arrayOfCode sel = some current → (b = false ∨ current = true) → _ :=
        fun {b current} hsel hb =>
          runHits_reads (c := c) (t := t) (clear := b) hsel hb (rangeFails_none hcount hrange)
      refine ⟨fun hclear => ⟨fun hsel => ?_, fun hsel => ?_⟩, fun hclear howns => ⟨fun hsel => ?_, fun hsel => ?_⟩⟩
      · have hrun := run (b := false) (current := true) (by rw [hsel]; rfl) (.inl rfl)
        rw [← hclassifier, ← hbody]
        exact reads rfl hg hends hclear hrun
      · have hrun := run (b := false) (current := false) (by rw [hsel]; rfl) (.inl rfl)
        rw [← hclassifier, ← hbody]
        exact reads rfl hg hends hclear hrun
      · have hrun := run (b := true) (current := true) (by rw [hsel]; rfl) (.inr rfl)
        rw [← hclassifier, ← hbody]
        exact ⟨_, cleared rfl hg hends hclear howns hrun, clearHits_getElem _ _ _⟩
      · exact cleared rfl hg hends hclear howns (runHits_previous hsel)
    · intro body
      have hport : t.port p = s.port p := s.takeHead_port p
      have hbody : (t.port p).counters.toList.flatMap word32Bytes = body := by rw [hport]
      rw [← hbody]
      exact ⟨fun hclear => reads rfl hg hlen hclear (runPort_reads hsel), fun hclear howns =>
        cleared rfl hg hlen hclear howns (runPort_reads hsel)⟩
    · intro n body
      have hrun := fun b => runMeters_reads (c := c) (t := t) (clear := b) (rangeFails_none hcount hrange)
      have hbody : metersBody t.meters first n = body := by
        rw [show t.meters = s.meters from hmeters]
        rfl
      rw [← hbody, ← hmeters]
      exact ⟨fun hclear => reads rfl hg hends hclear (hrun false), fun hclear howns =>
        ⟨_, cleared rfl hg hends hclear howns (hrun true), clearMeters_getElem _ _ _⟩⟩
    · intro body
      have hbody : (runPrefilter false c t).2 = ok body := by
        simp only [runPrefilter, show t.prefilter = s.prefilter from hprefilter]
        rfl
      rw [← hbody]
      exact ⟨fun hclear => reads rfl hg hlen hclear rfl, fun hclear howns => cleared rfl hg hlen hclear howns rfl⟩
    · intro m body zero
      exact ⟨fun hclear => reads rfl hg hlen hclear rfl, fun hclear howns => cleared rfl hg hlen hclear howns rfl⟩
    · intro fault body
      have hbody : (runIntegrity false c t).2 = ok body := by
        simp only [runIntegrity, show t.verify = s.verify from hverify]
        rfl
      rw [← hbody]
      exact ⟨fun hclear => reads rfl hg hlen hclear rfl, fun hclear howns => cleared rfl hg hlen hclear howns rfl⟩

end Sys2Proof.Settled
end

section
/-! PROOF. The commands of the listener: SET_LISTENER with a node and with none, and ACK_EVENT (R164, R168, R170,
R172, R173, R176, R178). -/

set_option Elab.async false

namespace Sys2Proof.Machine

open Sys2Proof.Safety

/-! ### What remains after a withdrawal (R131, R140; log 17) -/

/-- The sender has neither a claim nor a report that waits. -/
def Sender.Rests (a : Sender) : Prop :=
  ∀ w, a = .awaiting w → w.flight ≠ .claiming ∧ ∀ b, w.flight ≠ .offering b

theorem Sender.idle_rests : Sender.Rests .idle := fun _ => nofun

/-- What a match on a sender makes of its captured value depends on its head alone. -/
theorem Sender.match_captured {a b : Sender} {β : Type} (g : Word16 → β) (d : β) : a.head = b.head →
    (match a with | .awaiting w => g w.captured | .idle => d) =
      match b with | .awaiting w => g w.captured | .idle => d := by
  intro h
  cases a with
  | idle =>
    cases b with
    | idle => rfl
    | awaiting w => cases h
  | awaiting u =>
    cases b with
    | idle => cases h
    | awaiting w =>
      have hcaptured : u.captured = w.captured := congrArg Prod.snd (Option.some.inj h)
      simp only [hcaptured]

namespace Commons

theorem withdrawEvent_rests (x : Commons) : x.withdrawEvent.events.sender.Rests := fun _ => x.withdrawEvent_flight

theorem withdrawPunt_idle (x : Commons) : x.withdrawPunt.events.punt = .idle := by
  unfold withdrawPunt
  split
  · rfl
  · rfl
  next h => exact h

theorem withdrawPunt_reserve_le (x : Commons) : x.pool.freeReserve ≤ x.withdrawPunt.pool.freeReserve := by
  unfold withdrawPunt
  split
  · exact Nat.le_refl _
  · exact Nat.le_add_right _ _
  · exact Nat.le_refl _

section
variable {v : State} {x : Commons} (houtput : x.output = .idle) (hsender : x.events.sender.Rests)

include houtput

theorem responseOfferWaits_of_idle (p : Port) : x.responseOfferWaits p = false := by
  simp [responseOfferWaits, houtput]

theorem responseClaimWaits_of_idle : x.responseClaimWaits = false := by
  simp [responseClaimWaits, houtput]

include hsender

/-- Where neither a response nor the sender waits for anything, what remains is a punt report that waits for room. -/
theorem judgeRest_punts (hpunt : x.events.punt ≠ .claiming) :
    judgeRest v.env x = admitWaitingPunt v.env .b (admitWaitingPunt v.env .a x) := by
  have hclaims : x.eventClaimWaits = false := by
    rw [Bool.eq_false_iff, Ne, eventClaimWaits_iff]
    rintro ⟨w, hw, hclaiming⟩
    exact (hsender w hw).1 hclaiming
  have hoffers : ∀ y : Commons, y.output = x.output → y.events.sender = x.events.sender → ∀ p,
      admitOffers v.env p y = admitWaitingPunt v.env p y := fun y hout hsame p => by
    have hresponse : y.responseOfferWaits p = false := responseOfferWaits_of_idle (hout.trans houtput) p
    have hevent : y.eventOfferWaits p = false := by
      rw [Bool.eq_false_iff, Ne, eventOfferWaits_iff, hsame]
      rintro ⟨w, b, hw, hoffering, -⟩
      exact (hsender w hw).2 b hoffering
    rw [admitOffers, admitWaitingResponse_stays (.inl hresponse), admitWaitingEvent_stays (.inl hevent)]
  rw [judgeRest, arbiter_unclaimed v.env (by rw [houtput]; exact fun _ => nofun) hclaims hpunt, hoffers x rfl rfl,
    hoffers _ (by simp) (by simp)]

theorem judgeRest_still (hpunt : x.events.punt = .idle) : judgeRest v.env x = x := by
  rw [judgeRest_punts houtput hsender (by rw [hpunt]; nofun), admitWaitingPunt_stays (.inl hpunt),
    admitWaitingPunt_stays (.inl hpunt)]

end

theorem setSender_mgmtOut (x : Commons) (a : Sender) (q : Port) : (x.setSender a).mgmtOut q = x.mgmtOut q := by
  cases q <;> rfl

/-! ### Sends and resends (R131, R140, R172, R176) -/

section
variable {v : State} {x : Commons} {l : Listener}

/-- A claim of the sender touches the queue of the listener's port alone. -/
theorem claimEvent_mgmtOut_ne (e : Env) (hlistener : x.events.listener = some l) {q : Port} (hq : q ≠ l.port) :
    (claimEvent e x).mgmtOut q = x.mgmtOut q := by
  have hsame : ∀ (y : Commons) (a : Sender) (n : Nat),
      (y.setSender a).mgmtOut q = y.mgmtOut q ∧ (y.giveReserve n).mgmtOut q = y.mgmtOut q ∧
        (y.takeReserve n).mgmtOut q = y.mgmtOut q := fun y a n => by cases q <;> exact ⟨rfl, rfl, rfl⟩
  have hoffer : ∀ (w : Awaiting) (b : Built) (y : Commons), b.port = l.port →
      (offerEvent e w b y).mgmtOut q = y.mgmtOut q := fun w b y hb => by
    unfold offerEvent
    split
    · split
      · rw [admitEvent_eq, hb]
        cases q <;> cases hp : l.port <;> simp_all [mgmtOut]
      · exact (hsame y _ 0).1
    · rw [(hsame _ _ 0).1, (hsame _ .idle _).2.1]
  unfold claimEvent
  split
  · rfl
  · unfold grantEvent
    rw [hlistener]
    split
    next hl _ =>
      cases hl
      split
      · dsimp only
        split
        · rw [hoffer _ _ _ rfl, (hsame x .idle _).2.2]
        · rfl
      · rfl
    · rfl

theorem claimEvent_setSender_ne (e : Env) (a : Sender) (hlistener : x.events.listener = some l) {q : Port}
    (hq : q ≠ l.port) : (claimEvent e (x.setSender a)).mgmtOut q = x.mgmtOut q := by
  rw [← x.setSender_mgmtOut a q]
  exact claimEvent_mgmtOut_ne (x := x.setSender a) e hlistener hq

theorem trySend_mgmtOut_ne (e : Env) (hlistener : x.events.listener = some l) {q : Port} (hq : q ≠ l.port) :
    (trySend e x).mgmtOut q = x.mgmtOut q := by
  unfold trySend
  split
  · split
    · exact claimEvent_setSender_ne e _ hlistener hq
    · rfl
  · rfl

theorem withdrawEvent_mgmtOut (x : Commons) (q : Port) : x.withdrawEvent.mgmtOut q = x.mgmtOut q := by
  cases q <;> simp [mgmtOut]

theorem withdrawPunt_mgmtOut (x : Commons) (q : Port) : x.withdrawPunt.mgmtOut q = x.mgmtOut q := by
  cases q <;> simp [mgmtOut]

theorem resend_mgmtOut_ne (hlistener : x.events.listener = some l) {q : Port} (hq : q ≠ l.port) (e : Env)
    (retry : Nat) : (resend e retry x).mgmtOut q = x.mgmtOut q := by
  have hlistener' : x.withdrawEvent.events.listener = some l := by simpa using hlistener
  unfold resend
  dsimp only
  split
  · split
    · exact (claimEvent_setSender_ne e _ hlistener' hq).trans (x.withdrawEvent_mgmtOut q)
    · exact (x.withdrawEvent.setSender_mgmtOut _ q).trans (x.withdrawEvent_mgmtOut q)
  · exact x.withdrawEvent_mgmtOut q

/-- A head that is sent again to a listener whose port is not UP waits with no report in flight. -/
theorem resend_held {w : Awaiting} (retry : Nat) (hsender : x.events.sender = .awaiting w)
    (hlistener : x.events.listener = some l) (hdown : (v.port l.port).oper ≠ .up) : resend v.env retry x =
      x.withdrawEvent.setSender
        (.awaiting { retry := retry, captured := w.captured, timer := false, flight := .none }) := by
  have hkept : x.withdrawEvent.events.sender.head = some (w.retry, w.captured) := by
    rw [withdrawEvent_head, hsender]
    rfl
  obtain ⟨u, hu, -, hcaptured⟩ := Sender.awaiting_of_head hkept
  have hlistener' : x.withdrawEvent.events.listener = some l := by simpa using hlistener
  have hdown' : ¬v.env.up l.port = true := by simp [env_up, hdown]
  simp only [resend, hu, hlistener', if_neg hdown', hcaptured]

/-- Without a record to send no send begins (R172). -/
theorem trySend_empty (e : Env) (h : x.events.queue = []) : trySend e x = x := by
  unfold trySend
  split
  · rw [h]
    simp
  · rfl

/-- An idle sender sends the head to a listener whose queue has room while no response waits and a cell is free. -/
theorem trySend_joins {r : EventRecord} {rest : List EventRecord} (hsender : x.events.sender = .idle)
    (hlistener : x.events.listener = some l) (hup : (v.port l.port).oper = .up) (hqueue : x.events.queue = r :: rest)
    (houtput : x.output = .idle) (hroom : (x.mgmtOut l.port).length < 4) (hcell : 1 ≤ x.pool.freeReserve) :
    (trySend v.env x).events.sender =
        .awaiting { retry := 0, captured := x.events.lost, timer := true, flight := .queued } ∧
      (trySend v.env x).mgmtOut l.port =
        x.mgmtOut l.port ++ [eventReport l v.endpoint.nodeAddress r x.events.lost] := by
  have hbegins := trySend_begins v x l r rest hsender hlistener hup hqueue
  have hroom' : x.hasRoom l.port = true := (hasRoom_iff _ _).mpr hroom
  simp only [responseClaimWaits_of_idle houtput, responseOfferWaits_of_idle houtput, hroom', Bool.false_eq_true,
    false_or, if_neg (by omega : ¬x.pool.freeReserve = 0), and_self, if_true] at hbegins
  rw [hbegins]
  refine ⟨rfl, ?_⟩
  rw [admitEvent_mgmtOut (p := l.port) _ _ _ rfl]
  cases l.port <;> rfl

end

/-! ### SET_LISTENER with a node (R176, R179) -/

/-- The shared blocks once the listener is replaced, before the sender turns to it. -/
def replaced (l : Listener) (x : Commons) : Commons :=
  { x.withdrawEvent.withdrawPunt with events := { x.withdrawEvent.withdrawPunt.events with listener := some l } }

section
variable (l : Listener) (x : Commons)

/-- Taking a new listener withdraws what waits, and leaves queues, frames and lost count. -/
theorem replaced_frame : (replaced l x).events.queue = x.events.queue ∧
    (replaced l x).events.lost = x.events.lost ∧ (replaced l x).events.nextSeq = x.events.nextSeq ∧
    (replaced l x).events.puntQueue = x.events.puntQueue ∧ (replaced l x).events.punt = .idle ∧
    (replaced l x).frames = x.frames ∧ (replaced l x).output = x.output ∧
    (∀ q, (replaced l x).mgmtOut q = x.mgmtOut q) ∧
    x.pool.freeReserve ≤ (replaced l x).pool.freeReserve ∧
    (replaced l x).events.sender.head = x.events.sender.head := by
  refine ⟨by simp [replaced], by simp [replaced], by simp [replaced], by simp [replaced],
    x.withdrawEvent.withdrawPunt_idle, by simp [replaced], by simp [replaced], fun q => ?_,
    x.withdrawEvent_reserve_le.trans x.withdrawEvent.withdrawPunt_reserve_le, ?_⟩
  · rw [← x.withdrawEvent_mgmtOut q, ← x.withdrawEvent.withdrawPunt_mgmtOut q]
    cases q <;> rfl
  · rw [← x.withdrawEvent_head]
    simp [replaced]

theorem replaced_rests : (replaced l x).events.sender.Rests := by
  simpa [replaced] using x.withdrawEvent_rests

theorem replaceListener_eq (v : State) (h : x.output = .idle) :
    replaceListener v.env l x = sendToNew v.env (replaced l x) := by
  obtain ⟨-, -, -, -, hpunt, -, houtput, -⟩ := replaced_frame l x
  exact congrArg (sendToNew v.env) (judgeRest_still (houtput.trans h) (replaced_rests l x) hpunt)

end

theorem sendToNew_frame (e : Env) (x : Commons) : (sendToNew e x).events.queue = x.events.queue ∧
    (sendToNew e x).events.lost = x.events.lost ∧ (sendToNew e x).events.nextSeq = x.events.nextSeq ∧
    (sendToNew e x).events.puntQueue = x.events.puntQueue ∧ (sendToNew e x).events.punt = x.events.punt ∧
    (sendToNew e x).frames = x.frames ∧ (sendToNew e x).events.listener = x.events.listener := by
  unfold sendToNew
  split <;> simp

theorem sendToNew_mgmtOut_ne (e : Env) {x : Commons} {l : Listener} (hlistener : x.events.listener = some l) {q : Port}
    (hq : q ≠ l.port) : (sendToNew e x).mgmtOut q = x.mgmtOut q := by
  unfold sendToNew
  split
  · exact resend_mgmtOut_ne hlistener hq e 0
  · exact trySend_mgmtOut_ne e hlistener hq

theorem sendToNew_awaiting (e : Env) {x : Commons} {w : Awaiting} (h : x.events.sender = .awaiting w) :
    sendToNew e x = resend e 0 x := by
  simp only [sendToNew, h]

theorem sendToNew_idle (e : Env) {x : Commons} (h : x.events.sender = .idle) : sendToNew e x = trySend e x := by
  simp only [sendToNew, h]

section
variable {v : State} {x : Commons} {l : Listener} (hlistener : x.events.listener = some l)

include hlistener

/-- A head that waits for its acknowledgement is sent to the new listener from retry count 0. -/
theorem sendToNew_retries {w : Awaiting} (hsender : x.events.sender.head = some (w.retry, w.captured)) :
    ∃ y : Awaiting, (sendToNew v.env x).events.sender = .awaiting y ∧ y.retry = 0 ∧ y.captured = w.captured := by
  obtain ⟨u, hu, -, hcaptured⟩ := Sender.awaiting_of_head hsender
  rw [sendToNew_awaiting v.env hu]
  by_cases hup : (v.port l.port).oper = .up
  · obtain ⟨y, hy, hretry, hcaptured'⟩ := Sender.awaiting_of_head (resend_head 0 hu hlistener hup)
    exact ⟨y, hy, hretry, hcaptured'.trans hcaptured⟩
  · rw [resend_held 0 hu hlistener hup]
    exact ⟨_, rfl, rfl, hcaptured⟩

/-- With the new port not UP no report joins its queue. -/
theorem sendToNew_down (hdown : (v.port l.port).oper ≠ .up) :
    (sendToNew v.env x).mgmtOut l.port = x.mgmtOut l.port ∧ (sendToNew v.env x).events.sender =
      match x.events.sender with
      | .awaiting w => .awaiting { retry := 0, captured := w.captured, timer := false, flight := .none }
      | .idle => .idle := by
  cases hsender : x.events.sender with
  | awaiting w =>
    rw [sendToNew_awaiting v.env hsender, resend_held 0 hsender hlistener hdown]
    exact ⟨(x.withdrawEvent.setSender_mgmtOut _ _).trans (x.withdrawEvent_mgmtOut _), rfl⟩
  | idle =>
    rw [sendToNew_idle v.env hsender, trySend_stays v x (.inr fun l' hl' => by
      rw [hlistener] at hl'
      cases hl'
      exact hdown)]
    exact ⟨rfl, hsender⟩

/-- With it UP, room in its queue and a free cell, the report of the head joins it. -/
theorem sendToNew_joins {r : EventRecord} {rest : List EventRecord} (hup : (v.port l.port).oper = .up)
    (hqueue : x.events.queue = r :: rest) (houtput : x.output = .idle) (hroom : (x.mgmtOut l.port).length < 4)
    (hcell : 1 ≤ x.pool.freeReserve) {captured : Word16}
    (hcaptured : captured = match x.events.sender with | .awaiting w => w.captured | .idle => x.events.lost) :
    (sendToNew v.env x).events.sender =
        .awaiting { retry := 0, captured := captured, timer := true, flight := .queued } ∧
      (sendToNew v.env x).mgmtOut l.port =
        x.mgmtOut l.port ++ [eventReport l v.endpoint.nodeAddress r captured] := by
  cases hsender : x.events.sender with
  | awaiting w =>
    rw [hsender] at hcaptured
    rw [sendToNew_awaiting v.env hsender, hcaptured]
    exact resend_joins 0 hsender hlistener hup hqueue (by rw [houtput]; exact fun _ => nofun)
      (by rw [houtput]; exact fun _ => nofun) hroom hcell
  | idle =>
    rw [hsender] at hcaptured
    rw [sendToNew_idle v.env hsender, hcaptured]
    exact trySend_joins hsender hlistener hup hqueue houtput hroom hcell

end

section
variable {v : State} {x : Commons} (l : Listener) (houtput : x.output = .idle)

include houtput

/-- A new listener leaves event queue, lost count, punt queue, frames and the queue of the other port. -/
theorem replaceListener_frame : let y := replaceListener v.env l x
    y.events.listener = some l ∧ y.events.queue = x.events.queue ∧ y.events.lost = x.events.lost ∧
      y.events.nextSeq = x.events.nextSeq ∧ y.events.puntQueue = x.events.puntQueue ∧ y.events.punt = .idle ∧
      y.frames = x.frames ∧ y.mgmtOut (otherPort l.port) = x.mgmtOut (otherPort l.port) := by
  obtain ⟨hqueue, hlost, hseq, hpunts, hpunt, hframes, -, hmgmt, -, -⟩ := replaced_frame l x
  obtain ⟨hqueue', hlost', hseq', hpunts', hpunt', hframes', hlistener⟩ := sendToNew_frame v.env (replaced l x)
  have hne : otherPort l.port ≠ l.port := by cases l.port <;> exact nofun
  rw [replaceListener_eq l x v houtput]
  exact ⟨hlistener, hqueue'.trans hqueue, hlost'.trans hlost, hseq'.trans hseq, hpunts'.trans hpunts,
    hpunt'.trans hpunt, hframes'.trans hframes, (sendToNew_mgmtOut_ne v.env rfl hne).trans (hmgmt _)⟩

theorem replaceListener_retries {w : Awaiting} (hsender : x.events.sender = .awaiting w) : ∃ y : Awaiting,
    (replaceListener v.env l x).events.sender = .awaiting y ∧ y.retry = 0 ∧ y.captured = w.captured := by
  obtain ⟨-, -, -, -, -, -, -, -, -, hhead⟩ := replaced_frame l x
  rw [replaceListener_eq l x v houtput]
  exact sendToNew_retries (l := l) rfl (hhead.trans (congrArg Sender.head hsender))

theorem replaceListener_down (hdown : (v.port l.port).oper ≠ .up) :
    (replaceListener v.env l x).mgmtOut l.port = x.mgmtOut l.port ∧ (replaceListener v.env l x).events.sender =
      match x.events.sender with
      | .awaiting w => .awaiting { retry := 0, captured := w.captured, timer := false, flight := .none }
      | .idle => .idle := by
  obtain ⟨-, -, -, -, -, -, -, hmgmt, -, hhead⟩ := replaced_frame l x
  obtain ⟨hqueue, hsender⟩ := sendToNew_down (x := replaced l x) rfl hdown
  rw [replaceListener_eq l x v houtput]
  exact ⟨hqueue.trans (hmgmt _), hsender.trans (Sender.match_captured
    (fun n => Sender.awaiting { retry := 0, captured := n, timer := false, flight := .none }) .idle hhead)⟩

theorem replaceListener_joins {r : EventRecord} {rest : List EventRecord} (hup : (v.port l.port).oper = .up)
    (hqueue : x.events.queue = r :: rest) (hroom : (x.mgmtOut l.port).length < 4) (hcell : 1 ≤ x.pool.freeReserve)
    {captured : Word16}
    (hcaptured : captured = match x.events.sender with | .awaiting w => w.captured | .idle => x.events.lost) :
    (replaceListener v.env l x).events.sender =
        .awaiting { retry := 0, captured := captured, timer := true, flight := .queued } ∧
      (replaceListener v.env l x).mgmtOut l.port =
        x.mgmtOut l.port ++ [eventReport l v.endpoint.nodeAddress r captured] := by
  obtain ⟨hqueue', hlost, -, -, -, -, hout, hmgmt, hreserve, hhead⟩ := replaced_frame l x
  rw [replaceListener_eq l x v houtput, ← hmgmt]
  refine sendToNew_joins rfl hup (hqueue'.trans hqueue) (hout.trans houtput) (by rwa [hmgmt])
    (hcell.trans hreserve) (hcaptured.trans ?_)
  rw [hlost]
  exact Sender.match_captured (fun n => n) _ hhead.symm

end

/-! ### ACK_EVENT (R170, R173) -/

/-- The shared blocks once the head is acknowledged, before what remains is looked at. -/
def headAcked (captured : Word16) (x : Commons) : Commons :=
  { x.withdrawEvent.dropHead with
    events := { x.withdrawEvent.dropHead.events with lost := subFloor x.withdrawEvent.dropHead.events.lost captured } }

section
variable (captured : Word16) (x : Commons)

theorem acknowledged_eq (e : Env) :
    acknowledged e captured x = trySend e (judgeRest e (headAcked captured x)) := rfl

theorem headAcked_frame : (headAcked captured x).events.queue = x.events.queue.tail ∧
    (headAcked captured x).events.lost = subFloor x.events.lost captured ∧
    (headAcked captured x).events.nextSeq = x.events.nextSeq ∧
    (headAcked captured x).events.listener = x.events.listener ∧
    (headAcked captured x).events.punt = x.events.punt ∧ (headAcked captured x).events.sender = .idle ∧
    (headAcked captured x).output = x.output ∧ (∀ q, (headAcked captured x).mgmtOut q = x.mgmtOut q) ∧
    x.pool.freeReserve ≤ (headAcked captured x).pool.freeReserve := by
  refine ⟨by simp [headAcked, dropHead], by simp [headAcked, dropHead], by simp [headAcked, dropHead],
    by simp [headAcked, dropHead], by simp [headAcked, dropHead], rfl, by simp [headAcked, dropHead], fun q => ?_,
    x.withdrawEvent_reserve_le⟩
  rw [← x.withdrawEvent_mgmtOut q]
  cases q <;> rfl

/-- After the head is gone the sender is idle, and a punt report may take the room that a queue has. -/
theorem judgeRest_headAcked (v : State) (houtput : x.output = .idle) (hpunt : x.events.punt ≠ .claiming) :
    let y := judgeRest v.env (headAcked captured x)
    y.events.queue = x.events.queue.tail ∧ y.events.lost = subFloor x.events.lost captured ∧
      y.events.nextSeq = x.events.nextSeq ∧ y.events.listener = x.events.listener ∧ y.events.sender = .idle ∧
      (x.events.punt = .idle → y = headAcked captured x) := by
  obtain ⟨hqueue, hlost, hseq, hlistener, hpunt', hsender, hout, -, -⟩ := headAcked_frame captured x
  have hrests : (headAcked captured x).events.sender.Rests := by rw [hsender]; exact Sender.idle_rests
  have hjudged := judgeRest_punts (v := v) (hout.trans houtput) hrests (by rwa [hpunt'])
  refine ⟨?_, ?_, ?_, ?_, ?_, fun hidle => judgeRest_still (hout.trans houtput) hrests (hpunt'.trans hidle)⟩ <;>
    rw [hjudged] <;> simp only [admitWaitingPunt_frame] <;> assumption

end

section
variable {v : State} {x : Commons} (captured : Word16) (houtput : x.output = .idle)

include houtput

theorem acknowledged_frame (hpunt : x.events.punt ≠ .claiming) :
    (acknowledged v.env captured x).events.queue = x.events.queue.tail ∧
      (acknowledged v.env captured x).events.listener = x.events.listener ∧
      (acknowledged v.env captured x).events.nextSeq = x.events.nextSeq ∧
      (acknowledged v.env captured x).events.lost = subFloor x.events.lost captured := by
  obtain ⟨hqueue, hlost, hseq, hlistener, -⟩ := judgeRest_headAcked captured x v houtput hpunt
  rw [acknowledged_eq]
  simp only [trySend_frame]
  exact ⟨hqueue, hlistener, hseq, hlost⟩

/-- No send follows where no record remains, or without a listener on an UP port. -/
theorem acknowledged_stops (hpunt : x.events.punt ≠ .claiming) (h : x.events.queue.tail = [] ∨
    ∀ l : Listener, x.events.listener = some l → (v.port l.port).oper ≠ .up) :
    (acknowledged v.env captured x).events.sender = .idle := by
  obtain ⟨hqueue, -, -, hlistener, hsender, -⟩ := judgeRest_headAcked captured x v houtput hpunt
  rw [acknowledged_eq]
  rcases h with hempty | hdown
  · rw [trySend_empty _ (hqueue.trans hempty)]
    exact hsender
  · rw [trySend_stays v _ (.inr (by rwa [hlistener]))]
    exact hsender

/-- The next record is sent where records remain, the listener's port is UP, and its queue and the pool have room. -/
theorem acknowledged_sends {l : Listener} {r : EventRecord} {rest : List EventRecord}
    (hlistener : x.events.listener = some l) (hqueue : x.events.queue.tail = r :: rest)
    (hup : (v.port l.port).oper = .up) (hpunt : x.events.punt = .idle) (hroom : (x.mgmtOut l.port).length < 4)
    (hcell : 1 ≤ x.pool.freeReserve) :
    (acknowledged v.env captured x).events.sender = .awaiting
        { retry := 0, captured := subFloor x.events.lost captured, timer := true, flight := .queued } ∧
      (acknowledged v.env captured x).mgmtOut l.port = x.mgmtOut l.port ++
        [eventReport l v.endpoint.nodeAddress r (subFloor x.events.lost captured)] := by
  obtain ⟨hqueue', hlost, -, hlistener', -, hsender, hout, hmgmt, hreserve⟩ := headAcked_frame captured x
  obtain ⟨-, -, -, -, -, hstill⟩ := judgeRest_headAcked captured x v houtput (by rw [hpunt]; nofun)
  rw [acknowledged_eq, hstill hpunt, ← hlost, ← hmgmt]
  exact trySend_joins hsender (hlistener'.trans hlistener) hup (hqueue'.trans hqueue) (hout.trans houtput)
    (by rwa [hmgmt]) (hcell.trans hreserve)

end

end Commons

end Sys2Proof.Machine

end

section
/-! PROOF. SET_LISTENER naming none: the sender stops, and the punt queue is flushed entry by entry (R176, R178). Then
what each command of the listener comes to. -/

set_option Elab.async false

namespace Sys2Proof.Machine

open Sys2Proof.Safety

namespace Commons

/-! ### A release while there is no listener (R132, R133, R172) -/

theorem accept_appends (e : Env) (k : EventKind) (x : Commons) :
    ∃ more, (accept e k x).events.queue = x.events.queue ++ more := by
  unfold accept
  split
  · exact ⟨_, rfl⟩
  · exact ⟨[], (List.append_nil _).symm⟩

theorem post_appends (e : Env) (k : EventKind) (x : Commons) :
    ∃ more, (post e k x).events.queue = x.events.queue ++ more := by
  simpa [post] using accept_appends e k x

theorem evalPool_appends (e : Env) (x : Commons) :
    ∃ more, (evalPool e x).events.queue = x.events.queue ++ more := by
  unfold evalPool
  split <;> split
  · exact post_appends e _ _
  · exact ⟨[], (List.append_nil _).symm⟩
  · exact post_appends e _ _
  · exact ⟨[], (List.append_nil _).symm⟩

theorem release_appends (e : Env) (id : Nat) (x : Commons) :
    ∃ more, (release e id x).events.queue = x.events.queue ++ more := by
  unfold release
  split
  · exact ⟨[], (List.append_nil _).symm⟩
  · exact evalPool_appends e _

/-- No send begins by the pool's event where there is no listener. -/
theorem release_sender (e : Env) (id : Nat) {x : Commons} (h : x.events.listener = none) :
    (release e id x).events.sender = x.events.sender := by
  unfold release
  split
  · rfl
  · exact evalPool_head e _ fun l hl => by
      rw [show x.events.listener = some l from hl] at h
      cases h

/-! ### The frames that an entry names (R132) -/

theorem frame?_of_mem {x : Commons} {f : RxFrame} (hnodup : (x.frames.map (·.id)).Nodup) (hf : f ∈ x.frames) :
    x.frame? f.id = some f := by
  unfold frame?
  generalize x.frames = frames at hnodup hf
  induction frames with
  | nil => cases hf
  | cons g rest ih =>
    obtain ⟨hfresh, hrest⟩ := List.nodup_cons.mp hnodup
    rcases List.mem_cons.mp hf with rfl | hmem
    · simp
    · have hg : g.id ≠ f.id := fun he => hfresh (List.mem_map.mpr ⟨f, hmem, he.symm⟩)
      rw [List.find?_cons_of_neg (by simpa using hg)]
      exact ih hrest hmem

/-- The frame of an entry is among the stored ones. -/
theorem Counted.frame? {x : Commons} {names : List Nat} (h : x.Counted names) {id : Nat} (hid : id ∈ names) :
    ∃ f ∈ x.frames, f.id = id ∧ x.frame? id = some f := by
  obtain ⟨f, hf, rfl⟩ := List.mem_map.mp (h.stored id (List.mem_append_left _ hid))
  exact ⟨f, hf, rfl, frame?_of_mem h.nodup hf⟩

/-- A release leaves the record of every frame that stays. -/
theorem dropHolder_record {x y : Commons} {id : Nat} {names : List Nat} (hx : x.Counted (id :: names))
    (hy : y.Counted names) (hframes : y.frames = (dropHolder id x.frames).1) {j : Nat} (hj : j ∈ names) :
    (y.frame? j).map (·.record) = (x.frame? j).map (·.record) := by
  obtain ⟨g, hg, rfl, hfound⟩ := hy.frame? hj
  rw [hframes] at hg
  rcases (mem_dropHolder hx.nodup).mp hg with ⟨hmem, -⟩ | ⟨f, hmem, -, -, rfl⟩
  · rw [hfound, frame?_of_mem hx.nodup hmem]
  · rw [hfound, frame?_of_mem (f := f) hx.nodup hmem]
    rfl

end Commons

/-! ### One entry flushed (R178) -/

/-- A frame that is not stored has no holder to drop. -/
theorem dropHolder_unstored {id : Nat} {frames : List RxFrame} (h : frames.find? (fun f => f.id == id) = none) :
    (Commons.dropHolder id frames).1 = frames := by
  induction frames with
  | nil => rfl
  | cons g rest ih =>
    rw [List.find?_cons] at h
    split at h
    · cases h
    next hg =>
      have hne : ¬g.id = id := by simpa using hg
      rw [Commons.dropHolder, if_neg hne, ih h]

/-- From `z` to `y` punt entries are flushed while there is no listener: their holders and the counts
PUNT_NO_LISTENER apart, only events of the pool join. -/
structure PuntFlush (z y : State) : Prop where
  listener : y.commons.events.listener = z.commons.events.listener
  sender : z.commons.events.listener = none → y.commons.events.sender = z.commons.events.sender
  puntQueue : y.commons.events.puntQueue = z.commons.events.puntQueue
  punt : y.commons.events.punt = z.commons.events.punt
  nextFrame : y.commons.nextFrame = z.commons.nextFrame
  queue : ∃ more, y.commons.events.queue = z.commons.events.queue ++ more
  outside : { y with commons := z.commons, portA := z.portA, portB := z.portB } = z
  counters : ∀ (p : Port) (k : PortCounter), k ≠ .puntNoListener → (y.port p).counter k = (z.port p).counter k

theorem PuntFlush.refl (z : State) : PuntFlush z z :=
  ⟨rfl, fun _ => rfl, rfl, rfl, rfl, ⟨[], (List.append_nil _).symm⟩, rfl, fun _ _ _ => rfl⟩

theorem PuntFlush.trans {z y x : State} (f : PuntFlush z y) (g : PuntFlush y x) : PuntFlush z x where
  listener := g.listener.trans f.listener
  sender h := (g.sender (f.listener.trans h)).trans (f.sender h)
  puntQueue := g.puntQueue.trans f.puntQueue
  punt := g.punt.trans f.punt
  nextFrame := g.nextFrame.trans f.nextFrame
  queue := by
    obtain ⟨more, hmore⟩ := f.queue
    obtain ⟨more', hmore'⟩ := g.queue
    exact ⟨more ++ more', by rw [hmore', hmore, List.append_assoc]⟩
  outside := by
    have hg := congrArg (fun s : State => { s with commons := z.commons, portA := z.portA, portB := z.portB }) g.outside
    exact hg.trans f.outside
  counters p k hk := (g.counters p k hk).trans (f.counters p k hk)

theorem State.flushPunt_flushes (z : State) (id : Nat) : PuntFlush z (z.flushPunt id) := by
  unfold State.flushPunt
  split
  next f hf =>
    have hcommons : ((z.count f.record.ingress .puntNoListener).release id).commons =
        Commons.release (z.count f.record.ingress .puntNoListener).env id z.commons := by
      rw [State.release, State.onCommons_commons, State.count, State.setPort_commons]
    refine ⟨by simp [hcommons], fun hnone => by rw [hcommons]; exact Commons.release_sender _ id hnone,
      by simp [hcommons], by simp [hcommons], by simp [hcommons],
      by rw [hcommons]; exact Commons.release_appends _ id _, ?_, fun p k hk => ?_⟩
    · cases f.record.ingress <;> rfl
    · rw [State.release, State.onCommons_port]
      exact z.count_counter_ne _ _ hk
  · exact .refl z

theorem State.flushPunt_frames (z : State) (id : Nat) :
    (z.flushPunt id).commons.frames = (Commons.dropHolder id z.commons.frames).1 := by
  unfold State.flushPunt
  split
  next f hf =>
    rw [State.release, State.onCommons_commons, State.count, State.setPort_commons]
    simp
  next hnone => exact (dropHolder_unstored hnone).symm

theorem State.flushPunts_flushes (l : List Nat) (z : State) : PuntFlush z (l.foldl State.flushPunt z) := by
  induction l generalizing z with
  | nil => exact .refl z
  | cons id l ih => exact (z.flushPunt_flushes id).trans (ih _)

theorem State.flushPunts_frames (l : List Nat) (z : State) : (l.foldl State.flushPunt z).commons.frames =
    l.foldl (fun frames id => (Commons.dropHolder id frames).1) z.commons.frames := by
  induction l generalizing z with
  | nil => rfl
  | cons id l ih => rw [List.foldl_cons, List.foldl_cons, ih, z.flushPunt_frames]

/-- Whether the frame of an entry came in at a port. -/
def Commons.enteredAt (x : Commons) (p : Port) (id : Nat) : Bool :=
  decide ((x.frame? id).map (·.record.ingress) = some p)

/-- Each entry counts PUNT_NO_LISTENER at its frame's ingress port. -/
theorem State.flushPunts_counter (p : Port) : ∀ (l names : List Nat) (z : State), z.commons.Counted (l ++ names) →
    ((l.foldl State.flushPunt z).port p).counter .puntNoListener =
      Nat.repeat satInc (l.filter (z.commons.enteredAt p)).length ((z.port p).counter .puntNoListener)
  | [], _, _, _ => rfl
  | id :: l, names, z, h => by
    obtain ⟨f, -, -, hfound⟩ := h.frame? List.mem_cons_self
    have hflushes := z.flushPunt_flushes id
    have hframes := z.flushPunt_frames id
    have hleft : (z.flushPunt id).commons.Counted (l ++ names) :=
      h.dropHolder hframes hflushes.nextFrame hflushes.puntQueue
    have hsame : ∀ j ∈ l, (z.flushPunt id).commons.enteredAt p j = z.commons.enteredAt p j := fun j hj => by
      have hrecord := Commons.dropHolder_record h hleft hframes (List.mem_append_left names hj)
      have hingress := congrArg (Option.map (·.ingress)) hrecord
      simp only [Option.map_map] at hingress
      exact congrArg (fun o : Option Port => decide (o = some p)) hingress
    have hcounts : ((z.flushPunt id).port p).counter .puntNoListener =
        if z.commons.enteredAt p id then satInc ((z.port p).counter .puntNoListener)
        else (z.port p).counter .puntNoListener := by
      have hentered : z.commons.enteredAt p id = decide (f.record.ingress = p) := by
        simp [Commons.enteredAt, hfound]
      simp only [State.flushPunt, hfound, State.release, State.onCommons_port, hentered, decide_eq_true_eq]
      split
      next hp => rw [← hp, State.count_counter]
      next hp => rw [State.count, State.port_ne z _ (Ne.symm hp)]
    rw [List.foldl_cons, State.flushPunts_counter p l names _ hleft, List.filter_congr hsame, hcounts,
      List.filter_cons]
    split
    · rw [List.length_cons, Nat.add_comm]
      exact repeat_satInc_add _ 1 _
    · rfl

/-! ### SET_LISTENER with none (R176, R178) -/

/-- The shared blocks without a listener, before the punt queue is flushed. -/
def Commons.unheard (x : Commons) : Commons :=
  { x.withdrawEvent.withdrawPunt with
    events := { x.withdrawEvent.withdrawPunt.events with listener := none, sender := .idle } }

theorem Commons.unheard_frame (x : Commons) : x.unheard.events.listener = none ∧ x.unheard.events.sender = .idle ∧
    x.unheard.events.punt = .idle ∧ x.unheard.events.queue = x.events.queue ∧
    x.unheard.events.puntQueue = x.events.puntQueue ∧ x.unheard.frames = x.frames ∧
    x.unheard.output = x.output := by
  refine ⟨rfl, rfl, x.withdrawEvent.withdrawPunt_idle, ?_, ?_, ?_, ?_⟩ <;> simp [unheard]

theorem Commons.clearListener_eq (v : State) {x : Commons} (h : x.output = .idle) :
    clearListener v.env x = x.unheard := by
  obtain ⟨-, -, hpunt, -, -, -, houtput⟩ := x.unheard_frame
  exact judgeRest_still (houtput.trans h) Sender.idle_rests hpunt

/-- The part without a listener and with its punt queue taken out. -/
def State.unheard (t : State) : State :=
  { t with commons := { t.commons.unheard with events := { t.commons.unheard.events with puntQueue := [] } } }

section
variable {t : State} (houtput : t.commons.output = .idle)

include houtput

theorem State.clearListener_eq :
    t.clearListener = t.commons.events.puntQueue.foldl State.flushPunt t.unheard := by
  have hcleared : (t.onCommons Commons.clearListener).commons = t.commons.unheard :=
    Commons.clearListener_eq t houtput
  obtain ⟨-, -, -, -, hpunts, -, -⟩ := t.commons.unheard_frame
  rw [State.clearListener]
  simp only [hcleared, hpunts]
  rfl

theorem State.clearListener_flushes : PuntFlush t.unheard t.clearListener := by
  rw [State.clearListener_eq houtput]
  exact State.flushPunts_flushes _ _

theorem State.clearListener_frames : t.clearListener.commons.frames = t.commons.events.puntQueue.foldl
    (fun frames id => (Commons.dropHolder id frames).1) t.commons.frames := by
  obtain ⟨-, -, -, -, -, hframes, -⟩ := t.commons.unheard_frame
  rw [State.clearListener_eq houtput, State.flushPunts_frames, ← hframes]
  rfl

theorem State.clearListener_unpunted (h : t.commons.events.puntQueue = []) : t.clearListener = t.unheard := by
  rw [State.clearListener_eq houtput, h, List.foldl_nil]

theorem State.clearListener_counter {names : List Nat} (h : t.commons.Counted names) (p : Port) :
    (t.clearListener.port p).counter .puntNoListener =
      Nat.repeat satInc (t.commons.events.puntQueue.filter (t.commons.enteredAt p)).length
        ((t.port p).counter .puntNoListener) := by
  obtain ⟨-, -, -, -, hpunts, hframes, -⟩ := t.commons.unheard_frame
  have hcleared : t.commons.unheard.Counted names := by
    rw [← Commons.clearListener_eq t houtput]
    exact (Commons.clearListener_flows t.env t.commons .empty).holders names h
  have hcounted : t.unheard.commons.Counted (t.commons.events.puntQueue ++ names) := by
    have hmoved := (Commons.emptyPunts_flows t.env t.commons.unheard .empty).holders names hcleared
    rwa [hpunts, Hand.addNames, Hand.empty, List.append_nil] at hmoved
  have hsame : t.unheard.commons.enteredAt p = t.commons.enteredAt p := funext fun id => by
    have hfound : t.unheard.commons.frame? id = t.commons.frame? id :=
      congrArg (List.find? fun f : RxFrame => f.id == id) hframes
    exact congrArg (fun o : Option RxFrame => decide (o.map (·.record.ingress) = some p)) hfound
  rw [State.clearListener_eq houtput, State.flushPunts_counter p _ names _ hcounted, hsame]
  cases p <;> rfl

end

/-! ### The runs of SET_LISTENER and ACK_EVENT (R152, R164, R173) -/

section
variable {c : Command} {t : State}

theorem runSetListener_short (h : c.params.length < 3) : runSetListener c t = (t, refuse .badLength) := by
  rw [runSetListener, needs, if_pos h]

theorem runSetListener_badPort (hlen : 3 ≤ c.params.length) (h : 3 ≤ (byteAt c.params 2).toNat) :
    runSetListener c t = (t, refuse .badValue) := by
  have hnone : portOfCode (c.param8 2) = none := by
    refine portOfCode_eq_none (fun he => ?_) fun he => ?_
    all_goals
      rw [show byteAt c.params 2 = _ from he] at h
      exact absurd h (by decide)
  rw [runSetListener, needs, if_neg (by omega)]
  simp only [hnone]

section
variable {p : Port} (hlen : 3 ≤ c.params.length) (hport : byteAt c.params 2 = if p = .a then 1#8 else 2#8)

include hlen hport

/-- With the code of a port the node alone is judged. -/
theorem runSetListener_port : runSetListener c t =
    if 0x0001 ≤ (u16At c.params 0).toNat ∧ (u16At c.params 0).toNat ≤ 0xFFFD then
      (t.onCommons fun e => Commons.replaceListener e { node := u16At c.params 0, port := p }, reply .ok [])
    else (t, refuse .badValue) := by
  have hsome : portOfCode (c.param8 2) = some p := by
    rw [Command.param8, hport]
    cases p <;> rfl
  rw [runSetListener, needs, if_neg (by omega)]
  simp only [hsome]
  rfl

theorem runSetListener_takes (hlow : 1 ≤ (u16At c.params 0).toNat) (hhigh : (u16At c.params 0).toNat ≤ 0xFFFD) :
    runSetListener c t =
      (t.onCommons fun e => Commons.replaceListener e { node := u16At c.params 0, port := p }, reply .ok []) := by
  rw [runSetListener_port hlen hport, if_pos ⟨hlow, hhigh⟩]

theorem runSetListener_badNode (h : u16At c.params 0 = 0#16 ∨ 0xFFFE ≤ (u16At c.params 0).toNat) :
    runSetListener c t = (t, refuse .badValue) := by
  have hout : ¬(0x0001 ≤ (u16At c.params 0).toNat ∧ (u16At c.params 0).toNat ≤ 0xFFFD) := by
    rintro ⟨hlow, hhigh⟩
    rcases h with hzero | hbig
    · rw [hzero] at hlow
      exact absurd hlow (by decide)
    · omega
  rw [runSetListener_port hlen hport, if_neg hout]

end

theorem runAckEvent_short (h : c.params.length < 2) : runAckEvent c t = (t, refuse .badLength) := by
  rw [runAckEvent, needs, if_pos h]

section
variable (hlen : 2 ≤ c.params.length)

include hlen

theorem runAckEvent_idle (h : t.commons.events.sender = .idle) : runAckEvent c t = (t, refuse .badValue) := by
  rw [runAckEvent, needs, if_neg (by omega)]
  simp only [Commons.ackEvent, h]

variable {w : Awaiting} {r : EventRecord} {rest : List EventRecord} (hsender : t.commons.events.sender = .awaiting w)
  (hqueue : t.commons.events.queue = r :: rest)

include hsender hqueue

theorem runAckEvent_other (h : r.seq ≠ u16At c.params 0) : runAckEvent c t = (t, refuse .badValue) := by
  rw [runAckEvent, needs, if_neg (by omega)]
  simp only [Commons.ackEvent, hsender, hqueue, if_neg h]

theorem runAckEvent_head (h : r.seq = u16At c.params 0) :
    runAckEvent c t = (t.onCommons fun e => Commons.acknowledged e w.captured, reply .ok []) := by
  rw [runAckEvent, needs, if_neg (by omega)]
  simp only [Commons.ackEvent, hsender, hqueue, if_pos h]
  rfl

end

end

/-! ### The rows -/

section
variable {s : State} {f : RxFrame} (hf : Takes s f) (hfresh : Fresh s (readCommand f))

include hf hfresh

/-- The row of SET_LISTENER with a node takes every SET_LISTENER but one that names none. -/
theorem State.exec_setListener (howner : s.isOwner (readCommand f) = true) (hcode : (readCommand f).code = 13#8)
    (hnamed : 3 ≤ (readCommand f).params.length → byteAt (readCommand f).params 2 ≠ 0#8) {t : State} {r : Reply}
    (hrun : runSetListener (readCommand f) s.takeHead = (t, r)) :
    exec .setListener s = .next (answered s t (readCommand f) r) := by
  have htakes : (hasCode 13#8 (readCommand f) && !namesNone (readCommand f)) = true := by
    have hnot : namesNone (readCommand f) = false := by
      rw [namesNone, Bool.and_assoc, Bool.and_eq_false_iff]
      refine .inr (Bool.and_eq_false_iff.mpr ?_)
      by_cases hlen : 3 ≤ (readCommand f).params.length
      · exact .inr (beq_eq_false_iff_ne.mpr (hnamed hlen))
      · exact .inl (decide_eq_false hlen)
    rw [hasCode_of_eq hcode, hnot]
    rfl
  exact State.next_of_owner hf hfresh htakes hrun howner

theorem State.exec_setListenerNone (howner : s.isOwner (readCommand f) = true) (hcode : (readCommand f).code = 13#8)
    (hlen : 3 ≤ (readCommand f).params.length) (hnone : byteAt (readCommand f).params 2 = 0#8) :
    exec .setListenerNone s = .next (answered s s.takeHead.clearListener (readCommand f) (reply .ok [])) := by
  have htakes : namesNone (readCommand f) = true := by
    simp [namesNone, hcode, hlen, Command.param8, hnone]
  exact State.next_of_owner (run := fun _ t => (t.clearListener, reply .ok [])) hf hfresh htakes rfl howner

section
variable (hcode : (readCommand f).code = 14#8)

include hcode

/-- An ACK_EVENT of the listener is judged by the event unit (R164). -/
theorem State.exec_ackEvent (hlistens : s.isListener (readCommand f) = true) {t : State} {r : Reply}
    (hrun : runAckEvent (readCommand f) s.takeHead = (t, r)) :
    exec .ackEvent s = .next (answered s t (readCommand f) r) := by
  have hpermitted : s.permissionFails .listener (readCommand f) = none := if_pos hlistens
  have hrow := State.takeCommand_permitted (perm := always .listener) runAckEvent hf hfresh (hasCode_of_eq hcode)
    hpermitted
  rw [hrun] at hrow
  exact congrArg Host.Outcome.next hrow

theorem State.exec_ackEvent_other (hlistens : s.isListener (readCommand f) = false) :
    exec .ackEvent s = .next (answered s s.takeHead (readCommand f) (refuse .notOwner)) := by
  have hfresh' : Fresh s.takeHead (readCommand f) := by simpa [Fresh] using hfresh
  have hfails : s.takeHead.permissionFails .listener (readCommand f) = some .notOwner := by
    rw [State.takeHead_permissionFails]
    exact if_neg (by simp [hlistens])
  have hrow := State.takeCommand_judge (hasCode 14#8) (always .listener) runAckEvent hf (hasCode_of_eq hcode)
  rw [State.judge_refused (always .listener) runAckEvent hfresh' hfails] at hrow
  refine (congrArg Host.Outcome.next hrow).trans ?_
  simp [answered]

end

end

end Sys2Proof.Machine

namespace Sys2Proof.Settled

open Sys2Proof.Machine Sys2Proof.Safety

/-- Settles O60: SET_LISTENER by the blocks that it replaces before the sender turns to the new listener, or by the
flush of the punt queue entry by entry; ACK_EVENT by the head that it removes before the next send begins. -/
theorem listenerCommands : Obligations.ListenerCommands := by
  intro s f hf c t ok hfresh
  have houtput : t.commons.output = .idle := s.takeHead_commons.1.trans (State.headFrame_idle hf.1)
  have hport : ∀ p, t.port p = s.port p := s.takeHead_port
  have haddress : t.endpoint.nodeAddress = s.endpoint.nodeAddress := by rw [s.takeHead_endpoint]
  refine ⟨fun howns hcode hlen => ?_, fun howns hcode hlen => ?_, fun hcode hlen => ?_,
    fun hcode hlen => ⟨fun hother => ?_, fun hlistens hidle => ?_, fun w r rest hlistens hsender hqueue =>
      ⟨fun hseq => ?_, fun hseq hpunt => ?_⟩⟩⟩
  · intro node
    refine ⟨fun p hcodes => ?_, fun hbad => ?_, fun hnone => ?_⟩
    · have hnamed : 3 ≤ c.params.length → byteAt c.params 2 ≠ 0#8 := fun _ => by
        rw [hcodes]
        cases p <;> decide
      refine ⟨fun hlow hhigh => ?_, fun hbad =>
        State.exec_setListener hf hfresh howns hcode hnamed (runSetListener_badNode hlen hcodes hbad)⟩
      obtain ⟨hlistener, hqueue, hlost, hseq, hpunts, hpunt, hframes, hother⟩ :=
        Commons.replaceListener_frame (v := t) { node := node, port := p } houtput
      exact ⟨_, State.exec_setListener hf hfresh howns hcode hnamed (runSetListener_takes hlen hcodes hlow hhigh), rfl,
        hlistener, hqueue, hlost, hseq, hpunts, hpunt, hframes, hother,
        fun w hsender => Commons.replaceListener_retries _ houtput hsender,
        fun hup hroom hcell r rest hhead => by
          rw [← haddress]
          exact Commons.replaceListener_joins { node := node, port := p } houtput ((congrArg _ (hport p)).trans hup)
            hhead hroom hcell rfl,
        fun hdown => Commons.replaceListener_down { node := node, port := p } houtput (by rwa [hport])⟩
    · refine State.exec_setListener hf hfresh howns hcode (fun _ he => ?_) (runSetListener_badPort hlen hbad)
      rw [he] at hbad
      exact absurd hbad (by decide)
    · have hflushes := State.clearListener_flushes houtput
      obtain ⟨hlistener, hsender, hpunt, hqueue, -, hframes, -⟩ := t.commons.unheard_frame
      obtain ⟨more, hmore⟩ := hflushes.queue
      refine ⟨t.clearListener, more, State.exec_setListenerNone hf hfresh howns hcode hlen hnone,
        hflushes.listener.trans hlistener, (hflushes.sender hlistener).trans hsender, hflushes.puntQueue,
        hflushes.punt.trans hpunt, hmore.trans (congrArg (· ++ more) hqueue),
        congrArg (fun z : State => { z with commons := t.commons }) hflushes.outside, fun p k hk => ?_,
        State.clearListener_frames houtput, fun hcounted p => ?_, fun hempty => ?_⟩
      · exact (hflushes.counters p k hk).trans (by cases p <;> rfl)
      · exact State.clearListener_counter houtput
          ((State.takeHead_keeps .empty s).holders ((holdersCounted_iff s).mp hcounted)) p
      · rw [State.clearListener_unpunted houtput hempty]
        exact ⟨rfl, rfl, hframes⟩
  · exact State.exec_setListener hf hfresh howns hcode (fun h => absurd h (Nat.not_le.mpr hlen))
      (runSetListener_short hlen)
  · cases hlistens : s.isListener c with
    | true => exact State.exec_ackEvent hf hfresh hcode hlistens (runAckEvent_short hlen)
    | false => exact State.exec_ackEvent_other hf hfresh hcode hlistens
  · exact State.exec_ackEvent_other hf hfresh hcode hother
  · exact State.exec_ackEvent hf hfresh hcode hlistens (runAckEvent_idle hlen hidle)
  · exact State.exec_ackEvent hf hfresh hcode hlistens (runAckEvent_other hlen hsender hqueue hseq)
  · obtain ⟨hrest, hlistener, hnext, hlost⟩ := Commons.acknowledged_frame (v := t) w.captured houtput hpunt
    have htail : t.commons.events.queue.tail = rest := congrArg List.tail hqueue
    refine ⟨_, State.exec_ackEvent hf hfresh hcode hlistens (runAckEvent_head hlen hsender hqueue hseq), rfl,
      hrest.trans htail, hlistener, hnext, hlost, fun hstops => ?_, fun l r2 more hl hmore hup hidle hroom hcell => ?_⟩
    · refine Commons.acknowledged_stops (v := t) w.captured houtput hpunt ?_
      rw [htail]
      simpa only [hport] using hstops
    · have hsends := Commons.acknowledged_sends (v := t) w.captured houtput hl (htail.trans hmore) (by rwa [hport])
        hidle hroom hcell
      rwa [← hlost, haddress] at hsends

end Sys2Proof.Settled
end

section
/-! PROOF. The numbers of the event unit: records follow one another in the event queue, and the captured lost value
stays within the lost count, whatever the shared operations do (R169, R170, R174), in the order of their layers. -/

set_option Elab.async false

namespace Sys2Proof.Machine

open Sys2Proof.Safety

/-- The captured value of a sender that awaits its acknowledgement (R170). -/
def Sender.captured (a : Sender) : Option Word16 := a.head.map Prod.snd

theorem Sender.captured_of_head {a b : Sender} (h : a.head = b.head) : a.captured = b.captured := by
  rw [captured, captured, h]

/-- A saturating count never falls. -/
theorem le_satInc {n : Nat} (c : BitVec n) : c ≤ satInc c := by
  unfold satInc
  split
  · exact BitVec.le_refl c
  next hc =>
    have hlt := (BitVec.lt_allOnes_iff).mpr hc
    rw [BitVec.le_def, BitVec.toNat_add]
    rw [BitVec.lt_def, BitVec.toNat_allOnes] at hlt
    have hone : (1#n).toNat ≤ 1 := by
      rw [BitVec.toNat_ofNat]
      exact Nat.mod_le 1 _
    rw [Nat.mod_eq_of_lt (by omega)]
    omega

namespace Commons

/-! ### Sequence numbers (R169) -/

theorem seqAfter_ne_zero (n : Word16) : seqAfter n ≠ 0#16 := by
  unfold seqAfter
  split
  · decide
  next h => bv_omega

/-- The head of a chain may leave it. -/
theorem seqChain_tail {next : Word16} {queue : List EventRecord} (h : seqChain next queue = true) :
    seqChain next queue.tail = true := by
  match queue with
  | [] => rfl
  | [_] => rfl
  | r :: t :: rest =>
    simp only [seqChain, Bool.and_eq_true] at h
    exact h.2

/-- A record that takes the next number joins the chain. -/
theorem seqChain_append {next : Word16} {queue : List EventRecord} (h : seqChain next queue = true)
    (hnext : next ≠ 0#16) {r : EventRecord} (hr : r.seq = next) :
    seqChain (seqAfter next) (queue ++ [r]) = true := by
  induction queue with
  | nil => simp [seqChain, hr, hnext]
  | cons q rest ih =>
    cases rest with
    | nil =>
      simp only [seqChain, Bool.and_eq_true, decide_eq_true_eq] at h
      obtain ⟨hafter, hzero⟩ := h
      simp [seqChain, hafter, hzero, hr, hnext]
    | cons t rest =>
      simp only [seqChain, Bool.and_eq_true] at h
      obtain ⟨hfirst, hrest⟩ := h
      simp only [List.cons_append, seqChain, Bool.and_eq_true]
      exact ⟨hfirst, ih hrest⟩

/-! ### What every shared operation keeps -/

/-- The event queue's numbers follow one another up to the next one, which is not 0, and a captured lost value is at
most the lost count. -/
structure Ordered (x : Commons) : Prop where
  chain : seqChain x.events.nextSeq x.events.queue = true
  next : x.events.nextSeq ≠ 0#16
  captured : ∀ c, x.events.sender.captured = some c → c ≤ x.events.lost

theorem capturedFits_iff (u : EventUnit) :
    capturedFits u = true ↔ ∀ c, u.sender.captured = some c → c ≤ u.lost := by
  unfold capturedFits
  cases h : u.sender with
  | idle => simp [Sender.captured, Sender.head]
  | awaiting w => simp [Sender.captured, Sender.head]

theorem eventsOrdered_iff (s : State) : EventsOrdered s ↔ s.commons.Ordered := by
  rw [EventsOrdered, capturedFits_iff]
  exact ⟨fun ⟨hchain, hnext, hcaptured⟩ => ⟨hchain, hnext, hcaptured⟩,
    fun h => ⟨h.chain, h.next, h.captured⟩⟩

section
variable {x y : Commons}

/-- Whether the numbers are in order depends on the queue, the next number, the lost count and the captured value. -/
theorem Ordered.of_eq (hx : x.Ordered) (hqueue : y.events.queue = x.events.queue)
    (hnext : y.events.nextSeq = x.events.nextSeq) (hlost : y.events.lost = x.events.lost)
    (hcaptured : y.events.sender.captured = x.events.sender.captured) : y.Ordered :=
  ⟨by rw [hqueue, hnext]; exact hx.chain, by rw [hnext]; exact hx.next,
    by rw [hlost, hcaptured]; exact hx.captured⟩

theorem Ordered.of_events (hx : x.Ordered) (h : y.events = x.events) : y.Ordered :=
  hx.of_eq (by rw [h]) (by rw [h]) (by rw [h]) (by rw [h])

/-- A sender that is IDLE has captured nothing. -/
theorem Ordered.of_idle (hchain : seqChain y.events.nextSeq y.events.queue = true) (hnext : y.events.nextSeq ≠ 0#16)
    (hidle : y.events.sender = .idle) : y.Ordered :=
  ⟨hchain, hnext, by rw [hidle]; nofun⟩

/-- A sender may take over a captured value that is at most the lost count. -/
theorem Ordered.setSender (hx : x.Ordered) {a : Sender} (ha : ∀ c, a.captured = some c → c ≤ x.events.lost) :
    (x.setSender a).Ordered :=
  ⟨hx.chain, hx.next, ha⟩

end

/-! ### Grants, sends and posts (R131, R169, R172) -/

section
variable (e : Env) {x : Commons} (hx : x.Ordered)

include hx

theorem grantResponse_ordered : (grantResponse e x).Ordered := hx.of_events (by simp)

theorem grantEvent_ordered : (grantEvent e x).Ordered :=
  hx.of_eq (by simp) (by simp) (by simp) (Sender.captured_of_head (grantEvent_head e x))

theorem claimEvent_ordered : (claimEvent e x).Ordered :=
  hx.of_eq (by simp) (by simp) (by simp) (Sender.captured_of_head (claimEvent_head e x))

/-- A send captures the lost count as it stands (R170, R172). -/
theorem trySend_ordered : (trySend e x).Ordered := by
  unfold trySend
  split
  · split
    · refine claimEvent_ordered e (hx.setSender fun c hc => ?_)
      obtain rfl : x.events.lost = c := Option.some.inj hc
      exact BitVec.le_refl _
    · exact hx
  · exact hx

theorem loseEvent_ordered : x.loseEvent.Ordered :=
  ⟨hx.chain, hx.next, fun c hc => BitVec.le_trans (hx.captured c hc) (le_satInc _)⟩

/-- An accepted record takes the next number; at 16 records the lost count rises (R169). -/
theorem accept_ordered (k : EventKind) : (accept e k x).Ordered := by
  unfold accept
  split
  · exact ⟨seqChain_append hx.chain hx.next rfl, seqAfter_ne_zero _, hx.captured⟩
  · exact loseEvent_ordered hx

theorem acceptAll_ordered (ks : List EventKind) : (ks.foldl (fun y k => accept e k y) x).Ordered := by
  induction ks generalizing x with
  | nil => exact hx
  | cons k ks ih => exact ih (accept_ordered e hx k)

theorem post_ordered (k : EventKind) : (post e k x).Ordered := trySend_ordered e (accept_ordered e hx k)

/-! ### The pool and the holders (R132, R133) -/

theorem evalPool_ordered : (evalPool e x).Ordered := by
  unfold evalPool
  have hmarked : ∀ low, Ordered { x with pool := { x.pool with low := low } } := fun low => hx.of_events rfl
  split <;> split
  · exact post_ordered e (hmarked false) _
  · exact hx
  · exact post_ordered e (hmarked true) _
  · exact hx

theorem giveGeneral_ordered (cells : List GeneralCell) : (giveGeneral e cells x).Ordered :=
  evalPool_ordered e (hx.of_events rfl)

theorem takeGeneral_ordered : (takeGeneral e x).Ordered := evalPool_ordered e (hx.of_events rfl)

theorem release_ordered (id : Nat) : (release e id x).Ordered := by
  have hdropped : Ordered { x with frames := (dropHolder id x.frames).1 } := hx.of_events rfl
  unfold release
  split
  · exact hdropped
  · exact giveGeneral_ordered e hdropped _

/-! ### The punt side, the arbiter and waiting offers (R131, R140, R179) -/

theorem offerPunt_ordered (b : Built) : (offerPunt e b x).Ordered :=
  hx.of_eq (by simp) (by simp) (by simp) (by simp)

theorem grantPunt_ordered : (grantPunt e x).Ordered := by
  unfold grantPunt
  split
  · split
    · dsimp only
      split
      · refine offerPunt_ordered e (release_ordered e ?_ _) _
        exact hx.of_eq rfl rfl rfl rfl
      · exact hx
    · exact hx
  · exact hx

theorem claimPunt_ordered : (claimPunt e x).Ordered := by
  unfold claimPunt
  split
  · exact hx
  · exact grantPunt_ordered e hx

theorem arbiter_ordered : (arbiter e x).Ordered := by
  have hresponse := grantResponse_ordered e hx
  have hevent := grantEvent_ordered e hresponse
  rw [arbiter_eq]
  split
  · exact hresponse
  · split
    · exact hevent
    · exact grantPunt_ordered e hevent

theorem admitWaitingEvent_ordered (p : Port) : (admitWaitingEvent e p x).Ordered := by
  unfold admitWaitingEvent
  split
  next w hw =>
    split
    · split
      · refine hx.of_eq (by simp) (by simp) (by simp) ?_
        rw [hw]
        rfl
      · exact hx
    · exact hx
  · exact hx

theorem admitOffers_ordered (p : Port) : (admitOffers e p x).Ordered := by
  have hresponse : (admitWaitingResponse e p x).Ordered := hx.of_events (by simp)
  have hevent := admitWaitingEvent_ordered e hresponse p
  exact hevent.of_eq (by simp [admitOffers]) (by simp [admitOffers]) (by simp [admitOffers]) (by simp [admitOffers])

theorem judgeRest_ordered : (judgeRest e x).Ordered :=
  admitOffers_ordered e (admitOffers_ordered e (arbiter_ordered e hx) .a) .b

end

/-! ### Withdrawals and fates (R143, R173 to R176, R179) -/

section
variable {x : Commons} (hx : x.Ordered)

include hx

theorem withdrawEvent_ordered : x.withdrawEvent.Ordered :=
  hx.of_eq (by simp) (by simp) (by simp) (Sender.captured_of_head (withdrawEvent_head x))

theorem withdrawPunt_ordered : x.withdrawPunt.Ordered :=
  hx.of_eq (by simp) (by simp) (by simp) (by simp)

theorem withdrawClaimsFor_ordered (p : Port) : (withdrawClaimsFor p x).Ordered := by
  have hresponse : (withdrawResponseClaim p x).Ordered := by
    unfold withdrawResponseClaim
    split
    · split
      · exact hx.of_events (by simp)
      · exact hx
    · exact hx
  have hevent : (withdrawEventClaim p (withdrawResponseClaim p x)).Ordered := by
    unfold withdrawEventClaim
    split
    · exact withdrawEvent_ordered hresponse
    · exact hresponse
  rw [withdrawClaimsFor_eq, withdrawPuntClaim]
  split
  · exact withdrawPunt_ordered hevent
  · exact hevent

theorem refuseOffersAt_ordered (p : Port) : (refuseOffersAt p x).Ordered := by
  have hresponse : (refuseResponse p x).Ordered := by
    unfold refuseResponse
    split
    · split
      · exact hx.of_events (by simp)
      · exact hx
    · exact hx
  have hevent : (refuseEvent p (refuseResponse p x)).Ordered := by
    unfold refuseEvent
    split
    · exact withdrawEvent_ordered hresponse
    · exact hresponse
  rw [refuseOffersAt_eq, refusePunt]
  split
  · split
    · exact withdrawPunt_ordered hevent
    · exact hevent
  · exact hevent

theorem holdHead_ordered (p : Port) : (holdHead p x).Ordered := by
  unfold holdHead
  split
  next w hw =>
    split
    · refine hx.of_eq rfl rfl rfl ?_
      rw [hw]
      rfl
    · exact hx
  · exact hx

theorem settleBuilt_ordered (fate : Fate) (b : Built) : ((x.reportFate fate b).giveReserve b.cells).Ordered :=
  hx.of_events (by simp)

theorem setMgmtOut_ordered (p : Port) (q : List Built) : (x.setMgmtOut p q).Ordered := hx.of_events (by simp)

/-- A head that is sent again keeps its captured value (R174, R175). -/
theorem resend_ordered (e : Env) (retry : Nat) : (resend e retry x).Ordered := by
  have hwithdrawn := withdrawEvent_ordered hx
  unfold resend
  dsimp only
  split
  next w l hw _ =>
    have hcaptured : ∀ c, some w.captured = some c → c ≤ x.withdrawEvent.events.lost := fun c hc =>
      hwithdrawn.captured c (by rw [hw]; exact hc)
    split
    · exact claimEvent_ordered e (hwithdrawn.setSender hcaptured)
    · exact hwithdrawn.setSender hcaptured
  · exact hwithdrawn

theorem resumeSender_ordered (e : Env) (p : Port) : (resumeSender e p x).Ordered := by
  unfold resumeSender
  split
  · split
    · exact resend_ordered hx e 0
    · exact hx
  · exact trySend_ordered e hx

/-! ### The event unit (R173 to R179) -/

theorem dropHead_ordered : x.dropHead.Ordered := .of_idle (seqChain_tail hx.chain) hx.next rfl

/-- The lost count falls only once the head and its captured value are gone (R170, R173). -/
theorem acknowledged_ordered (e : Env) (captured : Word16) : (acknowledged e captured x).Ordered := by
  have hdropped := dropHead_ordered (withdrawEvent_ordered hx)
  exact trySend_ordered e (judgeRest_ordered e (.of_idle hdropped.chain hdropped.next rfl))

theorem ackEvent_ordered (e : Env) (seq : Word16) {y : Commons} (h : ackEvent e seq x = some y) : y.Ordered := by
  unfold ackEvent at h
  split at h
  · simp only [Option.ite_none_right_eq_some, Option.some.injEq] at h
    exact h.2 ▸ acknowledged_ordered hx e _
  · cases h

theorem replaceListener_ordered (e : Env) (l : Listener) : (replaceListener e l x).Ordered := by
  have hwithdrawn := withdrawPunt_ordered (withdrawEvent_ordered hx)
  have hjudged : (judgeRest e (replaced l x)).Ordered := judgeRest_ordered e (hwithdrawn.of_eq rfl rfl rfl rfl)
  show (sendToNew e (judgeRest e (replaced l x))).Ordered
  unfold sendToNew
  split
  · exact resend_ordered hjudged e 0
  · exact trySend_ordered e hjudged

theorem clearListener_ordered (e : Env) : (clearListener e x).Ordered := by
  have hwithdrawn := withdrawPunt_ordered (withdrawEvent_ordered hx)
  exact judgeRest_ordered e (.of_idle hwithdrawn.chain hwithdrawn.next rfl)

theorem retryExpiry_ordered (e : Env) : (retryExpiry e x).Ordered := by
  unfold retryExpiry
  split
  · split
    · split
      · exact resend_ordered hx e _
      · exact trySend_ordered e (loseEvent_ordered (dropHead_ordered hx))
    · exact hx
  · exact hx

theorem puntTake_ordered (e : Env) : (puntTake e x).Ordered := by
  unfold puntTake
  split
  · split
    · exact claimPunt_ordered e (hx.of_eq rfl rfl rfl rfl)
    · exact hx
  · exact hx

end

end Commons

end Sys2Proof.Machine
end

section
/-! PROOF. Every command keeps the numbers of the event unit in order; so do a reset and a LIGHT restart (R169, R170,
R177). -/

set_option Elab.async false

namespace Sys2Proof.Machine

open Sys2Proof.Safety

/-! ### What a happening keeps (R169, R170) -/

/-- From `s` to `t` the numbers of the event unit stay in order. -/
def Orders (s t : State) : Prop := s.commons.Ordered → t.commons.Ordered

namespace Orders

theorem refl (s : State) : Orders s s := fun hs => hs

theorem trans {s t u : State} (h : Orders s t) (k : Orders t u) : Orders s u := k ∘ h

/-- What leaves the shared blocks as they are. -/
theorem of_commons {s t : State} (h : t.commons = s.commons) : Orders s t := fun hs => h ▸ hs

/-- What leaves the ports, the shared blocks and the queues of names as they are. -/
theorem of_holdings {s t : State} (h : t.holdings = s.holdings) : Orders s t :=
  of_commons (congrArg (fun x => x.2.2.1) h)

variable {s t : State}

theorem onCommons (h : Orders s t) {g : Env → Commons → Commons}
    (hg : ∀ e x, Commons.Ordered x → (g e x).Ordered) : Orders s (t.onCommons g) := fun hs => hg _ _ (h hs)

theorem setPort (h : Orders s t) (p : Port) (u : PortUnit) : Orders s (t.setPort p u) :=
  h.trans (.of_commons (by simp))

theorem count (h : Orders s t) (p : Port) (k : PortCounter) : Orders s (t.count p k) := h.setPort p _

theorem post (h : Orders s t) (k : EventKind) : Orders s (t.post k) :=
  h.onCommons fun e _ hx => Commons.post_ordered e hx k

theorem release (h : Orders s t) (id : Nat) : Orders s (t.release id) :=
  h.onCommons fun e _ hx => Commons.release_ordered e hx id

theorem giveGeneral (h : Orders s t) (cells : List GeneralCell) :
    Orders s (t.onCommons fun e => Commons.giveGeneral e cells) :=
  h.onCommons fun e _ hx => Commons.giveGeneral_ordered e hx cells

theorem takeGeneral (h : Orders s t) : Orders s (t.onCommons Commons.takeGeneral) :=
  h.onCommons fun e _ hx => Commons.takeGeneral_ordered e hx

/-- What every step of a fold keeps the fold keeps. -/
theorem foldl (h : Orders s t) {α : Type} {f : State → α → State} (hf : ∀ u a, Orders u (f u a))
    (l : List α) : Orders s (l.foldl f t) := by
  induction l generalizing t with
  | nil => exact h
  | cons a l ih => exact ih (h.trans (hf t a))

end Orders

/-- What changes outside the ports, the shared blocks and the endpoint. -/
theorem State.update_orders (s : State) (c : Classifier) (pf : PfCounters) (ms : Vector Meter 64)
    (tables : Controller) (v : Verify) :
    Orders s { s with classifier := c, prefilter := pf, meters := ms, tables := tables, verify := v } :=
  .of_commons rfl

theorem State.endSession_orders (s : State) (reason : EndReason) : Orders s (s.endSession reason) := by
  unfold State.endSession
  split
  · exact Orders.post (.of_commons rfl) _
  · exact .refl s

/-! ### Ports (R121 to R123) -/

theorem State.endReceptionForLink_orders (s : State) (p : Port) : Orders s (s.endReceptionForLink p) := by
  unfold State.endReceptionForLink
  split
  · exact (((Orders.refl s).setPort p _).count p _).giveGeneral _
  · exact (Orders.refl s).setPort p _
  · exact .refl s

theorem State.abortForLink_orders (s : State) (p : Port) : Orders s (s.abortForLink p) := by
  unfold State.abortForLink
  split
  · have hidle := ((Orders.refl s).setPort p { s.port p with tx := none }).count p .txAbort
    dsimp only
    split
    · exact hidle.release _
    · exact hidle.onCommons fun _ _ hx => Commons.settleBuilt_ordered hx .aborted _
  · exact .refl s

theorem State.flushForLink_orders (s : State) (p : Port) : Orders s (s.flushForLink p) := by
  have hcopy : ∀ (t : State) (c : Copy), Orders t (State.flushCopy p t c) := fun t c =>
    ((Orders.refl t).count p _).release c.frame
  have hqueue : ∀ (t : State) (c : Fin 4), Orders t (State.flushQueue p t c) := fun t c =>
    ((Orders.refl t).setPort p _).foldl hcopy _
  have hbuilt : ∀ (t : State) (b : Built), Orders t (State.flushBuilt p t b) := fun t b =>
    ((Orders.refl t).count p _).onCommons fun _ _ hx => Commons.settleBuilt_ordered hx .flushed b
  have hemptied := ((Orders.refl s).foldl hqueue [0, 1, 2, 3]).onCommons (g := fun _ x => x.setMgmtOut p [])
    fun _ _ hx => Commons.setMgmtOut_ordered hx p []
  exact hemptied.foldl hbuilt _

theorem State.endSessionForLink_orders (s : State) (p : Port) : Orders s (s.endSessionForLink p) := by
  unfold State.endSessionForLink
  split
  · split
    · exact s.endSession_orders .link
    · exact .refl s
  · exact .refl s

theorem State.leaveUp_orders (s : State) (p : Port) (o : OperState) : Orders s (s.leaveUp p o) := by
  have hwithdrawn := (Orders.refl s).onCommons (g := fun _ => Commons.withdrawClaimsFor p)
    fun _ _ hx => Commons.withdrawClaimsFor_ordered hx p
  have hflushed := ((hwithdrawn.trans (State.endReceptionForLink_orders _ p)).trans
    (State.abortForLink_orders _ p)).trans (State.flushForLink_orders _ p)
  have hrefused := hflushed.onCommons (g := fun e x => Commons.arbiter e (Commons.refuseOffersAt p x))
    fun e _ hx => Commons.arbiter_ordered e (Commons.refuseOffersAt_ordered hx p)
  exact ((hrefused.post _).trans (State.endSessionForLink_orders _ p)).onCommons
    fun _ _ hx => Commons.holdHead_ordered hx p

theorem State.enterUp_orders (s : State) (p : Port) : Orders s (s.enterUp p) := by
  unfold State.enterUp
  refine ((Orders.refl s).post _).onCommons fun e x hx => ?_
  split
  · exact Commons.trySend_ordered e hx
  · exact Commons.resumeSender_ordered hx e p

theorem State.changePort_orders (s : State) (p : Port) (u : PortUnit) : Orders s (s.changePort p u) := by
  have hset := (Orders.refl s).setPort p u
  unfold State.changePort
  dsimp only
  split
  · exact hset.trans (State.leaveUp_orders _ p _)
  · split
    · exact hset.trans (State.enterUp_orders _ p)
    · exact hset

/-! ### Reception (R124 to R127) -/

theorem State.discardReception_orders (s : State) (p : Port) (cells : List GeneralCell) (k : PortCounter) :
    Orders s (s.discardReception p cells k) :=
  (((Orders.refl s).setPort p _).count p k).giveGeneral cells

theorem State.startReception_orders (s : State) (p : Port) : Orders s (s.startReception p) := by
  unfold State.startReception
  split
  · exact .refl s
  · split
    · split
      · exact s.discardReception_orders p _ _
      · exact ((Orders.refl s).setPort p _).takeGeneral
    · exact .refl s

theorem State.receiveBytes_orders (s : State) (p : Port) (bytes : List Byte) :
    Orders s (s.receiveBytes p bytes) := by
  refine (Orders.refl s).foldl (fun t v => ?_) bytes
  unfold State.receiveByte
  split
  · split
    · exact t.discardReception_orders p _ _
    · split
      · exact (Orders.refl t).setPort p _
      · split
        · exact t.discardReception_orders p _ _
        · exact ((Orders.refl t).setPort p _).takeGeneral
  · exact .refl t

theorem State.abortReception_orders (s : State) (p : Port) : Orders s (s.abortReception p) := by
  unfold State.abortReception
  split
  · exact (((Orders.refl s).setPort p _).count p _).giveGeneral _
  · exact (Orders.refl s).setPort p _
  · exact .refl s

/-- Stored frames and management counters lie outside the event unit. -/
theorem Orders.of_events {s t : State} (h : t.commons.events = s.commons.events) : Orders s t :=
  fun hs => hs.of_events h

theorem State.routeGood_orders (s : State) (p : Port) (bytes : List Byte) (cells : List GeneralCell) :
    Orders s (s.routeGood p bytes cells) := by
  have hstored := (Orders.of_events (s := s)
    (t := { s with commons := (Commons.store bytes (makeRecord p bytes cells) s.commons).1 }) rfl).count p
      .receivedGood
  have hcommand : ∀ (t : State) (id : Nat), Orders t (t.offerCommand id) := fun t id => by
    unfold State.offerCommand
    split
    · exact .of_commons rfl
    · exact (Orders.of_events (by rfl)).release id
  have hingress : ∀ (t : State) (id : Nat), Orders t (t.offerIngress p id) := fun t id => by
    unfold State.offerIngress
    split
    · exact .of_commons rfl
    · exact ((Orders.refl t).count p _).release id
  unfold State.routeGood
  dsimp only
  split
  · exact hstored.trans (hcommand _ _)
  · exact hstored.trans (hingress _ _)

theorem State.endReception_orders (s : State) (p : Port) : Orders s (s.endReception p) := by
  have hended := (Orders.refl s).setPort p { s.port p with reception := none }
  unfold State.endReception
  split
  · dsimp only
    split
    · exact (hended.count p _).giveGeneral _
    · exact hended.trans (State.routeGood_orders _ p _ _)
  · exact hended
  · exact .refl s

/-! ### Egress (R141 to R144) -/

theorem State.startTransmission_orders (s : State) (p : Port) : Orders s (s.startTransmission p) := by
  unfold State.startTransmission
  split
  · split
    next rest _ =>
      exact ((Orders.refl s).setPort p _).onCommons (g := fun e x => Commons.admitOffers e p (x.setMgmtOut p rest))
        fun e _ hx => Commons.admitOffers_ordered e (Commons.setMgmtOut_ordered hx p rest) p
    · split
      · unfold State.startCopy
        dsimp only
        split
        · exact .refl s
        · split
          · exact (Orders.refl s).setPort p _
          · exact .refl s
      · exact .refl s
  · exact .refl s

theorem State.endTransmission_orders (s : State) (p : Port) : Orders s (s.endTransmission p) := by
  unfold State.endTransmission
  split
  · exact .refl s
  · have hidle := (Orders.refl s).setPort p { s.port p with tx := none }
    dsimp only
    split
    · exact (hidle.count p _).release _
    · exact (hidle.count p _).onCommons fun e _ hx =>
        Commons.arbiter_ordered e (Commons.settleBuilt_ordered hx .sent _)

/-! ### Classification (R34, R60 to R66) -/

theorem State.offerCopy_orders (id cells : Nat) (s : State) (o : CopyOffer) :
    Orders s (State.offerCopy id cells s o) := by
  unfold State.offerCopy
  dsimp only
  split
  · exact ((Orders.refl s).setPort o.port _).onCommons fun _ _ hx => hx.of_events (by simp)
  · exact (Orders.refl s).count o.port _

theorem State.offerPuntEntry_orders (id : Nat) (q : Port) (s : State) :
    Orders s (State.offerPuntEntry id q s) := by
  unfold State.offerPuntEntry
  split
  · exact (Orders.refl s).count q _
  · split
    · exact (Orders.refl s).onCommons fun _ _ hx => hx.of_eq rfl rfl rfl rfl
    · exact (Orders.refl s).count q _

theorem State.countDrop_orders (p : Port) (s : State) (why : DropReason) : Orders s (State.countDrop p s why) := by
  cases why with
  | ruleDrop c => exact ((Orders.refl s).count p _).count p _
  | _ => exact (Orders.refl s).count p _

theorem State.dispose_orders (s : State) (id cells : Nat) (r : FrameRecord) : Orders s (s.dispose id cells r) := by
  have hrecorded := (Orders.refl s).onCommons
    (g := fun _ => Commons.updateFrame id fun f => f.classified (r.setDisp r.disp.final))
    fun _ _ hx => hx.of_events rfl
  have hoffered : ∀ u, Orders s u → Orders s ((copiesOf r.disp.final).foldl (State.offerCopy id cells) u) :=
    fun _ hu => hu.foldl (State.offerCopy_orders id cells) _
  unfold State.dispose
  refine Orders.release ?_ id
  cases r.disp.final.drop with
  | none =>
    cases r.disp.final.punt
    · exact hoffered _ hrecorded
    · exact (hoffered _ hrecorded).trans (State.offerPuntEntry_orders id _ _)
  | some why =>
    have hcounted := hrecorded.trans (State.countDrop_orders r.ingress _ why)
    cases r.disp.final.punt
    · exact hoffered _ hcounted
    · exact (hoffered _ hcounted).trans (State.offerPuntEntry_orders id _ _)

theorem State.classify_orders (s : State) : Orders s s.classify := by
  have hnormal : ∀ (t : State) (f : RxFrame) (r : FrameRecord), Orders t (t.classifyNormal f r) := fun t f r => by
    by_cases h : prefilterDrops t.tables.activeBank r
    · rw [State.classifyNormal_dropped f h]
      exact (t.update_orders _ _ _ _ _).trans (State.dispose_orders _ _ _ _)
    · cases hn : lookup t.tables.activeBank (screenRecord t.tables.activeBank r) with
      | some n =>
        rw [State.classifyNormal_match f h hn]
        exact (t.update_orders _ _ _ _ _).trans (State.dispose_orders _ _ _ _)
      | none =>
        rw [State.classifyNormal_noMatch f h hn]
        exact (((t.update_orders _ _ _ _ _).count _ _).trans (State.update_orders _ _ _ _ _ _)).trans
          (State.dispose_orders _ _ _ _)
  have hframe : ∀ (t : State) (f : RxFrame), Orders t (t.classifyFrame f) := fun t f => by
    unfold State.classifyFrame
    dsimp only
    split
    · exact hnormal t f _
    · exact t.dispose_orders _ _ _
  unfold State.classify
  split
  · exact .refl s
  · split
    · exact .refl s
    · dsimp only
      split
      · exact (s.update_orders _ _ _ _ _).trans (hframe _ _)
      · exact s.update_orders _ _ _ _ _

/-! ### Restarts (R149, R165, R177) -/

/-- A reset leaves the one event of the restart in the queue, and the next number is 2 (R177). -/
theorem ResetFrom.orders {s t : State} (h : ResetFrom s t) : Orders s t := by
  obtain ⟨straps, a, b, cause, rfl⟩ := h
  exact fun _ => .of_idle rfl (show 2#16 ≠ 0#16 by decide) rfl

theorem State.lightRestart_orders (s : State) : Orders s s.lightRestart := fun hs => by
  have hblocks : s.lightBlocks.commons.Ordered := .of_idle hs.chain hs.next rfl
  exact Commons.trySend_ordered _ (Commons.acceptAll_ordered _ hblocks _)

theorem State.settleRestart_orders (s : State) (straps : Straps) : Orders s (s.settleRestart straps) := by
  unfold State.settleRestart
  split
  · exact s.lightRestart_orders
  · exact (State.fullRestart_becomes (.refl s) straps).orders
  · exact .refl s

/-! ### Commands at the endpoint (R152 to R165) -/

/-- A command's run keeps the numbers of the event unit in order. -/
def Run.Orders (run : Run) : Prop := ∀ (c : Command) (s : State), Machine.Orders s (run c s).1

theorem Run.Keeps.orders {run : Run} (h : run.Keeps State.holdings) : run.Orders := fun c s => .of_holdings (h c s)

theorem needs_orders {run : Run} (hrun : run.Orders) (n : Nat) : (needs n run).Orders := by
  intro c s
  unfold needs
  split
  · exact .refl s
  · exact hrun c s

theorem counterRun_orders {run : Bool → Run} (hrun : ∀ b, (run b).Orders) (n : Nat) : (counterRun n run).Orders := by
  refine needs_orders (fun c s => ?_) 3
  split
  · exact .refl s
  · split
    · exact .refl s
    · split
      · exact .refl s
      · exact hrun _ c s

theorem State.takeHead_orders (s : State) : Orders s s.takeHead := by
  unfold State.takeHead
  split
  · exact Orders.release (.of_commons rfl) _
  · exact .refl s

theorem State.respond_orders (s : State) (c : Command) (r : Reply) : Orders s (s.respond c r) := fun hs =>
  Commons.arbiter_ordered _ (hs.of_events rfl)

theorem State.judge_orders {run : Run} (hrun : run.Orders) (s : State) (perm : Command → Permission)
    (c : Command) : Orders s (s.judge perm run c) := by
  have hperm : Orders s (s.runPermitted (perm c) run c).1 := by
    unfold State.runPermitted
    split
    · exact .refl s
    · exact hrun c s
  unfold State.judge
  split
  · exact s.respond_orders c _
  · split
    · exact Orders.trans (.of_commons (by simp)) (State.respond_orders _ c _)
    · refine Orders.trans ?_ (State.respond_orders _ c _)
      split
      · exact hperm.trans (.of_commons rfl)
      · exact hperm

theorem State.takeCommand_orders {run : Run} (hrun : run.Orders) (s : State) (takes : Command → Bool)
    (perm : Command → Permission) : Orders s (s.takeCommand takes perm run) := by
  unfold State.takeCommand
  split
  · split
    · exact s.takeHead_orders.trans (State.judge_orders hrun _ perm _)
    · exact .refl s
  · exact .refl s

theorem State.discardMalformed_orders (s : State) : Orders s s.discardMalformed := by
  unfold State.discardMalformed
  split
  · split
    · exact s.takeHead_orders.trans (.of_events rfl)
    · exact .refl s
  · exact .refl s

theorem runOpenSession_orders : runOpenSession.Orders := fun c s => by
  unfold runOpenSession
  split
  · exact Orders.post (.of_commons rfl) _
  · split
    · exact .of_commons (by simp)
    · exact .refl s

theorem runSetListener_orders : runSetListener.Orders :=
  needs_orders (fun c s => by
    split
    · split
      · exact (Orders.refl s).onCommons fun e _ hx => Commons.replaceListener_ordered hx e _
      · exact .refl s
    · exact .refl s) 3

theorem State.clearListener_orders (s : State) : Orders s s.clearListener := by
  have hflush : ∀ (t : State) (id : Nat), Orders t (t.flushPunt id) := fun t id => by
    unfold State.flushPunt
    split
    · exact ((Orders.refl t).count _ _).release id
    · exact .refl t
  have hcleared := (Orders.refl s).onCommons (g := Commons.clearListener)
    fun e _ hx => Commons.clearListener_ordered hx e
  refine Orders.foldl ?_ hflush _
  exact fun hs => (hcleared hs).of_eq rfl rfl rfl rfl

theorem runAckEvent_orders : runAckEvent.Orders :=
  needs_orders (fun c s => by
    split
    next hacked => exact fun hs => Commons.ackEvent_ordered hs _ _ hacked
    · exact .refl s) 2

theorem runPort_orders (clear : Bool) : (runPort clear).Orders := fun c s => by
  unfold runPort
  split
  · exact .refl s
  · cases clear
    · exact .refl s
    · exact (Orders.refl s).setPort _ _

theorem runMgmt_orders (clear : Bool) : (runMgmt clear).Orders := fun c s => by
  cases clear
  · exact .refl s
  · exact .of_events rfl

theorem State.setSetting_orders {s t : State} (x : Setting) (v : Nat) (h : s.setSetting x v = some t) :
    Orders s t := by
  have hmark : ∀ mark : Pool → Pool,
      Orders s (s.onCommons fun e x => Commons.evalPool e { x with pool := mark x.pool }) := fun mark =>
    (Orders.refl s).onCommons fun e _ hx => Commons.evalPool_ordered e (hx.of_events rfl)
  cases x with
  | portEnable p =>
    simp only [State.setSetting, State.setPortEnable, Option.ite_none_right_eq_some, Option.some.injEq] at h
    exact h.2 ▸ s.changePort_orders p _
  | fallback p =>
    simp only [State.setSetting, State.setFallback] at h
    split at h
    · cases h
      exact .of_commons rfl
    · simp only [Option.ite_none_right_eq_some, Option.some.injEq] at h
      exact h.2 ▸ .of_commons rfl
  | queueLimit p c =>
    simp only [State.setSetting, State.setQueueLimit, Option.ite_none_right_eq_some, Option.some.injEq] at h
    exact h.2 ▸ (Orders.refl s).setPort p _
  | poolLowMark =>
    simp only [State.setSetting, State.setPoolLowMark, Option.ite_none_right_eq_some, Option.some.injEq] at h
    exact h.2 ▸ hmark fun pool => { pool with lowMark := v }
  | poolHighMark =>
    simp only [State.setSetting, State.setPoolHighMark, Option.ite_none_right_eq_some, Option.some.injEq] at h
    exact h.2 ▸ hmark fun pool => { pool with highMark := v }
  | nodeAddress =>
    simp only [State.setSetting, State.setNodeAddress, Option.ite_none_right_eq_some, Option.some.injEq] at h
    exact h.2 ▸ .of_commons rfl
  | sessionTimeout =>
    simp only [State.setSetting, State.setSessionTimeout, Option.ite_none_right_eq_some, Option.some.injEq] at h
    exact h.2 ▸ .of_commons rfl
  | verifyPeriod =>
    simp only [State.setSetting, State.setVerifyPeriod, Option.ite_none_right_eq_some, Option.some.injEq] at h
    exact h.2 ▸ .of_commons rfl

theorem runSetSetting_orders : runSetSetting.Orders :=
  needs_orders (fun c s => by
    split
    · split
      next h => exact State.setSetting_orders _ _ h
      · exact .refl s
    · exact .refl s) 4

theorem State.settling_orders (s : State) (by_ : SettledBy) : Orders s (s.settling by_) := by
  cases by_ with
  | sent p => exact s.endTransmission_orders p
  | linkFell p => exact s.changePort_orders p _
  | lostAtOnce => exact s.takeCommand_orders runRestart_holdings.orders _ _

/-! ### The table controller and the verify unit (R97, R101, R115) -/

theorem State.signingStep_orders (s : State) : Orders s s.signingStep := by
  unfold State.signingStep
  split
  · split
    · exact (s.update_orders _ _ _ _ _).post _
    · exact s.update_orders _ _ _ _ _
  · exact .refl s

theorem State.swap_orders (s : State) : Orders s s.swap := by
  unfold State.swap
  split
  · exact (s.update_orders _ _ _ _ _).post _
  · exact .refl s

theorem State.verdictFail_orders (s : State) : Orders s s.verdictFail := by
  unfold State.verdictFail
  split
  · split
    · exact .refl s
    · exact (s.update_orders _ _ _ _ _).post _
  · exact .refl s

/-! ### Every command -/

/-- Every command keeps the numbers of the event unit in order (R169, R170). -/
theorem exec_orders {i : Instr} {s t : State} (h : exec i s = .next t) : Orders s t := by
  have take : ∀ {run : Run} (takes perm), run.Orders → Orders s (s.takeCommand takes perm run) :=
    fun takes perm hrun => s.takeCommand_orders hrun takes perm
  cases i with
  | pinReset pins =>
    exact holds_of_next h (ResetFrom.orders ⟨pins.straps, pins.aLink, pins.bLink, .power, rfl⟩)
  | linkPinChange p level =>
    exact holds_of_next h ((s.changePort_orders p _).trans (State.settleRestart_orders _ _))
  | frameStart p => exact holds_of_next h (s.startReception_orders p)
  | receptionCellClaim p bytes => exact holds_of_next h (s.receiveBytes_orders p bytes)
  | oversizeCutoff p bytes => exact holds_of_next h (s.receiveBytes_orders p bytes)
  | lineAbort p => exact holds_of_next h (s.abortReception_orders p)
  | frameEnd p bytes =>
    exact holds_of_next h ((s.receiveBytes_orders p bytes).trans (State.endReception_orders _ p))
  | classify => exact holds_of_next h s.classify_orders
  | malformedCommand => exact holds_of_next h s.discardMalformed_orders
  | unknownCommand | discover | readStatus => exact holds_of_next h (take _ _ fun _ u => .refl u)
  | openSession => exact holds_of_next h (take _ _ runOpenSession_orders)
  | closeSession => exact holds_of_next h (take _ _ fun _ u => u.endSession_orders .closed)
  | getSetting => exact holds_of_next h (take _ _ runGetSetting_holdings.orders)
  | setNodeAddress | setSessionTimeout | setVerifyPeriod | setFallback | setPortEnable | setQueueLimit
  | setPoolLowMark | setPoolHighMark => exact holds_of_next h (take _ _ runSetSetting_orders)
  | readTable => exact holds_of_next h (take _ _ runReadTable_holdings.orders)
  | readNext => exact holds_of_next h (take _ _ runReadNext_holdings.orders)
  | writeTable => exact holds_of_next h (take _ _ runWriteTable_holdings.orders)
  | commit => exact holds_of_next h (take _ _ runCommit_holdings.orders)
  | abortEdit => exact holds_of_next h (take _ _ runAbortEdit_holdings.orders)
  | readCountersHits => exact holds_of_next h (take _ _ (counterRun_keeps runHits_holdings 7).orders)
  | readCountersPort => exact holds_of_next h (take _ _ (counterRun_orders runPort_orders 3))
  | readCountersMeter => exact holds_of_next h (take _ _ (counterRun_keeps runMeters_holdings 7).orders)
  | readCountersPrefilter => exact holds_of_next h (take _ _ (counterRun_keeps runPrefilter_holdings 3).orders)
  | readCountersMgmt => exact holds_of_next h (take _ _ (counterRun_orders runMgmt_orders 3))
  | readCountersIntegrity => exact holds_of_next h (take _ _ (counterRun_keeps runIntegrity_holdings 3).orders)
  | setListener => exact holds_of_next h (take _ _ runSetListener_orders)
  | setListenerNone => exact holds_of_next h (take _ _ fun _ u => u.clearListener_orders)
  | ackEvent => exact holds_of_next h (take _ _ runAckEvent_orders)
  | restartLight | restartFull =>
    exact holds_of_next h ((take _ _ runRestart_holdings.orders).trans (State.settleRestart_orders _ _))
  | lightRestart by_ =>
    refine holds_of_next h ?_
    split
    · exact (s.settling_orders by_).trans (State.lightRestart_orders _)
    · exact .refl s
  | fullRestart by_ straps =>
    refine holds_of_next h ?_
    split
    · exact (s.settling_orders by_).trans (State.fullRestart_becomes (.refl _) straps).orders
    · exact .refl s
  | sessionIdleExpiry => exact holds_of_next h (s.endSession_orders .expired)
  | signingStep => exact holds_of_next h s.signingStep_orders
  | swap => exact holds_of_next h s.swap_orders
  | refill | copyingStep | endOfCopying | verifyPeriodExpiry | sweepStep | uptimeCount =>
    exact holds_of_next h (.of_commons rfl)
  | verdictPass =>
    refine holds_of_next h ?_
    split
    · exact .of_commons rfl
    · exact .refl s
  | verdictFail => exact holds_of_next h s.verdictFail_orders
  | storageUpset bank table index content =>
    refine holds_of_next h ?_
    split
    · exact .of_commons rfl
    · exact .refl s
  | reserveGrant =>
    exact holds_of_next h (((Orders.refl s).onCommons fun e _ hx => Commons.arbiter_ordered e hx).trans
      (State.settleRestart_orders _ _))
  | mgmtOutAdmit p =>
    exact holds_of_next h ((Orders.refl s).onCommons fun e _ hx => Commons.admitOffers_ordered e hx p)
  | transmissionStart p => exact holds_of_next h (s.startTransmission_orders p)
  | transmissionEnd p =>
    exact holds_of_next h ((s.endTransmission_orders p).trans (State.settleRestart_orders _ _))
  | eventSend => exact holds_of_next h ((Orders.refl s).onCommons fun e _ hx => Commons.trySend_ordered e hx)
  | retryTimerExpiry =>
    exact holds_of_next h ((Orders.refl s).onCommons fun e _ hx => Commons.retryExpiry_ordered hx e)
  | puntTake => exact holds_of_next h ((Orders.refl s).onCommons fun e _ hx => Commons.puntTake_ordered hx e)

end Sys2Proof.Machine

namespace Sys2Proof.Settled

open Sys2Proof.Machine Sys2Proof.Safety

/-- Settles O16: an accepted event takes the next number, a send captures the lost count as it stands, and that count
falls only after the captured value is gone. -/
theorem eventsStayOrdered : Obligations.EventsStayOrdered := by
  intro s t hs hstep
  rw [Commons.eventsOrdered_iff] at hs ⊢
  unfold step at hstep
  split at hstep
  · exact holds_of_next (P := fun u => u.commons.Ordered) hstep hs
  next c rest _ => exact exec_orders (s := { s with pending := rest }) hstep hs

end Sys2Proof.Settled
end

section
/-! PROOF. Event reports and punt reports: a send that finds room and a cell puts the report of the head into its
queue, the retry timer sends it again or gives it up, and PUNT_TAKE puts the report of the head entry into its queue,
behind the event report of a POOL_OK that its release posts (R131, R133, R172, R174, R179). -/

set_option Elab.async false

namespace Sys2Proof.Machine

open Sys2Proof.Safety

namespace Commons

/-! ### The report of the head (R131, R140, R172) -/

/-- The shared blocks once the report of the head has taken its cell and joined its queue. -/
def reported (x : Commons) (report : Built) (retry : Nat) (captured : Word16) : Commons :=
  (x.takeReserve 1).admitEvent { retry := retry, captured := captured, timer := false, flight := .claiming } report

theorem reported_effects (x : Commons) {report : Built} {p : Port} (hp : report.port = p) (retry : Nat)
    (captured : Word16) :
    (x.reported report retry captured).mgmtOut p = x.mgmtOut p ++ [report] ∧
      (x.reported report retry captured).events = { x.events with
        sender := .awaiting { retry := retry, captured := captured, timer := true, flight := .queued } } ∧
      (x.reported report retry captured).pool = { x.pool with freeReserve := x.pool.freeReserve - 1 } := by
  refine ⟨?_, ?_, ?_⟩
  · rw [reported, admitEvent_mgmtOut _ _ _ hp]
    cases p <;> rfl
  · rw [reported, admitEvent_eq]
    rfl
  · rw [reported, admitEvent_eq]
    rfl

section
variable {v : State} {x : Commons} {l : Listener} {r : EventRecord} {rest : List EventRecord}
  (hlistener : x.events.listener = some l) (hup : (v.port l.port).oper = .up)
  (hqueue : x.events.queue = r :: rest) (hroom : x.RoomAt l.port)

include hlistener hup hqueue hroom

/-- A claim for the report of the head is granted, and the report joins its queue. -/
theorem claimEvent_reports (retry : Nat) (captured : Word16) :
    claimEvent v.env (x.setSender
        (.awaiting { retry := retry, captured := captured, timer := false, flight := .claiming })) =
      x.reported (eventReport l v.endpoint.nodeAddress r captured) retry captured := by
  obtain ⟨hclaims, hoffers, hshort, hcell⟩ := hroom
  let z := x.setSender (.awaiting { retry := retry, captured := captured, timer := false, flight := .claiming })
  have hnone : ¬z.responseClaimWaits = true := by
    rw [responseClaimWaits_iff]
    exact fun ⟨b, hb⟩ => hclaims b hb
  have hfirst : z.responseOfferWaits l.port = false := not_responseOfferWaits fun ⟨b, hb, _⟩ => hoffers b hb
  have hgrant := grantEvent_joins (v := v) (x := z) rfl rfl hlistener hqueue hup hcell
    (by rwa [setSender_mgmtOut]) hfirst
  rw [claimEvent, if_neg hnone, hgrant, reported, admitEvent_eq, admitEvent_eq]
  rfl

/-- An idle sender sends the head and captures the lost count (R170, R172). -/
theorem trySend_reports (hidle : x.events.sender = .idle) : trySend v.env x =
    x.reported (eventReport l v.endpoint.nodeAddress r x.events.lost) 0 x.events.lost := by
  have hbegins : (v.env.up l.port && !x.events.queue.isEmpty) = true := by simp [env_up, hup, hqueue]
  simp only [trySend, hidle, hlistener, if_pos hbegins]
  exact claimEvent_reports hlistener hup hqueue hroom 0 x.events.lost

/-- A head whose report had joined its queue is sent again with the value captured before (R170, R174). -/
theorem resend_reports {w : Awaiting} (hsender : x.events.sender = .awaiting w) (hflight : w.flight = .queued)
    (retry : Nat) : resend v.env retry x =
      x.reported (eventReport l v.endpoint.nodeAddress r w.captured) retry w.captured := by
  have hwithdrawn : x.withdrawEvent = x := by simp only [withdrawEvent, hsender, hflight]
  rw [resend_reclaims retry hsender hlistener hup, reclaimed, hwithdrawn]
  exact claimEvent_reports hlistener hup hqueue hroom retry w.captured

end

/-! ### RETRY_TIMER_EXPIRY (R174) -/

section
variable {v : State} {x : Commons} {w : Awaiting} (hsender : x.events.sender = .awaiting w) (htimer : w.timer = true)

include hsender htimer

theorem retryExpiry_resends (e : Env) (h : w.retry < 3) : retryExpiry e x = resend e (w.retry + 1) x := by
  have hbelow : w.retry < Config.maxRetries := h
  simp only [retryExpiry, hsender, htimer, if_true, if_pos hbelow]

theorem retryExpiry_exhausts (e : Env) (h : 3 ≤ w.retry) : retryExpiry e x = exhaust e x := by
  have hreached : ¬w.retry < Config.maxRetries := Nat.not_lt.mpr h
  simp only [retryExpiry, hsender, htimer, if_true, if_neg hreached]

end

section
variable (x : Commons)

/-- A head that is given up leaves the queue and is counted lost (R170, R174). -/
theorem exhaust_frame (e : Env) : (exhaust e x).events.queue = x.events.queue.tail ∧
    (exhaust e x).events.lost = satInc x.events.lost ∧
    (exhaust e x).mgmt.eventsLost = satInc x.mgmt.eventsLost ∧
    (exhaust e x).events.nextSeq = x.events.nextSeq := by
  simp only [exhaust, trySend_frame]
  exact ⟨rfl, rfl, rfl, rfl⟩

theorem exhaust_stops (e : Env) (h : x.events.queue.tail = []) : (exhaust e x).events.sender = .idle := by
  rw [exhaust, trySend_empty e h]
  rfl

/-- The next record is sent, with the lost count as it then stands. -/
theorem exhaust_sends {v : State} {l : Listener} (hlistener : x.events.listener = some l)
    (hup : (v.port l.port).oper = .up) (hqueue : x.events.queue.tail ≠ []) (hroom : x.RoomAt l.port) :
    (exhaust v.env x).events.sender =
      .awaiting { retry := 0, captured := satInc x.events.lost, timer := true, flight := .queued } := by
  obtain ⟨r, rest, hnext⟩ := List.exists_cons_of_ne_nil hqueue
  obtain ⟨hclaims, hoffers, hshort, hcell⟩ := hroom
  have hout : x.dropHead.loseEvent.mgmtOut l.port = x.mgmtOut l.port := by cases l.port <;> rfl
  have hsends := trySend_reports (v := v) (x := x.dropHead.loseEvent) hlistener hup hnext
    ⟨hclaims, hoffers, by rwa [hout], hcell⟩ rfl
  obtain ⟨-, hevents, -⟩ := reported_effects x.dropHead.loseEvent
    (report := eventReport l v.endpoint.nodeAddress r x.dropHead.loseEvent.events.lost) rfl 0
    x.dropHead.loseEvent.events.lost
  rw [exhaust, hsends, hevents]
  rfl

end

/-! ### PUNT_TAKE (R132, R133, R179) -/

/-- Cells that take the pool out of POOL_LOW post POOL_OK with the count then free (R133). -/
theorem giveGeneral_posts (e : Env) (cells : List GeneralCell) {x : Commons} (hlow : x.pool.low = true)
    (hhigh : x.pool.highMark < x.pool.freeGeneral + cells.length) :
    giveGeneral e cells x = post e (.poolOk (x.pool.freeGeneral + cells.length))
      { x with pool := { x.pool with free := x.pool.free ++ cells, low := false } } := by
  have hleft : (x.pool.free ++ cells).length = x.pool.freeGeneral + cells.length := List.length_append
  rw [← hleft] at hhigh ⊢
  exact (if_pos hlow).trans (if_pos hhigh)

section
variable {v : State} {x : Commons} {id : Nat} {rest : List Nat} {f : RxFrame} (hf : x.frame? id = some f)

include hf

/-- The cells of a punted frame that loses its last holder join the free ones. -/
theorem puntTaken_free (b : Built) (hlast : f.holders ≤ 1) :
    (puntTaken v x id rest b).pool.free = x.pool.free ++ f.record.cellList := by
  have hdrop : (dropHolder id x.frames).2 = if f.holders ≤ 1 then f.record.cellList else [] :=
    dropHolder_of_frame? hf
  rw [if_pos hlast] at hdrop
  rw [puntTaken, (release_frame _ _ _).2.1]
  exact congrArg (x.pool.free ++ ·) hdrop

/-- Where they take the pool out of POOL_LOW, POOL_OK is posted before the report is offered (R133; log 17). -/
theorem puntTaken_posts (b : Built) (hlast : f.holders ≤ 1) (hcells : f.cells ≠ 0) (hlow : x.pool.low = true)
    (hhigh : x.pool.highMark < x.pool.freeGeneral + f.cells) :
    puntTaken v x id rest b = post v.env (.poolOk (x.pool.freeGeneral + f.cells))
      { x with
        pool := { x.pool with
          free := x.pool.free ++ f.record.cellList, freeReserve := x.pool.freeReserve - b.cells, low := false }
        frames := (dropHolder id x.frames).1
        events := { x.events with puntQueue := rest, punt := .idle } } := by
  have hreleased := release_frees (x := { x.takeReserve b.cells with
    events := { x.events with puntQueue := rest, punt := .idle } }) v.env hf hlast
      fun hnil => hcells (congrArg List.length hnil)
  exact hreleased.trans (giveGeneral_posts v.env f.record.cellList hlow hhigh)

end

section
variable {v : State} {x : Commons} {l : Listener} {id : Nat} {rest : List Nat} {f : RxFrame}
  (hlistener : x.events.listener = some l) (hup : (v.port l.port).oper = .up)
  (hclaims : ∀ b, x.output ≠ .claiming b) (hrests : x.events.sender.Rests) (hidle : x.events.punt = .idle)
  (hqueue : x.events.puntQueue = id :: rest)

include hlistener hup hclaims hrests hidle hqueue

/-- The claim of the punt side stands first where neither a response nor the sender waits. -/
theorem puntTake_claims : puntTake v.env x = grantPunt v.env (x.setPunt .claiming) := by
  have hup' : v.env.up l.port = true := by simp [env_up, hup]
  have hresponse : (x.setPunt .claiming).responseClaimWaits = false := by
    rw [Bool.eq_false_iff, Ne, responseClaimWaits_iff]
    exact fun ⟨b, hb⟩ => hclaims b hb
  have hevent : (x.setPunt .claiming).eventClaimWaits = false :=
    not_eventClaimWaits fun ⟨w, hw, hclaiming⟩ => (hrests w hw).1 hclaiming
  simp only [puntTake, hlistener, hidle, hqueue, if_pos hup', claimPunt, hresponse, hevent, Bool.or_self,
    Bool.false_eq_true, if_false]

variable (hf : x.frame? id = some f)

include hf

/-- The report of the head entry is offered once its cells are taken and its frame's holder is released. -/
theorem puntTake_offers (hcells : (puntReport l v.endpoint.nodeAddress f).cells ≤ x.pool.freeReserve) :
    puntTake v.env x = offerPunt v.env (puntReport l v.endpoint.nodeAddress f)
      (puntTaken v (x.setPunt .claiming) id rest (puntReport l v.endpoint.nodeAddress f)) := by
  rw [puntTake_claims hlistener hup hclaims hrests hidle hqueue]
  exact (grantPunt_claiming (x := x.setPunt .claiming) rfl hlistener hqueue hf).trans (if_pos hcells)

variable (hoffers : ∀ b, x.output ≠ .offering b)

include hoffers

/-- The report joins its queue where the release leaves room there and no event report that waits for it. -/
theorem puntTake_admits (hcells : (puntReport l v.endpoint.nodeAddress f).cells ≤ x.pool.freeReserve)
    {y : Commons} (hy : puntTaken v (x.setPunt .claiming) id rest (puntReport l v.endpoint.nodeAddress f) = y)
    (houtput : y.output = x.output) (hroom : (y.mgmtOut l.port).length < 4) (hfirst : y.eventOfferWaits l.port = false) :
    puntTake v.env x = y.admitPunt (puntReport l v.endpoint.nodeAddress f) := by
  rw [puntTake_offers hlistener hup hclaims hrests hidle hqueue hf hcells, hy]
  refine offerPunt_joins hup hroom (not_responseOfferWaits ?_) hfirst
  rintro ⟨c, hc, -⟩
  exact hoffers c (houtput.symm.trans hc)

/-- Where the release begins no send, the report joins its queue at once. -/
theorem puntTake_joins (hroom : (x.mgmtOut l.port).length < 4)
    (hcells : (puntReport l v.endpoint.nodeAddress f).cells ≤ x.pool.freeReserve)
    (hquiet : 2 ≤ f.holders ∨ x.events.sender ≠ .idle ∨
      ((x.pool.low = true → x.pool.freeGeneral + f.cells ≤ x.pool.highMark) ∧
        (x.pool.low = false → x.pool.lowMark ≤ x.pool.freeGeneral + f.cells))) :
    let b := puntReport l v.endpoint.nodeAddress f
    let y := puntTake v.env x
    y.mgmtOut l.port = x.mgmtOut l.port ++ [b] ∧ y.events.puntQueue = rest ∧ y.events.punt = .idle ∧
      y.pool.freeReserve = x.pool.freeReserve - b.cells ∧ y.frames = (dropHolder id x.frames).1 ∧
      (f.holders ≤ 1 → y.pool.free.Perm (x.pool.free ++ f.record.cellList)) := by
  intro b y
  obtain ⟨hout, hreserve, hsender, houtput, hpunts, hframes⟩ :=
    puntTaken_effects (v := v) (x := x.setPunt .claiming) (rest := rest) hf b hquiet
  have hmgmt : (puntTaken v (x.setPunt .claiming) id rest b).mgmtOut l.port = x.mgmtOut l.port :=
    (hout _).trans (by cases l.port <;> rfl)
  have hfirst : (puntTaken v (x.setPunt .claiming) id rest b).eventOfferWaits l.port = false := by
    refine not_eventOfferWaits ?_
    rintro ⟨w, c, hw, hoffering, -⟩
    exact (hrests w (hsender.symm.trans hw)).2 c hoffering
  have hy : y = (puntTaken v (x.setPunt .claiming) id rest b).admitPunt b :=
    puntTake_admits hlistener hup hclaims hrests hidle hqueue hf hoffers hcells rfl houtput (by rwa [hmgmt]) hfirst
  rw [hy, admitPunt_mgmtOut (p := l.port) _ b rfl, hmgmt]
  simp only [admitPunt_frame]
  exact ⟨trivial, hpunts, rfl, hreserve, hframes,
    fun hlast => .of_eq (puntTaken_free (x := x.setPunt .claiming) hf b hlast)⟩

/-- Where the release posts POOL_OK to an idle sender, the event report joins the queue first (R172; log 17). -/
theorem puntTake_joins_behind (hlast : f.holders ≤ 1) (hstored : f.cells ≠ 0) (hsender : x.events.sender = .idle)
    (hlow : x.pool.low = true) (hhigh : x.pool.highMark < x.pool.freeGeneral + f.cells)
    (hroom : (x.mgmtOut l.port).length < 3)
    (hcells : (puntReport l v.endpoint.nodeAddress f).cells + 1 ≤ x.pool.freeReserve) :
    let b := puntReport l v.endpoint.nodeAddress f
    let y := puntTake v.env x
    ∃ r : EventRecord, y.events.queue.head? = some r ∧
      y.mgmtOut l.port = x.mgmtOut l.port ++ [eventReport l v.endpoint.nodeAddress r y.events.lost, b] ∧
      y.events.sender =
        .awaiting { retry := 0, captured := y.events.lost, timer := true, flight := .queued } ∧
      Accepted v x y (.poolOk (x.pool.freeGeneral + f.cells)) ∧ y.pool.low = false ∧ y.events.puntQueue = rest ∧
      y.events.punt = .idle ∧ y.pool.freeReserve + (b.cells + 1) = x.pool.freeReserve ∧
      y.pool.free.Perm (x.pool.free ++ f.record.cellList) ∧ y.frames = (dropHolder id x.frames).1 := by
  intro b y
  let z : Commons := { x.setPunt .claiming with
    pool := { x.pool with
      free := x.pool.free ++ f.record.cellList, freeReserve := x.pool.freeReserve - b.cells, low := false }
    frames := (dropHolder id x.frames).1
    events := { x.events with puntQueue := rest, punt := .idle } }
  let k : EventKind := .poolOk (x.pool.freeGeneral + f.cells)
  have hposts : puntTaken v (x.setPunt .claiming) id rest b = post v.env k z :=
    puntTaken_posts (x := x.setPunt .claiming) hf b hlast hstored hlow hhigh
  obtain ⟨r, more, hrecords⟩ := accept_nonempty v.env k z
  have hrecords' : (post v.env k z).events.queue = r :: more := by simpa [post] using hrecords
  have hmgmt : z.mgmtOut l.port = x.mgmtOut l.port := by cases l.port <;> rfl
  obtain ⟨haccepted, -, -, hsend⟩ := post_postedOn v k z
  obtain ⟨-, -, hgranted⟩ := hsend l r more hsender hlistener hup hrecords'
  have hcell : 1 ≤ x.pool.freeReserve - b.cells := Nat.le_sub_of_add_le' hcells
  obtain ⟨hreserve, -, hjoins⟩ := hgranted hclaims hcell
  obtain ⟨hawaits, hout⟩ := hjoins fun hfull => by
    rcases hfull with hlong | ⟨c, hc, -⟩
    · rw [hmgmt] at hlong
      omega
    · exact hoffers c hc
  have hlength : ((post v.env k z).mgmtOut l.port).length < 4 := by
    rw [hout, hmgmt, List.length_append, List.length_singleton]
    omega
  have hfirst : (post v.env k z).eventOfferWaits l.port = false := by
    refine not_eventOfferWaits ?_
    rintro ⟨w, c, hw, hoffering, -⟩
    cases hawaits.symm.trans hw
    cases hoffering
  have hy : y = (post v.env k z).admitPunt b :=
    puntTake_admits hlistener hup hclaims hrests hidle hqueue hf hoffers (Nat.le_of_succ_le hcells) hposts
      (by simp [z]) hlength hfirst
  refine ⟨r, ?_⟩
  rw [hy, admitPunt_mgmtOut (p := l.port) _ b rfl, hout, hmgmt, List.append_assoc]
  simp only [Accepted, admitPunt_frame, post_frame]
  refine ⟨congrArg List.head? hrecords', rfl, hawaits, haccepted, rfl, rfl, rfl, ?_, .refl _, rfl⟩
  have hafter : (post v.env k z).pool.freeReserve + 1 = x.pool.freeReserve - b.cells := hreserve
  omega

end

end Commons

end Sys2Proof.Machine
end

section
/-! PROOF. The bytes of events and of punt reports (R169, R172, R179, 12.5), and the three rows of the event unit. -/

set_option Elab.async false

namespace Sys2Proof.Machine

open Sys2Proof.Safety

/-! ### Events and punt reports in bytes (12.5) -/

/-- Padding alone, where nothing is cut. -/
theorem padTo_eq_append {n : Nat} {l : List Byte} (h : l.length ≤ n) :
    padTo n l = l ++ List.replicate (n - l.length) 0#8 := by
  rw [padTo, List.take_append, List.take_of_length_le h, List.take_replicate, Nat.min_eq_left (Nat.sub_le n l.length)]

/-- The detail of an event fits its 8 bytes (R172). -/
theorem eventDetail_length_le (k : EventKind) : (eventDetail k).length ≤ 8 := by
  cases k <;> simp [eventDetail, optWord16, word16Bytes, word32Bytes, beBytes]

theorem optWord16_map (slot : Option Nat) : optWord16 (slot.map (BitVec.ofNat 16)) =
    word16Bytes (match slot with | some n => BitVec.ofNat 16 n | none => 0xFFFF#16) := by
  cases slot <;> rfl

/-- The drop reason and the drop code of a punt report. -/
theorem dropBytes_eq (why : Option DropReason) : [dropCode why, ruleDropCode why] =
    match why with
    | none => [0#8, 0#8]
    | some .fallbackBlock => [9#8, 0#8]
    | some .prefilterMiss => [10#8, 0#8]
    | some (.ruleDrop k) => [11#8, BitVec.ofNat 8 k.val]
    | some .hopExpired => [12#8, 0#8]
    | some .noDestination => [13#8, 0#8] := by
  cases why with
  | none => rfl
  | some reason => cases reason <;> rfl

end Sys2Proof.Machine

namespace Sys2Proof.Settled

open Sys2Proof.Machine Sys2Proof.Safety

/-- Settles O52: the report of the head that joins its queue by EVENT_SEND and by the retry timer below retry 3, the
head that is given up at 3, the punt report alone or behind the event report of POOL_OK, and the bytes of both. -/
theorem reportsGoOut : Obligations.ReportsGoOut := by
  intro s l hlistener hup hclaims hoffers hroom
  refine ⟨fun r rest hqueue hcell => ?_, fun id rest f hidle hpunts hf hrests => ?_, fun k => ⟨?_, ?_⟩, fun _ => rfl,
    fun f => ?_⟩
  · have hfree : s.commons.RoomAt l.port := ⟨hclaims, hoffers, hroom, hcell⟩
    refine ⟨fun hsender => ?_, fun w hsender htimer hflight => ⟨fun hretry => ?_, fun hretry => ?_⟩⟩
    · obtain ⟨hout, hevents, hpool⟩ := s.commons.reported_effects
        (report := eventReport l s.endpoint.nodeAddress r s.commons.events.lost) rfl 0 s.commons.events.lost
      rw [← Commons.trySend_reports hlistener hup hqueue hfree hsender] at hout hevents hpool
      exact ⟨s.onCommons Commons.trySend, rfl, hout, hevents, hpool, rfl⟩
    · obtain ⟨hout, hevents, hpool⟩ := s.commons.reported_effects
        (report := eventReport l s.endpoint.nodeAddress r w.captured) rfl (w.retry + 1) w.captured
      rw [← Commons.resend_reports hlistener hup hqueue hfree hsender hflight,
        ← Commons.retryExpiry_resends hsender htimer s.env hretry] at hout hevents hpool
      exact ⟨s.onCommons Commons.retryExpiry, rfl, hout, hevents, hpool, rfl⟩
    · have htail : s.commons.events.queue.tail = rest := congrArg List.tail hqueue
      obtain ⟨hleft, hlost, hcount, hnext⟩ := s.commons.exhaust_frame s.env
      have hexpiry : (s.onCommons Commons.retryExpiry).commons = Commons.exhaust s.env s.commons :=
        Commons.retryExpiry_exhausts hsender htimer s.env hretry
      refine ⟨s.onCommons Commons.retryExpiry, rfl, ?_⟩
      rw [hexpiry]
      exact ⟨hleft.trans htail, hlost, hcount, hnext,
        fun hnone => s.commons.exhaust_stops s.env (htail.trans hnone),
        fun hmore => s.commons.exhaust_sends hlistener hup (htail ▸ hmore) hfree, rfl⟩
  · refine ⟨fun hquiet hcells => ?_, fun hlast hstored hsender hlow hhigh hshort hcells => ?_⟩
    · obtain ⟨hout, hleft, hpunt, hreserve, hframes, hcellList⟩ := Commons.puntTake_joins hlistener hup hclaims hrests
        hidle hpunts hf hoffers hroom hcells hquiet
      exact ⟨s.onCommons Commons.puntTake, rfl, hout, hleft, hpunt, hreserve, hframes, hcellList, rfl⟩
    · obtain ⟨r, hhead, hout, hsends, hposted, hok, hleft, hpunt, hreserve, hcellList, hframes⟩ :=
        Commons.puntTake_joins_behind hlistener hup hclaims hrests hidle hpunts hf hoffers hlast hstored hsender hlow
          hhigh hshort hcells
      exact ⟨s.onCommons Commons.puntTake, r, rfl, hhead, hout, hsends, hposted, hok, hleft, hpunt, hreserve, hcellList,
        hframes, rfl⟩
  · exact padTo_eq_append (eventDetail_length_le k)
  · cases k with
    | linkUp p => cases p <;> rfl
    | linkDown p oper => cases p <;> rfl
    | sessionOpened node p number => cases p <;> rfl
    | commitFailed record step why origin => cases step <;> rfl
    | _ => rfl
  · rw [puntPayload, portCode_eq, optWord16_map, dropBytes_eq]
    rfl

end Sys2Proof.Settled
end

section
/-! PROOF. The step by the commands that wait, and every command leaves those behind it (log 3). -/

set_option Elab.async false

namespace Sys2Proof.Machine

/-! ### The step (log 3) -/

theorem step_of_pending_cons {s : State} {c : Instr} {rest : List Instr} (h : s.pending = c :: rest) :
    step s = exec c { s with pending := rest } := by
  rw [step, h]

theorem step_of_pending_nil {s : State} (h : s.pending = []) : step s = .next s := by
  rw [step, h]

/-! ### The commands that wait (log 3) -/

@[simp] theorem State.post_pending (s : State) (k : EventKind) : (s.post k).pending = s.pending :=
  s.onCommons_pending _

theorem State.swap_pending (s : State) : s.swap.pending = s.pending := by
  unfold State.swap
  split
  · exact State.post_pending _ _
  · rfl

theorem State.verdictFail_pending (s : State) : s.verdictFail.pending = s.pending := by
  unfold State.verdictFail
  split
  · split
    · rfl
    · exact State.post_pending _ _
  · rfl

/-- A reset keeps the commands that wait, as any other happening does. -/
theorem Becomes.pending {s t : State} (h : Becomes s t) : t.pending = s.pending := by
  obtain hsteady | ⟨straps, a, b, cause, rfl⟩ := h
  · exact hsteady.pending
  · rfl

end Sys2Proof.Machine

namespace Sys2Proof.Settled

open Sys2Proof.Machine

/-- Settles O2: a swap and a FAIL verdict change blocks behind the queue alone, and any other command is steady or ends
in a reset, which keeps the commands that wait. -/
theorem commandsLeaveTheQueue : Obligations.CommandsLeaveTheQueue := by
  intro i s t h
  by_cases hswap : i = .swap
  · subst hswap
    cases h
    exact s.swap_pending
  by_cases hfail : i = .verdictFail
  · subst hfail
    cases h
    exact s.verdictFail_pending
  exact (exec_becomes h hswap hfail).pending

/-- Settles O1: the two cases of the queue of commands that wait. -/
theorem stepRunsFrontCommand : Obligations.StepRunsFrontCommand :=
  ⟨fun _ _ _ => step_of_pending_cons, fun _ => step_of_pending_nil⟩

end Sys2Proof.Settled
end
